-- ==== Sys2Proof/Word.lean ====
section
/-! DEFINITION. The words and the index types of the KD32: bytes, patterns, chain images, the numbers of lines,
trunks, slots, inputs, records, channels and groups (00_scope.md, Identifiers), and the two-valued names A and B. -/

namespace Sys2Proof

/-- One byte of a frame, of a slot word or of a tag block. -/
abbrev Byte := BitVec 8
/-- One 24-bit slot word as it crosses a Tap Loop, its first bit the most significant (R185). -/
abbrev SlotWord := BitVec 24
/-- The on or off state of the eight outputs of one valve group. -/
abbrev Pattern := BitVec 8
/-- The 144 bits of the Valve Chain: bit `8 * g + b` is bit `b` of group `g` (R186). -/
abbrev Image := BitVec 144
/-- A 64-bit keg tag. -/
abbrev Tag := BitVec 64
/-- A set of lines, bit `n` standing for line `n` (R184). -/
abbrev LineSet := BitVec 32

/-- A beer line, 0 to 31. -/
abbrev Line := Fin 32
/-- A trunk, 0 to 5. -/
abbrev Trunk := Fin 6
/-- A slot of a Tap Loop, 0 to 23. -/
abbrev Slot := Fin 24
/-- A sense input, S0 to S15. -/
abbrev SenseInput := Fin 16
/-- A record index of the Stand Account Table, 0 to 47. -/
abbrev AccountIx := Fin 48
/-- A timebase channel, TB0 to TB3. -/
abbrev Channel := Fin 4
/-- A valve group, VG0 to VG17. -/
abbrev ValveGroup := Fin 18

/-- The two Tap Loops. -/
inductive LoopId where
  | A
  | B
  deriving DecidableEq, Repr

/-- The two keg positions of a line. -/
inductive Position where
  | A
  | B
  deriving DecidableEq, Repr

/-- The position across from `p`, where a changeover looks for its target (R84). -/
def Position.other : Position → Position
  | .A => .B
  | .B => .A

/-- The largest value of a saturating 32-bit total. -/
def maxTotal : Nat := 4294967295

/-- Addition to a 32-bit total that saturates and does not wrap (00_scope.md, Quantities). -/
def satAdd (a b : Nat) : Nat := min (a + b) maxTotal

end Sys2Proof
end

