-- ==== Sys2Proof/Syntax.lean ====
section
/-! DEFINITION. The commands of the KD32: one constructor of `Instr` for each row of spec/opcode_table.json, in the
table's order. The operands of a Venue Link command are the fields of its payload (section 11.2), as numbers that may
lie outside the range the command accepts, because the command's own rule refuses or clamps them. The operands of an
event are what the event brings from the pins, or the record it happens to. -/

namespace Sys2Proof

/-- The fields of a LINE_CONFIG payload (R3, section 11.2). -/
structure LineConfigArgs where
  line : Nat
  content : Nat
  product : Nat
  trunk : Nat
  fill : Nat
  k : Nat
  tailSeed : Nat
  loop : Nat
  slot : Nat
  account : Nat
  portionSet : Nat
  primePercent : Nat
  deriving DecidableEq, Repr

/-- The fields of a LINE_SET payload (R16, section 11.2). -/
structure LineSetArgs where
  line : Nat
  selection : Nat
  account : Nat
  portionSet : Nat
  primePercent : Nat
  trunk : Nat
  loop : Nat
  slot : Nat
  fill : Nat
  k : Nat
  product : Nat
  tailReseed : Nat
  deriving DecidableEq, Repr

/-- The fields of a PORTION_SET payload (R18). -/
structure PortionSetArgs where
  set : Nat
  size1 : Nat
  size2 : Nat
  size3 : Nat
  size4 : Nat
  cap : Nat
  deriving DecidableEq, Repr

/-- The fields of a PART_SET payload: a selection and ten values in the order of the timing table (R67). -/
structure PartSetArgs where
  selection : Nat
  frameRate : Nat
  settle : Nat
  tailWindow : Nat
  startGrace : Nat
  lowFlowBlock : Nat
  lowFlowMin : Nat
  lostThreshold : Nat
  waitTimeout : Nat
  maxPour : Nat
  emptyMargin : Nat
  deriving DecidableEq, Repr

/-- The fields of a KEG_ENROL payload (R72). -/
structure KegEnrolArgs where
  tag : Tag
  product : Nat
  nominal : Nat
  line : Nat
  position : Nat
  deriving DecidableEq, Repr

/-- The fields of a TRUNK_CLIMATE payload (R129). -/
structure TrunkClimateArgs where
  trunk : Nat
  setpoint : Int
  warn : Int
  stop : Int
  gain : Nat
  bias : Nat
  deriving DecidableEq, Repr

/-- The fields of a CHILLER_SET payload (R134). -/
structure ChillerSetArgs where
  sp : Int
  h1 : Nat
  h2 : Nat
  minOn : Nat
  minOff : Nat
  surge : Nat
  deriving DecidableEq, Repr

/-- The fields of a RECIPE_SET payload (R140). -/
structure RecipeSetArgs where
  recipe : Nat
  warm : Nat
  purge : Nat
  caustic : Nat
  soak : Nat
  rinse : Nat
  passes : Nat
  condMin : Nat
  condMax : Nat
  target : Int
  timeout : Nat
  deriving DecidableEq, Repr

/-- The commands and events of the part, one constructor per row of spec/opcode_table.json. -/
inductive Instr where
  /-- PIN_RESET (R183): RESET_N is asserted. -/
  | pinReset
  /-- COMMAND_WRITE (R175): the bytes that followed 0x01, and the level of the SERVICE pin while the frame is taken. -/
  | commandWrite (service : Bool) (bytes : List Byte)
  /-- RESPONSE_READ (R177): `n` bytes are clocked after the first byte. -/
  | responseRead (n : Nat)
  /-- STATUS_READ (R178): `n` bytes are clocked after the first byte. -/
  | statusRead (n : Nat)
  /-- UNKNOWN_TRANSACTION (R174): a first byte that is not 0x01, 0x02 or 0x03, and `n` bytes after it. -/
  | unknownTransaction (first : Byte) (n : Nat)
  | lineConfig (args : LineConfigArgs)
  | lineSet (args : LineSetArgs)
  | lineHold (line : Nat)
  | lineRelease (line : Nat)
  | linePrime (line : Nat)
  | lineRetire (line : Nat)
  | lineRead (line : Nat)
  | portionSet (args : PortionSetArgs)
  | calLock
  /-- CAL_UNLOCK (R19): `service` is the level of the SERVICE pin when the command is taken. -/
  | calUnlock (service : Bool)
  | pourAbort (line : Nat)
  | pourRead (line : Nat)
  | trunkDraw (trunk : Nat) (limit : Nat)
  | partSet (args : PartSetArgs)
  | kegEnrol (args : KegEnrolArgs)
  | kegCheck (line : Nat) (position : Nat)
  | kegConfirm (line : Nat) (position : Nat) (verdict : Nat)
  | kegRetire (line : Nat) (position : Nat)
  | kegRead (line : Nat) (position : Nat)
  | kegFind (tag : Tag)
  | accountOpen (id : Nat) (float : Nat) (credit : Int)
  | accountCredit (id : Nat) (amount : Int)
  | accountFloat (id : Nat) (float : Nat)
  | accountClose (id : Nat)
  | accountRead (selector : Nat) (key : Nat) (page : Nat)
  | loopSet (loop : Nat) (slots : Nat)
  | loopStart (loop : Nat)
  | loopStop (loop : Nat)
  | loopReset (loop : Nat)
  | loopRead (loop : Nat) (page : Nat)
  | scanSet (resolution : Nat) (mask : BitVec 16)
  | channelSet (input : Nat) (role : Nat) (base : Int) (span : Nat)
  | scanStart
  | scanStop
  | trunkClimate (args : TrunkClimateArgs)
  | chillerSet (args : ChillerSetArgs)
  | boost (offset : Nat) (cycles : Nat)
  | climateRead (page : Nat)
  | recipeSet (args : RecipeSetArgs)
  | cleanSet (groupSize : Nat) (pumpMin : Nat)
  | cleanSubmit (lines : LineSet) (recipe : Nat)
  | cleanAbort (lines : LineSet)
  | cleanHalt
  | cleanRead (page : Nat)
  | timebaseSet (channel : Nat) (period : Nat) (margin : Nat)
  | timebaseSync (mask : Byte)
  | valveClear
  | valveRead (page : Nat)
  | attnRead
  | attnMask (kinds : BitVec 16)
  /-- PART_RESET (R182): `tag` is the tag of its frame, which the response posted at completion echoes. -/
  | partReset (tag : Byte)
  /-- PART_RESET_COMPLETE (R182): every block has completed its reset. -/
  | partResetComplete
  /-- FRAME_SYNC (R108): the frame sync of a loop falls. -/
  | frameSync (loop : LoopId)
  /-- SLOT_END (R110): a slot ends with the 24 bits shifted in during it. -/
  | slotEnd (loop : LoopId) (slot : Slot) (word : SlotWord)
  /-- FAUCET_LOST (R113): the miss run of a slot has reached the lost threshold. -/
  | faucetLost (loop : LoopId) (slot : Slot)
  /-- POUR_OVERTIME (R53): the frames open of a line's pour have reached the maximum pour. -/
  | pourOvertime (line : Line)
  /-- LOW_FLOW_BLOCK_END (R54): the block frames of a line's pour have reached W. -/
  | lowFlowBlockEnd (line : Line)
  /-- WAIT_TIMEOUT (R49): the wait frames of a line's pour have reached the wait timeout. -/
  | waitTimeout (line : Line)
  /-- PROMOTION (R48): promotion is made on a trunk that has room. -/
  | promotion (trunk : Trunk)
  /-- TAIL_QUIET_SETTLE (R56): the quiet frames of a line's pour have reached the settle count. -/
  | tailQuietSettle (line : Line)
  /-- TAIL_WINDOW (R56): the frames since close of a line's pour have reached the tail window. -/
  | tailWindow (line : Line)
  /-- COUPLER_READ_START (R73): the idle bus takes the head entry. -/
  | couplerReadStart
  /-- COUPLER_COPY_READ (R74): a read of one copy ends with its status byte and its 16 tag block bytes, the first
  byte clocked the most significant. -/
  | couplerCopyRead (status : Byte) (block : BitVec 128)
  /-- CONVERSION_COMPLETE (R124): the conversion in progress ends with this code. -/
  | conversionComplete (code : Nat)
  /-- PROBE_FAILED (R123): the fault run of the role on an input has reached 8. -/
  | probeFailed (input : SenseInput)
  /-- TIMEBASE_PERIOD_EVENT (R161): the counter of a channel reaches its period. -/
  | timebasePeriodEvent (channel : Channel)
  /-- TIMEBASE_MARGIN_EVENT (R161): the counter of a channel reaches its margin. -/
  | timebaseMarginEvent (channel : Channel)
  /-- CYCLE_START (R131): window 0 fixes the duties of the new cycle. -/
  | cycleStart
  /-- BOOST_END (R137): the remaining cycles of the boost have reached 0. -/
  | boostEnd
  /-- STAGE_SWITCH (R136): a compressor stage switches; `second` names stage 2. -/
  | stageSwitch (second : Bool)
  /-- PUMP_FLOW_PULSE (R164): a pulse on PUMP_FLOW. -/
  | pumpFlowPulse
  /-- PUMP_FAULT (R149): the low-pump run of the group has reached 5. -/
  | pumpFault
  /-- PHASE_TIMEOUT (R148): the step count of a metered run has reached the phase timeout. -/
  | phaseTimeout
  /-- SOAK_END (R152): the step count has reached the soak steps. -/
  | soakEnd
  /-- GROUP_FORMATION (R143): group formation is considered. -/
  | groupFormation
  /-- GROUP_RELEASE (R155): the release of a group in RELEASE with no draw in flight. -/
  | groupRelease
  /-- CHAIN_SHIFT_START (R169): a wanted shift begins on the free chain. -/
  | chainShiftStart
  /-- CHAIN_SHIFT_END (R170): the shift in progress ends with this echoed image. -/
  | chainShiftEnd (echo : Image)
  /-- RESET_N_RELEASE (R183): RESET_N returns high. -/
  | resetNRelease
  deriving DecidableEq, Repr

end Sys2Proof
end

