-- ==== Sys2Proof/Machine/State.lean ====
section
/-! DEFINITION. The state of the KD32 as plain data: one structure per block of the part, with every record, field, queue
and flag the manual gives it, and the reset values of each block's own chapter. A field that the manual calls absent
in some mode is an `Option`, or stands in the constructor of the state that has it. -/

namespace Sys2Proof.Machine

/-! ### Line Table (Chapter 1) -/

/-- Line modes, in the order of section 1.1, which is their coding (R184). -/
inductive Mode where
  | offline
  | water
  | priming
  | ready
  | dry
  | held
  | cleaning
  | foul
  deriving DecidableEq, Repr

/-- The outcome of a line's last cleaning, in the order of section 1.1. -/
inductive CleanResult where
  | none
  | pass
  | failWeak
  | failRinse
  | failTimeout
  | failLoop
  | aborted
  | halted
  deriving DecidableEq, Repr

/-- The faucet bound to a line (R15). -/
structure Binding where
  loop : LoopId
  slot : Slot
  deriving DecidableEq, Repr

/-- The fields of a line record that are present in every mode but OFFLINE (section 1.1). -/
structure LineCfg where
  product : Nat
  trunk : Trunk
  fill : Nat
  k : Nat
  /-- the learned tail estimate T, in nL -/
  tail : Nat
  binding : Binding
  account : Nat
  portionSet : Fin 4
  primePercent : Nat
  deriving DecidableEq, Repr

/-- The six totals of a line, in mL but for the pour count (section 1.12). -/
structure Totals where
  billed : Nat
  unbilled : Nat
  house : Nat
  loss : Nat
  warm : Nat
  pours : Nat
  deriving DecidableEq, Repr

/-- One line record (section 1.1). -/
structure LineRec where
  mode : Mode
  cfg : Option LineCfg
  heldFrom : Option Mode
  primed : Option Nat
  lastKeg : Option Position
  cleanResult : CleanResult
  cleanCount : Nat
  totals : Totals
  saturation : Nat
  deriving DecidableEq, Repr

/-- One portion set: four sizes and the free-pour cap, in mL (R18). -/
structure PortionSet where
  size1 : Nat
  size2 : Nat
  size3 : Nat
  size4 : Nat
  cap : Nat
  deriving DecidableEq, Repr

/-- The Line Table: its records, the binding map of each loop, the stored K table, the calibration lock and the
portion sets. -/
structure LineTable where
  lines : Vector LineRec 32
  mapA : Vector (Option Line) 24
  mapB : Vector (Option Line) 24
  storedK : Vector Nat 32
  calLock : Bool
  portions : Vector PortionSet 4
  deriving DecidableEq, Repr

/-- The line totals after a reset (R1). -/
def Totals.reset : Totals := ⟨0, 0, 0, 0, 0, 0⟩

/-- A line record after a reset or a retirement (R1, R4). -/
def LineRec.reset : LineRec :=
  { mode := .offline, cfg := none, heldFrom := none, primed := none, lastKeg := none, cleanResult := .none,
    cleanCount := 0, totals := Totals.reset, saturation := 0 }

/-- The default portion set of section 1.10. -/
def PortionSet.reset : PortionSet := ⟨300, 400, 500, 568, 1000⟩

/-- The Line Table after a pin reset (R1). -/
def LineTable.reset : LineTable :=
  { lines := Vector.replicate 32 LineRec.reset, mapA := Vector.replicate 24 none, mapB := Vector.replicate 24 none,
    storedK := Vector.replicate 32 0, calLock := false, portions := Vector.replicate 4 PortionSet.reset }

/-! ### Pour Control (Chapters 2 and 3) -/

/-- Pour kinds; a portion number is 1 to 4. -/
inductive PourKind where
  | portion (n : Fin 4)
  | free
  | prime
  | clean
  deriving DecidableEq, Repr

/-- Close reasons, in the order of section 3.1. -/
inductive CloseReason where
  | target
  | cap
  | handle
  | stop
  | abort
  | lowFlow
  | overtime
  | lost
  | loopStopped
  deriving DecidableEq, Repr

/-- How a settled pour ended (section 3.1). -/
inductive Ending where
  | quiet
  | window
  | immediate
  deriving DecidableEq, Repr

/-- Refusal reasons shown at a faucet, in the order of R40. -/
inductive RefusalReason where
  | notReady
  | held
  | cleaning
  | cleanPending
  | tooWarm
  | noAccount
  | noCredit
  | trunkFull
  | timeout
  deriving DecidableEq, Repr

/-- The fields of a pour record that are present in every state but IDLE (section 3.1, R23). -/
structure Pour where
  kind : PourKind
  /-- target in nL -/
  target : Nat
  /-- hold in mL -/
  hold : Nat
  /-- the latched account ID of a PORTION or FREE pour; 0 for a house pour -/
  account : Option Nat
  /-- accumulated volume V in nL -/
  v : Nat
  clamp : Bool
  warm : Bool
  deriving DecidableEq, Repr

/-- A pour record: its state with the fields that the state has (section 3.1). -/
inductive PourRec where
  | idle
  | waiting (p : Pour) (waitFrames : Nat)
  | pouring (p : Pour) (framesOpen : Nat) (blockFrames : Nat) (blockPulses : Nat)
  | tailing (p : Pour) (framesOpen : Nat) (vClose : Nat) (reason : CloseReason) (quiet : Nat) (sinceClose : Nat)
  deriving DecidableEq, Repr

/-- The last-settlement summary of a line (R59). -/
structure Settlement where
  kind : PourKind
  reason : CloseReason
  ending : Ending
  vml : Nat
  measured : Nat
  billed : Nat
  unbilled : Nat
  tail : Nat
  deriving DecidableEq, Repr

/-- What Pour Control keeps for one line. -/
structure PourSlot where
  record : PourRec
  shown : Option RefusalReason
  last : Option Settlement
  deriving DecidableEq, Repr

/-- What Pour Control keeps for one trunk: the draw limit and the wait queue, head first (R48). -/
structure TrunkDraw where
  limit : Nat
  queue : List Line
  deriving DecidableEq, Repr

/-- The ten timing parameters of section 3.12. -/
structure Timing where
  frameRate : Nat
  settle : Nat
  tailWindow : Nat
  startGrace : Nat
  lowFlowBlock : Nat
  lowFlowMin : Nat
  lostThreshold : Nat
  waitTimeout : Nat
  maxPour : Nat
  emptyMargin : Nat
  deriving DecidableEq, Repr

/-- Pour Control. -/
structure PourControl where
  pours : Vector PourSlot 32
  trunks : Vector TrunkDraw 6
  timing : Timing
  deriving DecidableEq, Repr

/-- The defaults of section 3.12. -/
def Timing.reset : Timing :=
  { frameRate := 250, settle := 16, tailWindow := 250, startGrace := 250, lowFlowBlock := 125, lowFlowMin := 4,
    lostThreshold := 32, waitTimeout := 750, maxPour := 15000, emptyMargin := 1500 }

/-- An idle line with nothing shown and nothing settled (R36). -/
def PourSlot.reset : PourSlot := { record := .idle, shown := none, last := none }

/-- Pour Control after a reset (R36). -/
def PourControl.reset : PourControl :=
  { pours := Vector.replicate 32 PourSlot.reset, trunks := Vector.replicate 6 { limit := 8, queue := [] },
    timing := Timing.reset }

/-! ### Keg Register (Chapter 4) -/

/-- Keg states, in the order of section 4.1. -/
inductive KegState where
  | verifying
  | standby
  | onTap
  | spent
  deriving DecidableEq, Repr

/-- The outcome of a tag read, or of an enrolment withdrawn by retirement (section 11.1). -/
inductive TagOutcome where
  | isMatch
  | mismatch
  | tagBad
  | noCoupler
  | readerFault
  | withdrawn
  deriving DecidableEq, Repr

/-- One keg record (section 4.1). Volumes are in mL. -/
structure KegRec where
  tag : Tag
  product : Nat
  nominal : Nat
  state : KegState
  drawn : Nat
  billed : Nat
  unbilled : Nat
  house : Nat
  loss : Nat
  lowFlows : Nat
  suspect : Bool
  checkFailed : Bool
  lastCheck : Option TagOutcome
  deriving DecidableEq, Repr

/-- The last enrol outcome of a line (section 4.1). -/
structure LastEnrol where
  position : Position
  tag : Tag
  outcome : TagOutcome
  /-- the tag that was read, for a MISMATCH -/
  tagRead : Option Tag
  deriving DecidableEq, Repr

/-- What the Keg Register keeps for one line: the record at each position and the last enrol outcome. -/
structure KegSlots where
  a : Option KegRec
  b : Option KegRec
  lastEnrol : Option LastEnrol
  deriving DecidableEq, Repr

/-- The purpose of a Coupler Read Queue entry (R73). -/
inductive ReadPurpose where
  | enrol
  | check
  deriving DecidableEq, Repr

/-- One Coupler Read Queue entry (R73). -/
structure ReadEntry where
  line : Line
  position : Position
  purpose : ReadPurpose
  expected : Tag
  deriving DecidableEq, Repr

/-- The transaction in progress for the head entry: the copy being read, whether it is that copy's retry, and the
discard mark (R73, R74). -/
structure Transaction where
  copy : Nat
  retry : Bool
  discard : Bool
  deriving DecidableEq, Repr

/-- The Keg Register; `bus` is absent while the Coupler Bus is idle. -/
structure KegRegister where
  kegs : Vector KegSlots 32
  queue : List ReadEntry
  bus : Option Transaction
  deriving DecidableEq, Repr

/-- The Keg Register after a reset (R68). -/
def KegRegister.reset : KegRegister :=
  { kegs := Vector.replicate 32 { a := none, b := none, lastEnrol := none }, queue := [], bus := none }

/-! ### Stand Account Table (Chapter 5) -/

/-- Account states, in the order of section 5.1. -/
inductive AccountState where
  | opened
  | closing
  | closed
  deriving DecidableEq, Repr

/-- One account record (section 5.1). Volumes are in mL. -/
structure Account where
  id : Nat
  state : AccountState
  credited : Int
  available : Int
  held : Int
  spent : Int
  float : Nat
  holds : Nat
  settled : Nat
  deriving DecidableEq, Repr

/-! ### Tap Loops (Chapter 6) -/

/-- The state of a loop, with the rate in effect of a RUNNING loop. -/
inductive LoopState where
  | stopped
  | running (rate : Nat)
  deriving DecidableEq, Repr

/-- The receive state of a bound slot (section 6.2). -/
structure RecvState where
  missRun : Nat
  lost : Bool
  lastSeq : Option (BitVec 3)
  code : Option (BitVec 3)
  deriving DecidableEq, Repr

/-- Lamp codes, in the order of R63. -/
inductive Lamp where
  | off
  | ready
  | pouring
  | waiting
  | refused
  | cleaning
  | held
  | notReady
  deriving DecidableEq, Repr

/-- The four fields of an outbound command (R63). -/
structure OutCommand where
  valve : Bool
  lamp : Lamp
  portion : Nat
  value : Nat
  deriving DecidableEq, Repr

/-- One loop record with the receive state and the latched outbound command of each slot (section 6.2, R105). `slot` is the
slot of the frame in progress that runs now (R108), absent in STOPPED and between the last slot's end and the next frame sync. -/
structure LoopRec where
  state : LoopState
  slotCount : Nat
  slot : Option (Fin 24)
  frames : Nat
  checkErrors : Nat
  stales : Nat
  recv : Vector (Option RecvState) 24
  latched : Vector (Option OutCommand) 24
  deriving DecidableEq, Repr

/-- The two loops. -/
structure TapLoops where
  a : LoopRec
  b : LoopRec
  deriving DecidableEq, Repr

/-- The fresh condition of a receive state (section 6.2). -/
def RecvState.fresh : RecvState := { missRun := 0, lost := false, lastSeq := none, code := none }

/-- A loop record after a reset (R105). -/
def LoopRec.reset : LoopRec :=
  { state := .stopped, slotCount := 16, slot := none, frames := 0, checkErrors := 0, stales := 0,
    recv := Vector.replicate 24 none, latched := Vector.replicate 24 none }

/-- The Tap Loops after a reset (R105). -/
def TapLoops.reset : TapLoops := { a := LoopRec.reset, b := LoopRec.reset }

/-! ### Cellar Climate (Chapter 7) -/

/-- The role of an input (section 7.1). -/
inductive Role where
  | unused
  | trunkBeer (t : Trunk)
  | trunkGlycol (t : Trunk)
  | bath
  | solutionTemp
  | solutionCond
  deriving DecidableEq, Repr

/-- An input channel (section 7.1). -/
structure InputChannel where
  role : Role
  base : Int
  span : Nat
  deriving DecidableEq, Repr

/-- The conversion in progress: its input and the resolution with which it began (R120). -/
structure Conversion where
  input : SenseInput
  bits : Nat
  deriving DecidableEq, Repr

/-- The scanner (section 7.1). -/
structure Scanner where
  running : Bool
  resolution : Nat
  mask : BitVec 16
  conversion : Option Conversion
  deriving DecidableEq, Repr

/-- A role record but for its assigned input, which is the input whose channel holds the role (section 7.1). -/
structure RoleRec where
  value : Option Int
  filtered : Option Int
  faultRun : Nat
  failed : Bool
  deriving DecidableEq, Repr

/-- Trunk gates, in the order of section 7.1. -/
inductive Gate where
  | cold
  | warn
  | hot
  deriving DecidableEq, Repr

/-- Gate sources, in the order of section 7.1. -/
inductive GateSource where
  | beer
  | glycol
  | none
  deriving DecidableEq, Repr

/-- A trunk zone (section 7.1). -/
structure Zone where
  setpoint : Int
  warn : Int
  stop : Int
  gain : Nat
  bias : Nat
  gate : Gate
  source : GateSource
  duty : Nat
  override : Bool
  deriving DecidableEq, Repr

/-- A compressor stage: its state and its run count in windows. -/
structure Stage where
  on : Bool
  run : Nat
  deriving DecidableEq, Repr

/-- The chiller (section 7.1). -/
structure Chiller where
  sp : Int
  h1 : Nat
  h2 : Nat
  minOn : Nat
  minOff : Nat
  surge : Nat
  stage1 : Stage
  stage2 : Stage
  deriving DecidableEq, Repr

/-- A boost in force (R137). -/
structure Boost where
  offset : Nat
  remaining : Nat
  deriving DecidableEq, Repr

/-- Cellar Climate; the role records stand in the coding of CHANNEL_SET, less one. -/
structure Climate where
  scanner : Scanner
  inputs : Vector InputChannel 16
  roles : Vector RoleRec 15
  zones : Vector Zone 6
  chiller : Chiller
  boost : Option Boost
  window : Nat
  deriving DecidableEq, Repr

/-- A restarted role record (R119, R121). -/
def RoleRec.reset : RoleRec := { value := none, filtered := none, faultRun := 0, failed := false }

/-- A trunk zone after a reset (R119). -/
def Zone.reset : Zone :=
  { setpoint := 0, warn := 0, stop := 0, gain := 0, bias := 0, gate := .cold, source := .none, duty := 0,
    override := false }

/-- Cellar Climate after a reset (R119). -/
def Climate.reset : Climate :=
  { scanner := { running := false, resolution := 12, mask := 0, conversion := none }
    inputs := Vector.replicate 16 { role := .unused, base := 0, span := 0 }
    roles := Vector.replicate 15 RoleRec.reset
    zones := Vector.replicate 6 Zone.reset
    chiller := { sp := 0, h1 := 0, h2 := 0, minOn := 0, minOff := 0, surge := 0, stage1 := ⟨false, 65535⟩,
                 stage2 := ⟨false, 65535⟩ }
    boost := none
    window := 15 }

/-! ### Cleaning Sequencer (Chapter 8) -/

/-- The ten fields of a cleaning recipe (section 8.1). -/
structure Recipe where
  warm : Bool
  purge : Nat
  caustic : Nat
  soak : Nat
  rinse : Nat
  passes : Nat
  condMin : Nat
  condMax : Nat
  target : Int
  timeout : Nat
  deriving DecidableEq, Repr

/-- One Cleaning Queue entry. -/
structure CleanEntry where
  line : Line
  recipe : Fin 4
  deriving DecidableEq, Repr

/-- Cleaning phases, in the order of section 8.1. -/
inductive Phase where
  | take
  | purge
  | caustic
  | soak
  | rinse
  | verify
  | release
  deriving DecidableEq, Repr

/-- The result of a group line, in the order of its row in the record table of section 8.1. -/
inductive GroupResult where
  | pending
  | failWeak
  | failTimeout
  | failLoop
  | aborted
  | halted
  | pass
  | failRinse
  deriving DecidableEq, Repr

/-- What TAKE still waits for (R144, R167): a TB0 period event after the takes, then its margin event, then the end of
the shift that carries phase 2, which is the next shift when one was in progress at the margin event. -/
inductive TakeWait where
  | period
  | margin
  | nextShift
  | thisShift
  deriving DecidableEq, Repr

/-- One group line (section 8.1); `draw` is the phase and run of the draw in flight. -/
structure GroupLine where
  line : Line
  heldProduct : Bool
  result : GroupResult
  owed : Nat
  delivered : Nat
  draw : Option (Phase × Nat)
  deriving DecidableEq, Repr

/-- The active group (section 8.1). -/
structure Group where
  recipe : Recipe
  recipeNo : Fin 4
  phase : Phase
  run : Nat
  steps : Nat
  lowPump : Nat
  lastPump : Nat
  lossReported : Bool
  heater : Bool
  lines : List GroupLine
  takeWait : TakeWait
  deriving DecidableEq, Repr

/-- The Cleaning Sequencer; an INVALID recipe is absent. -/
structure Cleaning where
  recipes : Vector (Option Recipe) 4
  groupSize : Nat
  pumpMin : Nat
  queue : List CleanEntry
  group : Option Group
  deriving DecidableEq, Repr

/-- The Cleaning Sequencer after a reset (R139). -/
def Cleaning.reset : Cleaning :=
  { recipes := Vector.replicate 4 none, groupSize := 4, pumpMin := 10, queue := [], group := none }

/-! ### Valve Output Unit and Cellar Timebase (Chapter 9) -/

/-- The patterns of a valve group and its turn-on pending flag, which VG16 never sets (section 9.2). -/
structure GroupPatterns where
  next : Pattern
  snapshot : Pattern
  current : Pattern
  turnOn : Bool
  deriving DecidableEq, Repr

/-- The Valve Output Unit; `shifting` holds the image of the shift in progress and is absent while IDLE (R169). -/
structure Valves where
  groups : Vector GroupPatterns 18
  shifting : Option Image
  wanted : Bool
  fault : Bool
  mismatches : Nat
  firstMismatch : Option (ValveGroup × Fin 8)
  deriving DecidableEq, Repr

/-- A timebase channel (section 9.1). -/
structure TimeChannel where
  counter : Nat
  period : Nat
  margin : Nat
  pending : Option (Nat × Nat)
  deriving DecidableEq, Repr

/-- The Cellar Timebase with the pump-flow counter and the latched pump count (R164). -/
structure Timebase where
  channels : Vector TimeChannel 4
  pump : Nat
  latchedPump : Nat
  deriving DecidableEq, Repr

/-- A valve group with every output off (R173). -/
def GroupPatterns.reset : GroupPatterns := { next := 0, snapshot := 0, current := 0, turnOn := false }

/-- The Valve Output Unit after a reset: a shift of the all-off image has begun (R173). -/
def Valves.reset : Valves :=
  { groups := Vector.replicate 18 GroupPatterns.reset, shifting := some 0, wanted := false, fault := false,
    mismatches := 0, firstMismatch := none }

/-- The timebase after a reset (R161, section 9.1). -/
def Timebase.reset : Timebase :=
  { channels := #v[⟨0, 20, 10, none⟩, ⟨0, 1000, 500, none⟩, ⟨0, 1000, 500, none⟩, ⟨0, 100, 50, none⟩],
    pump := 0, latchedPump := 0 }

/-! ### Venue Link (Chapter 10) -/

/-- Status codes of section 10.5, in the order of their values. -/
inductive Status where
  | ok
  | frameError
  | unknownCommand
  | badLength
  | badArg
  | notFound
  | duplicate
  | full
  | occupied
  | wrongState
  | busy
  | pourActive
  | locked
  | mismatch
  | noCredit
  | overflow
  | alreadyRinsing
  deriving DecidableEq, Repr

/-- The link state with what each state holds: the tag and code of the command being taken, or the frame in the
response slot, which is empty in the other two states (section 10.1). -/
inductive LinkState where
  | idle
  | executing (tag : Byte) (code : Byte)
  | respReady (frame : List Byte)
  deriving DecidableEq, Repr

/-- The attention kinds whose subjects are lines, kinds 0 to 8 of section 10.7, in their order. -/
inductive LineKind where
  | kegVerified
  | kegRejected
  | kegSpent
  | kegCheckDone
  | lineDry
  | lineReady
  | lineFoul
  | cleanDone
  | faucetLost
  deriving DecidableEq, Repr

/-- The attention set (section 10.7): the line sets of kinds 0 to 8, the subject sets of kinds 9 to 11, and the pending
flags of kinds 12 and 13. -/
structure Attention where
  lines : Vector LineSet 9
  accountClosed : BitVec 48
  probeFault : BitVec 16
  trunkHot : BitVec 6
  chainFault : Bool
  pumpFault : Bool
  deriving DecidableEq, Repr

/-- The Venue Link; `miso` holds the bytes the part sent after the first byte of the last transaction (DESIGN CHOICE, log
entry 7). -/
structure Link where
  state : LinkState
  collision : Bool
  frameBad : Bool
  attention : Attention
  mask : BitVec 14
  miso : List Byte
  deriving DecidableEq, Repr

/-- The status and payload a block formed for the last command it took (R176). -/
structure Answer where
  status : Status
  payload : List Byte
  deriving DecidableEq, Repr

/-- The empty attention set. -/
def Attention.empty : Attention :=
  { lines := Vector.replicate 9 0, accountClosed := 0, probeFault := 0, trunkHot := 0, chainFault := false,
    pumpFault := false }

/-- The Venue Link after a pin reset (R183). -/
def Link.reset : Link :=
  { state := .idle, collision := false, frameBad := false, attention := Attention.empty, mask := BitVec.allOnes 14,
    miso := [] }

/-! ### The part -/

/-- The whole part, with the model's own queue of waiting commands. -/
structure State where
  lineTable : LineTable
  pourControl : PourControl
  kegRegister : KegRegister
  accounts : Vector (Option Account) 48
  tapLoops : TapLoops
  climate : Climate
  cleaning : Cleaning
  valves : Valves
  timebase : Timebase
  link : Link
  /-- RESET_N is low: the part is held at its reset values (R183; DESIGN CHOICE, log entry 3) -/
  resetHeld : Bool
  /-- the answer of the block that took the last command (R176; DESIGN CHOICE, log entry 5) -/
  answer : Option Answer
  /-- the commands that wait, first in, first out (the model's own field; DESIGN CHOICE, log entry 1) -/
  pending : List Instr
  deriving DecidableEq, Repr

/-- The part right after a pin reset, RESET_N high again: every block at the value its chapter gives. -/
def State.reset : State :=
  { lineTable := LineTable.reset, pourControl := PourControl.reset, kegRegister := KegRegister.reset,
    accounts := Vector.replicate 48 none, tapLoops := TapLoops.reset, climate := Climate.reset,
    cleaning := Cleaning.reset, valves := Valves.reset, timebase := Timebase.reset, link := Link.reset,
    resetHeld := false, answer := none, pending := [] }

/-- The reasons the part stops with a fault: none. The manual gives every command and every event of the part an
effect, a refusal status or no effect at all, and stops the machine for none of them. -/
inductive Fault where
  deriving DecidableEq, Repr

/-- The reasons the model refuses a command. -/
inductive Refusal where
  /-- The command has no meaning in the model; raised by an arm of `exec` only; safe. -/
  | notModelled (mnemonic : String)
  deriving DecidableEq, Repr

end Sys2Proof.Machine
end

