-- ==== Sys2Proof/Machine/Operands.lean ====
section
/-! DEFINITION. The arithmetic of the manual (00_scope.md, Arithmetic), tables with a fixed number of records, the
coding of numbers and enumerations in frames (R184), and the reading of a command's operands. -/

namespace Sys2Proof.Machine

/-! ### Tables of fixed size -/

/-- The record at index `i`. -/
def look {α : Type} {n : Nat} (v : Vector α n) (i : Fin n) : α := v.get i

/-- The table with the record at index `i` replaced. -/
def put {α : Type} {n : Nat} (v : Vector α n) (i : Fin n) (x : α) : Vector α n := v.set i.val x i.isLt

/-- All indices of a table, ascending. -/
def indices (n : Nat) : List (Fin n) := List.finRange n

/-! ### Arithmetic -/

/-- Division rounding toward plus infinity. -/
def ceilDiv (a b : Nat) : Nat := (a + b - 1) / b

/-- Division rounding toward minus infinity; the divisor is positive. -/
def floorDiv (a : Int) (b : Nat) : Int := a / (b : Int)

/-- Replaces a value outside a range by the nearer bound. -/
def clampNat (lo hi n : Nat) : Nat := max lo (min hi n)

/-- Replaces a signed value outside a range by the nearer bound. -/
def clampInt (lo hi n : Int) : Int := max lo (min hi n)

/-- A count that saturates at `top`. -/
def satCount (top n : Nat) : Nat := min (n + 1) top

/-! ### Numbers in frames -/

/-- A number in `w` bytes, most significant first (R184). -/
def bytesBE : Nat → Nat → List Byte
  | 0, _ => []
  | w + 1, n => bytesBE w (n / 256) ++ [BitVec.ofNat 8 n]

/-- The number that bytes spell, most significant first. -/
def numBE (bs : List Byte) : Nat := bs.foldl (fun n b => n * 256 + b.toNat) 0

/-- A signed number in `w` bytes, in two's complement (R184). -/
def bytesInt (w : Nat) (n : Int) : List Byte := bytesBE w (n % (2 ^ (8 * w) : Nat)).toNat

/-- The signed number that bytes spell in two's complement. -/
def intBE (bs : List Byte) : Int :=
  let n := numBE bs
  if 2 * n < 2 ^ (8 * bs.length) then (n : Int) else (n : Int) - (2 ^ (8 * bs.length) : Nat)

/-- One byte. -/
def byte (n : Nat) : List Byte := [BitVec.ofNat 8 n]

/-- The bits of a byte in the order a bus sends them, the most significant first (R185, R186). -/
def byteBits (b : Byte) : List Bool := (List.range 8).map fun i => b.getLsbD (7 - i)

/-- A flag, or an answer to a yes-or-no question, in one byte of a response: 1 for set, yes or open, and 0 for clear, no or closed
(DESIGN CHOICE, log entry 25). -/
def flag (b : Bool) : List Byte := byte b.toNat

/-- A field that may be absent: a presence byte, then the value bytes, which are zeros when absent (R184). -/
def optBytes (w : Nat) (v : Option (List Byte)) : List Byte :=
  match v with
  | some bs => byte 1 ++ bs
  | none => byte 0 ++ List.replicate w 0

/-- A number that may be absent. -/
def optNat (w : Nat) (v : Option Nat) : List Byte := optBytes w (v.map (bytesBE w))

/-- A signed number that may be absent. -/
def optInt (w : Nat) (v : Option Int) : List Byte := optBytes w (v.map (bytesInt w))

/-! ### Enumerations (R184): the place of a value in the list of its chapter, or its code in section 11.1 -/

/-- The modes run from OFFLINE 0 to FOUL 7. -/
def Mode.code (m : Mode) : Nat := m.ctorIdx
def CleanResult.code (r : CleanResult) : Nat := r.ctorIdx
def CloseReason.code (r : CloseReason) : Nat := r.ctorIdx
def Ending.code (e : Ending) : Nat := e.ctorIdx
/-- The refusal reasons run from NOT_READY 0 to TIMEOUT 8. -/
def RefusalReason.code (r : RefusalReason) : Nat := r.ctorIdx
def KegState.code (k : KegState) : Nat := k.ctorIdx
def TagOutcome.code (o : TagOutcome) : Nat := o.ctorIdx
def ReadPurpose.code (p : ReadPurpose) : Nat := p.ctorIdx
def AccountState.code (a : AccountState) : Nat := a.ctorIdx
/-- The lamp codes run from OFF 0 to NOT_READY 7. -/
def Lamp.code (l : Lamp) : Nat := l.ctorIdx
def Gate.code (g : Gate) : Nat := g.ctorIdx
def GateSource.code (g : GateSource) : Nat := g.ctorIdx
def Phase.code (p : Phase) : Nat := p.ctorIdx
/-- The place of a group result in the list of section 8.1, which is not that of a line's clean result. -/
def GroupResult.code (r : GroupResult) : Nat := r.ctorIdx
/-- A state listed as ON, OFF: a compressor stage (section 7.1, R184), and the heater of a group (section 8.1), which is sent as such a
state and not as a flag (DESIGN CHOICE, log entry 20). -/
def onOffCode (on : Bool) : Nat := if on then 0 else 1
/-- The status values of section 10.5. -/
def Status.code (s : Status) : Nat := s.ctorIdx
/-- The number of an attention kind with line subjects (section 10.7). -/
def LineKind.number (k : LineKind) : Fin 9 :=
  match k with
  | .kegVerified => 0
  | .kegRejected => 1
  | .kegSpent => 2
  | .kegCheckDone => 3
  | .lineDry => 4
  | .lineReady => 5
  | .lineFoul => 6
  | .cleanDone => 7
  | .faucetLost => 8

def loopCode : LoopId → Nat
  | .A => 0
  | .B => 1

def positionCode : Position → Nat
  | .A => 0
  | .B => 1

/-- Pour kinds: PORTION(1) to PORTION(4) 1 to 4; FREE 5; CLEAN 6; PRIME 7 (section 11.1). -/
def PourKind.code : PourKind → Nat
  | .portion n => n.val + 1
  | .free => 5
  | .clean => 6
  | .prime => 7

/-- Pour states in the order of section 3.1. -/
def PourRec.code : PourRec → Nat
  | .idle => 0
  | .waiting .. => 1
  | .pouring .. => 2
  | .tailing .. => 3

/-- The coding of roles in CHANNEL_SET (section 11.2). -/
def Role.code : Role → Nat
  | .unused => 0
  | .trunkBeer t => 1 + t.val
  | .trunkGlycol t => 7 + t.val
  | .bath => 13
  | .solutionTemp => 14
  | .solutionCond => 15

/-! ### Reading operands: a value outside its list is none -/

/-- A line number 0 to 31. -/
def readLine (n : Nat) : Option Line := if h : n < 32 then some ⟨n, h⟩ else none

/-- A trunk 0 to 5. -/
def readTrunk (n : Nat) : Option Trunk := if h : n < 6 then some ⟨n, h⟩ else none

/-- A loop byte: A is 0, B is 1 (R184). -/
def readLoop (n : Nat) : Option LoopId :=
  match n with
  | 0 => some .A
  | 1 => some .B
  | _ => none

/-- A position byte: A is 0, B is 1 (R184). -/
def readPosition (n : Nat) : Option Position :=
  match n with
  | 0 => some .A
  | 1 => some .B
  | _ => none

/-- A portion set 0 to 3. -/
def readSet (n : Nat) : Option (Fin 4) := if h : n < 4 then some ⟨n, h⟩ else none

/-- A role byte (section 11.2). -/
def readRole (n : Nat) : Option Role :=
  if n = 0 then some .unused
  else if h : 1 ≤ n ∧ n < 7 then some (.trunkBeer ⟨n - 1, by omega⟩)
  else if h : 7 ≤ n ∧ n < 13 then some (.trunkGlycol ⟨n - 7, by omega⟩)
  else if n = 13 then some .bath
  else if n = 14 then some .solutionTemp
  else if n = 15 then some .solutionCond
  else none

/-- A binding: a loop byte and a slot below 24. -/
def readBinding (loop slot : Nat) : Option Binding :=
  match readLoop loop with
  | none => none
  | some i => if h : slot < 24 then some { loop := i, slot := ⟨slot, h⟩ } else none

/-- The place of a role's record, none for UNUSED. -/
def Role.index : Role → Option (Fin 15)
  | .unused => none
  | .trunkBeer t => some ⟨t.val, by omega⟩
  | .trunkGlycol t => some ⟨6 + t.val, by omega⟩
  | .bath => some 12
  | .solutionTemp => some 13
  | .solutionCond => some 14

/-- The trunk that a role belongs to. -/
def Role.trunk : Role → Option Trunk
  | .trunkBeer t => some t
  | .trunkGlycol t => some t
  | _ => none

/-- The range that a role's value is clamped into, by its kind (R124). -/
def Role.range : Role → Int × Int
  | .solutionCond => (0, 20000)
  | _ => (-640, 1600)

/-- Whether `n` lies in a range. -/
def within (lo hi n : Nat) : Bool := decide (lo ≤ n ∧ n ≤ hi)

/-- Whether a selection names its bit `i`; bits with no name are ignored (DESIGN CHOICE, log entry 9). -/
def selected (selection i : Nat) : Bool := selection.testBit i

/-! ### Slot words (section 11.3, R185) -/

/-- The check byte of two payload bytes: the complement of their XOR. -/
def checkByte (b0 b1 : Byte) : Byte := ~~~(b0 ^^^ b1)

/-- An inbound slot word, taken apart. -/
structure Inbound where
  delta : Nat
  saturated : Bool
  code : BitVec 3
  towerFault : Bool
  seq : BitVec 3
  good : Bool
  deriving DecidableEq, Repr

/-- The fields of an inbound word; `good` is the outcome of its check. -/
def readWord (w : SlotWord) : Inbound :=
  let b0 : Byte := w.extractLsb' 16 8
  let b1 : Byte := w.extractLsb' 8 8
  { delta := b0.toNat, saturated := b1.getLsbD 7, code := b1.extractLsb' 4 3, towerFault := b1.getLsbD 3,
    seq := b1.extractLsb' 0 3, good := checkByte b0 b1 == w.extractLsb' 0 8 }

/-- The 24 bits of an outbound word, the first sent the most significant (R109, R185). -/
def OutCommand.word (c : OutCommand) : SlotWord :=
  let b0 : Byte := (BitVec.ofBool c.valve ++ BitVec.ofNat 3 c.lamp.code) ++ (BitVec.ofNat 3 c.portion ++ 0#1)
  let b1 : Byte := 0#2 ++ BitVec.ofNat 6 c.value
  (b0 ++ b1) ++ checkByte b0 b1

/-- The command of an unbound slot (R109). -/
def OutCommand.unbound : OutCommand := { valve := false, lamp := .off, portion := 0, value := 0 }

/-! ### Tag blocks (R75, R186) -/

/-- The 64-bit ID of a tag block: its first 8 bytes, the first the most significant. -/
def blockId (block : BitVec 128) : Tag := block.extractLsb' 64 64

/-- The complement half of a tag block. -/
def blockComplement (block : BitVec 128) : Tag := block.extractLsb' 0 64

/-- A copy is valid when each ID byte XOR its complement byte gives 0xFF (R75). -/
def validCopy (block : BitVec 128) : Bool :=
  (List.range 8).all fun i =>
    ((blockId block).extractLsb' (8 * i) 8 ^^^ (blockComplement block).extractLsb' (8 * i) 8) == 0xFF#8

end Sys2Proof.Machine
end

