-- ==== Sys2Proof/Config.lean ====
section
/-! DEFINITION. What the KD32 fixes for all of its parts and the model names once. The one value that
the manual leaves open is a free value here; every other choice the model makes is a convention of its own log entry. -/

namespace Sys2Proof

/-- The longest payload of a command frame (R175). -/
def Config.maxPayload : Nat := 56

/-- The code of PART_RESET, the one command that leaves the link EXECUTING (section 10.6, R182). -/
def Config.partResetCode : Byte := 0xFF#8

/-- The first byte of a command write (R174). -/
def Config.commandWriteByte : Byte := 0x01#8

/-- The first byte of a response read (R174). -/
def Config.responseReadByte : Byte := 0x02#8

/-- The first byte of a status read (R174). -/
def Config.statusReadByte : Byte := 0x03#8

/-- The first bytes that select a transaction (R174). -/
def Config.transactions : List Byte := [commandWriteByte, responseReadByte, statusReadByte]

/-- The byte that carries the line and the pour state of one holding line in ACCOUNT_READ page 1: section 11.2 gives the two
fields one byte of the entry's three and no coding (free value, log entry 18). -/
opaque Config.holdingByte (line pourState : Nat) : Byte

end Sys2Proof
end

