-- ==== Sys2Proof/WellFormed.lean ====
section
/-! DEFINITION. Which commands are well formed: every operand of a Venue Link command fits the field that carries it
(section 11.2), a converter's code has at most 12 bits (R123), and an unknown transaction does not begin with the byte of
a known one (R174). A well-formed command may still be refused by its own rule. -/

namespace Sys2Proof

/-- A field of one byte. -/
def fits8 (n : Nat) : Bool := decide (n < 256)
/-- A field of two bytes. -/
def fits16 (n : Nat) : Bool := decide (n < 65536)
/-- A field of four bytes. -/
def fits32 (n : Nat) : Bool := decide (n < 4294967296)
/-- A signed field of two bytes. -/
def fitsInt16 (n : Int) : Bool := decide (-32768 ≤ n ∧ n < 32768)
/-- A signed field of four bytes. -/
def fitsInt32 (n : Int) : Bool := decide (-2147483648 ≤ n ∧ n < 2147483648)

/-- The fields of LINE_CONFIG fit. -/
def LineConfigArgs.wf (a : LineConfigArgs) : Bool :=
  fits8 a.line && fits8 a.content && fits16 a.product && fits8 a.trunk && fits16 a.fill && fits32 a.k &&
  fits32 a.tailSeed && fits8 a.loop && fits8 a.slot && fits16 a.account && fits8 a.portionSet && fits8 a.primePercent

/-- The fields of LINE_SET fit. -/
def LineSetArgs.wf (a : LineSetArgs) : Bool :=
  fits8 a.line && fits16 a.selection && fits16 a.account && fits8 a.portionSet && fits8 a.primePercent &&
  fits8 a.trunk && fits8 a.loop && fits8 a.slot && fits16 a.fill && fits32 a.k && fits16 a.product &&
  fits32 a.tailReseed

/-- The fields of PORTION_SET fit. -/
def PortionSetArgs.wf (a : PortionSetArgs) : Bool :=
  fits8 a.set && fits16 a.size1 && fits16 a.size2 && fits16 a.size3 && fits16 a.size4 && fits16 a.cap

/-- The fields of PART_SET fit. -/
def PartSetArgs.wf (a : PartSetArgs) : Bool :=
  fits16 a.selection && fits16 a.frameRate && fits16 a.settle && fits16 a.tailWindow && fits16 a.startGrace &&
  fits16 a.lowFlowBlock && fits16 a.lowFlowMin && fits16 a.lostThreshold && fits16 a.waitTimeout &&
  fits16 a.maxPour && fits16 a.emptyMargin

/-- The fields of KEG_ENROL fit. -/
def KegEnrolArgs.wf (a : KegEnrolArgs) : Bool :=
  fits16 a.product && fits32 a.nominal && fits8 a.line && fits8 a.position

/-- The fields of TRUNK_CLIMATE fit. -/
def TrunkClimateArgs.wf (a : TrunkClimateArgs) : Bool :=
  fits8 a.trunk && fitsInt16 a.setpoint && fitsInt16 a.warn && fitsInt16 a.stop && fits8 a.gain && fits8 a.bias

/-- The fields of CHILLER_SET fit. -/
def ChillerSetArgs.wf (a : ChillerSetArgs) : Bool :=
  fitsInt16 a.sp && fits16 a.h1 && fits16 a.h2 && fits8 a.minOn && fits8 a.minOff && fits8 a.surge

/-- The fields of RECIPE_SET fit. -/
def RecipeSetArgs.wf (a : RecipeSetArgs) : Bool :=
  fits8 a.recipe && fits8 a.warm && fits16 a.purge && fits16 a.caustic && fits16 a.soak && fits16 a.rinse &&
  fits8 a.passes && fits16 a.condMin && fits16 a.condMax && fitsInt16 a.target && fits16 a.timeout

/-- A well-formed command. -/
def Instr.wf : Instr → Bool
  | .pinReset => true
  | .commandWrite _ _ => true
  | .responseRead _ => true
  | .statusRead _ => true
  | .unknownTransaction first _ => !Config.transactions.contains first
  | .lineConfig a => a.wf
  | .lineSet a => a.wf
  | .lineHold l => fits8 l
  | .lineRelease l => fits8 l
  | .linePrime l => fits8 l
  | .lineRetire l => fits8 l
  | .lineRead l => fits8 l
  | .portionSet a => a.wf
  | .calLock => true
  | .calUnlock _ => true
  | .pourAbort l => fits8 l
  | .pourRead l => fits8 l
  | .trunkDraw t n => fits8 t && fits8 n
  | .partSet a => a.wf
  | .kegEnrol a => a.wf
  | .kegCheck l p => fits8 l && fits8 p
  | .kegConfirm l p v => fits8 l && fits8 p && fits8 v
  | .kegRetire l p => fits8 l && fits8 p
  | .kegRead l p => fits8 l && fits8 p
  | .kegFind _ => true
  | .accountOpen id float credit => fits16 id && fits16 float && fitsInt32 credit
  | .accountCredit id amount => fits16 id && fitsInt32 amount
  | .accountFloat id float => fits16 id && fits16 float
  | .accountClose id => fits16 id
  | .accountRead sel key page => fits8 sel && fits16 key && fits8 page
  | .loopSet i n => fits8 i && fits8 n
  | .loopStart i => fits8 i
  | .loopStop i => fits8 i
  | .loopReset i => fits8 i
  | .loopRead i page => fits8 i && fits8 page
  | .scanSet r _ => fits8 r
  | .channelSet i r base span => fits8 i && fits8 r && fitsInt16 base && fits16 span
  | .scanStart => true
  | .scanStop => true
  | .trunkClimate a => a.wf
  | .chillerSet a => a.wf
  | .boost o c => fits8 o && fits8 c
  | .climateRead page => fits8 page
  | .recipeSet a => a.wf
  | .cleanSet n m => fits8 n && fits8 m
  | .cleanSubmit _ r => fits8 r
  | .cleanAbort _ => true
  | .cleanHalt => true
  | .cleanRead page => fits8 page
  | .timebaseSet c p m => fits8 c && fits16 p && fits16 m
  | .timebaseSync _ => true
  | .valveClear => true
  | .valveRead page => fits8 page
  | .attnRead => true
  | .attnMask _ => true
  | .partReset _ => true
  | .partResetComplete => true
  | .frameSync _ => true
  | .slotEnd _ _ _ => true
  | .faucetLost _ _ => true
  | .pourOvertime _ => true
  | .lowFlowBlockEnd _ => true
  | .waitTimeout _ => true
  | .promotion _ => true
  | .tailQuietSettle _ => true
  | .tailWindow _ => true
  | .couplerReadStart => true
  | .couplerCopyRead _ _ => true
  | .conversionComplete code => decide (code < 4096)
  | .probeFailed _ => true
  | .timebasePeriodEvent _ => true
  | .timebaseMarginEvent _ => true
  | .cycleStart => true
  | .boostEnd => true
  | .stageSwitch _ => true
  | .pumpFlowPulse => true
  | .pumpFault => true
  | .phaseTimeout => true
  | .soakEnd => true
  | .groupFormation => true
  | .groupRelease => true
  | .chainShiftStart => true
  | .chainShiftEnd _ => true
  | .resetNRelease => true

end Sys2Proof
end

