-- ==== Sys2Proof/Decode.lean ====
section
/-! DEFINITION. Reading commands from bits. No row of spec/opcode_table.json carries bits, so `decodeTableWord` reads none. The
bits of a Venue Link command are its code (section 10.6) and its payload (section 11.2): `readCommand` reads them, and
`encodeCommand` writes them. A transaction on the SPI port is read from its MOSI bits by `readTransaction` (R174). -/

namespace Sys2Proof

open Sys2Proof.Machine

/-- The command that a word spells by the bits of the opcode table, whose rows have none. -/
def decodeTableWord (_nbits _w : Nat) : Option Instr := none

/-! ### Transactions (R174) -/

/-- The bytes that the bits clocked on MOSI make, each byte most significant bit first (section 11.1). A partial byte at the end is
discarded (R174). -/
def mosiBytes : List Bool → List Byte
  | b7 :: b6 :: b5 :: b4 :: b3 :: b2 :: b1 :: b0 :: rest => BitVec.ofBoolListBE [b7, b6, b5, b4, b3, b2, b1, b0] :: mosiBytes rest
  | _ => []

/-- The command that a transaction from the falling to the rising edge of CS_N brings, by its first byte; `service` is the level of
SERVICE while it is taken. Without a whole first byte it brings none (R174). -/
def readTransaction (service : Bool) (mosi : List Bool) : Option Instr :=
  match mosiBytes mosi with
  | [] => none
  | first :: rest =>
    if first = Config.commandWriteByte then some (.commandWrite service rest)
    else if first = Config.responseReadByte then some (.responseRead rest.length)
    else if first = Config.statusReadByte then some (.statusRead rest.length)
    else some (.unknownTransaction first rest.length)

/-! ### Commands of the Venue Link -/

/-- The payload length of each command code; none for a code outside the table of section 10.6 (section 11.2). -/
def requestLength (code : Byte) : Option Nat :=
  match code.toNat with
  | 0x10 => some 21
  | 0x11 => some 22
  | 0x12 => some 1
  | 0x13 => some 1
  | 0x14 => some 1
  | 0x15 => some 1
  | 0x16 => some 1
  | 0x17 => some 11
  | 0x18 => some 0
  | 0x19 => some 0
  | 0x20 => some 1
  | 0x21 => some 1
  | 0x22 => some 2
  | 0x23 => some 22
  | 0x30 => some 16
  | 0x31 => some 2
  | 0x32 => some 3
  | 0x33 => some 2
  | 0x34 => some 2
  | 0x35 => some 8
  | 0x40 => some 8
  | 0x41 => some 6
  | 0x42 => some 4
  | 0x43 => some 2
  | 0x44 => some 4
  | 0x50 => some 2
  | 0x51 => some 1
  | 0x52 => some 1
  | 0x53 => some 1
  | 0x54 => some 2
  | 0x60 => some 3
  | 0x61 => some 6
  | 0x62 => some 0
  | 0x63 => some 0
  | 0x64 => some 9
  | 0x65 => some 9
  | 0x66 => some 2
  | 0x67 => some 1
  | 0x70 => some 19
  | 0x71 => some 2
  | 0x72 => some 5
  | 0x73 => some 4
  | 0x74 => some 0
  | 0x75 => some 1
  | 0x80 => some 5
  | 0x81 => some 1
  | 0x82 => some 0
  | 0x83 => some 1
  | 0xF0 => some 0
  | 0xF1 => some 2
  | 0xFF => some 0
  | _ => none

/-- The `w` bytes of a payload from byte `i` on, as a number. -/
def field (p : List Byte) (i w : Nat) : Nat := numBE ((p.drop i).take w)

/-- The `w` bytes of a payload from byte `i` on, as a signed number. -/
def fieldInt (p : List Byte) (i w : Nat) : Int := intBE ((p.drop i).take w)

/-- The `w` bytes of a payload from byte `i` on, as bits. -/
def fieldBits (n : Nat) (p : List Byte) (i w : Nat) : BitVec n := BitVec.ofNat n (field p i w)

/-- The fields of a LINE_CONFIG payload. -/
def readLineConfig (p : List Byte) : LineConfigArgs :=
  { line := field p 0 1, content := field p 1 1, product := field p 2 2, trunk := field p 4 1, fill := field p 5 2,
    k := field p 7 4, tailSeed := field p 11 4, loop := field p 15 1, slot := field p 16 1, account := field p 17 2,
    portionSet := field p 19 1, primePercent := field p 20 1 }

/-- The fields of a LINE_SET payload. -/
def readLineSet (p : List Byte) : LineSetArgs :=
  { line := field p 0 1, selection := field p 1 2, account := field p 3 2, portionSet := field p 5 1,
    primePercent := field p 6 1, trunk := field p 7 1, loop := field p 8 1, slot := field p 9 1, fill := field p 10 2,
    k := field p 12 4, product := field p 16 2, tailReseed := field p 18 4 }

/-- The fields of a PORTION_SET payload. -/
def readPortionSet (p : List Byte) : PortionSetArgs :=
  { set := field p 0 1, size1 := field p 1 2, size2 := field p 3 2, size3 := field p 5 2, size4 := field p 7 2,
    cap := field p 9 2 }

/-- The fields of a PART_SET payload. -/
def readPartSet (p : List Byte) : PartSetArgs :=
  { selection := field p 0 2, frameRate := field p 2 2, settle := field p 4 2, tailWindow := field p 6 2,
    startGrace := field p 8 2, lowFlowBlock := field p 10 2, lowFlowMin := field p 12 2, lostThreshold := field p 14 2,
    waitTimeout := field p 16 2, maxPour := field p 18 2, emptyMargin := field p 20 2 }

/-- The fields of a KEG_ENROL payload. -/
def readKegEnrol (p : List Byte) : KegEnrolArgs :=
  { tag := fieldBits 64 p 0 8, product := field p 8 2, nominal := field p 10 4, line := field p 14 1,
    position := field p 15 1 }

/-- The fields of a TRUNK_CLIMATE payload. -/
def readTrunkClimate (p : List Byte) : TrunkClimateArgs :=
  { trunk := field p 0 1, setpoint := fieldInt p 1 2, warn := fieldInt p 3 2, stop := fieldInt p 5 2,
    gain := field p 7 1, bias := field p 8 1 }

/-- The fields of a CHILLER_SET payload. -/
def readChillerSet (p : List Byte) : ChillerSetArgs :=
  { sp := fieldInt p 0 2, h1 := field p 2 2, h2 := field p 4 2, minOn := field p 6 1, minOff := field p 7 1,
    surge := field p 8 1 }

/-- The fields of a RECIPE_SET payload. -/
def readRecipeSet (p : List Byte) : RecipeSetArgs :=
  { recipe := field p 0 1, warm := field p 1 1, purge := field p 2 2, caustic := field p 4 2, soak := field p 6 2,
    rinse := field p 8 2, passes := field p 10 1, condMin := field p 11 2, condMax := field p 13 2,
    target := fieldInt p 15 2, timeout := field p 17 2 }

/-- The command of a code and a payload of the command's length (sections 10.6, 11.2); `service` is the level of the
SERVICE pin, which CAL_UNLOCK samples, and `tag` the tag of the frame, which PART_RESET keeps. -/
def readCommand (service : Bool) (tag code : Byte) (p : List Byte) : Option Instr :=
  match code.toNat with
  | 0x10 => some (.lineConfig (readLineConfig p))
  | 0x11 => some (.lineSet (readLineSet p))
  | 0x12 => some (.lineHold (field p 0 1))
  | 0x13 => some (.lineRelease (field p 0 1))
  | 0x14 => some (.linePrime (field p 0 1))
  | 0x15 => some (.lineRetire (field p 0 1))
  | 0x16 => some (.lineRead (field p 0 1))
  | 0x17 => some (.portionSet (readPortionSet p))
  | 0x18 => some .calLock
  | 0x19 => some (.calUnlock service)
  | 0x20 => some (.pourAbort (field p 0 1))
  | 0x21 => some (.pourRead (field p 0 1))
  | 0x22 => some (.trunkDraw (field p 0 1) (field p 1 1))
  | 0x23 => some (.partSet (readPartSet p))
  | 0x30 => some (.kegEnrol (readKegEnrol p))
  | 0x31 => some (.kegCheck (field p 0 1) (field p 1 1))
  | 0x32 => some (.kegConfirm (field p 0 1) (field p 1 1) (field p 2 1))
  | 0x33 => some (.kegRetire (field p 0 1) (field p 1 1))
  | 0x34 => some (.kegRead (field p 0 1) (field p 1 1))
  | 0x35 => some (.kegFind (fieldBits 64 p 0 8))
  | 0x40 => some (.accountOpen (field p 0 2) (field p 2 2) (fieldInt p 4 4))
  | 0x41 => some (.accountCredit (field p 0 2) (fieldInt p 2 4))
  | 0x42 => some (.accountFloat (field p 0 2) (field p 2 2))
  | 0x43 => some (.accountClose (field p 0 2))
  | 0x44 => some (.accountRead (field p 0 1) (field p 1 2) (field p 3 1))
  | 0x50 => some (.loopSet (field p 0 1) (field p 1 1))
  | 0x51 => some (.loopStart (field p 0 1))
  | 0x52 => some (.loopStop (field p 0 1))
  | 0x53 => some (.loopReset (field p 0 1))
  | 0x54 => some (.loopRead (field p 0 1) (field p 1 1))
  | 0x60 => some (.scanSet (field p 0 1) (fieldBits 16 p 1 2))
  | 0x61 => some (.channelSet (field p 0 1) (field p 1 1) (fieldInt p 2 2) (field p 4 2))
  | 0x62 => some .scanStart
  | 0x63 => some .scanStop
  | 0x64 => some (.trunkClimate (readTrunkClimate p))
  | 0x65 => some (.chillerSet (readChillerSet p))
  | 0x66 => some (.boost (field p 0 1) (field p 1 1))
  | 0x67 => some (.climateRead (field p 0 1))
  | 0x70 => some (.recipeSet (readRecipeSet p))
  | 0x71 => some (.cleanSet (field p 0 1) (field p 1 1))
  | 0x72 => some (.cleanSubmit (fieldBits 32 p 0 4) (field p 4 1))
  | 0x73 => some (.cleanAbort (fieldBits 32 p 0 4))
  | 0x74 => some .cleanHalt
  | 0x75 => some (.cleanRead (field p 0 1))
  | 0x80 => some (.timebaseSet (field p 0 1) (field p 1 2) (field p 3 2))
  | 0x81 => some (.timebaseSync (fieldBits 8 p 0 1))
  | 0x82 => some .valveClear
  | 0x83 => some (.valveRead (field p 0 1))
  | 0xF0 => some .attnRead
  | 0xF1 => some (.attnMask (fieldBits 16 p 0 2))
  | 0xFF => some (.partReset tag)
  | _ => none

/-- The payload of LINE_CONFIG. -/
def writeLineConfig (a : LineConfigArgs) : List Byte :=
  bytesBE 1 a.line ++ bytesBE 1 a.content ++ bytesBE 2 a.product ++ bytesBE 1 a.trunk ++ bytesBE 2 a.fill ++
  bytesBE 4 a.k ++ bytesBE 4 a.tailSeed ++ bytesBE 1 a.loop ++ bytesBE 1 a.slot ++ bytesBE 2 a.account ++
  bytesBE 1 a.portionSet ++ bytesBE 1 a.primePercent

/-- The payload of LINE_SET. -/
def writeLineSet (a : LineSetArgs) : List Byte :=
  bytesBE 1 a.line ++ bytesBE 2 a.selection ++ bytesBE 2 a.account ++ bytesBE 1 a.portionSet ++
  bytesBE 1 a.primePercent ++ bytesBE 1 a.trunk ++ bytesBE 1 a.loop ++ bytesBE 1 a.slot ++ bytesBE 2 a.fill ++
  bytesBE 4 a.k ++ bytesBE 2 a.product ++ bytesBE 4 a.tailReseed

/-- The payload of PORTION_SET. -/
def writePortionSet (a : PortionSetArgs) : List Byte :=
  bytesBE 1 a.set ++ bytesBE 2 a.size1 ++ bytesBE 2 a.size2 ++ bytesBE 2 a.size3 ++ bytesBE 2 a.size4 ++ bytesBE 2 a.cap

/-- The payload of PART_SET. -/
def writePartSet (a : PartSetArgs) : List Byte :=
  bytesBE 2 a.selection ++ bytesBE 2 a.frameRate ++ bytesBE 2 a.settle ++ bytesBE 2 a.tailWindow ++
  bytesBE 2 a.startGrace ++ bytesBE 2 a.lowFlowBlock ++ bytesBE 2 a.lowFlowMin ++ bytesBE 2 a.lostThreshold ++
  bytesBE 2 a.waitTimeout ++ bytesBE 2 a.maxPour ++ bytesBE 2 a.emptyMargin

/-- The payload of KEG_ENROL. -/
def writeKegEnrol (a : KegEnrolArgs) : List Byte :=
  bytesBE 8 a.tag.toNat ++ bytesBE 2 a.product ++ bytesBE 4 a.nominal ++ bytesBE 1 a.line ++ bytesBE 1 a.position

/-- The payload of TRUNK_CLIMATE. -/
def writeTrunkClimate (a : TrunkClimateArgs) : List Byte :=
  bytesBE 1 a.trunk ++ bytesInt 2 a.setpoint ++ bytesInt 2 a.warn ++ bytesInt 2 a.stop ++ bytesBE 1 a.gain ++
  bytesBE 1 a.bias

/-- The payload of CHILLER_SET. -/
def writeChillerSet (a : ChillerSetArgs) : List Byte :=
  bytesInt 2 a.sp ++ bytesBE 2 a.h1 ++ bytesBE 2 a.h2 ++ bytesBE 1 a.minOn ++ bytesBE 1 a.minOff ++ bytesBE 1 a.surge

/-- The payload of RECIPE_SET. -/
def writeRecipeSet (a : RecipeSetArgs) : List Byte :=
  bytesBE 1 a.recipe ++ bytesBE 1 a.warm ++ bytesBE 2 a.purge ++ bytesBE 2 a.caustic ++ bytesBE 2 a.soak ++
  bytesBE 2 a.rinse ++ bytesBE 1 a.passes ++ bytesBE 2 a.condMin ++ bytesBE 2 a.condMax ++ bytesInt 2 a.target ++
  bytesBE 2 a.timeout

/-- The code and the payload of a Venue Link command; none for the other rows of the table. -/
def encodeCommand : Instr → Option (Byte × List Byte)
  | .lineConfig a => some (0x10#8, writeLineConfig a)
  | .lineSet a => some (0x11#8, writeLineSet a)
  | .lineHold l => some (0x12#8, bytesBE 1 l)
  | .lineRelease l => some (0x13#8, bytesBE 1 l)
  | .linePrime l => some (0x14#8, bytesBE 1 l)
  | .lineRetire l => some (0x15#8, bytesBE 1 l)
  | .lineRead l => some (0x16#8, bytesBE 1 l)
  | .portionSet a => some (0x17#8, writePortionSet a)
  | .calLock => some (0x18#8, [])
  | .calUnlock _ => some (0x19#8, [])
  | .pourAbort l => some (0x20#8, bytesBE 1 l)
  | .pourRead l => some (0x21#8, bytesBE 1 l)
  | .trunkDraw t n => some (0x22#8, bytesBE 1 t ++ bytesBE 1 n)
  | .partSet a => some (0x23#8, writePartSet a)
  | .kegEnrol a => some (0x30#8, writeKegEnrol a)
  | .kegCheck l p => some (0x31#8, bytesBE 1 l ++ bytesBE 1 p)
  | .kegConfirm l p v => some (0x32#8, bytesBE 1 l ++ bytesBE 1 p ++ bytesBE 1 v)
  | .kegRetire l p => some (0x33#8, bytesBE 1 l ++ bytesBE 1 p)
  | .kegRead l p => some (0x34#8, bytesBE 1 l ++ bytesBE 1 p)
  | .kegFind tag => some (0x35#8, bytesBE 8 tag.toNat)
  | .accountOpen id float credit => some (0x40#8, bytesBE 2 id ++ bytesBE 2 float ++ bytesInt 4 credit)
  | .accountCredit id amount => some (0x41#8, bytesBE 2 id ++ bytesInt 4 amount)
  | .accountFloat id float => some (0x42#8, bytesBE 2 id ++ bytesBE 2 float)
  | .accountClose id => some (0x43#8, bytesBE 2 id)
  | .accountRead sel key page => some (0x44#8, bytesBE 1 sel ++ bytesBE 2 key ++ bytesBE 1 page)
  | .loopSet i n => some (0x50#8, bytesBE 1 i ++ bytesBE 1 n)
  | .loopStart i => some (0x51#8, bytesBE 1 i)
  | .loopStop i => some (0x52#8, bytesBE 1 i)
  | .loopReset i => some (0x53#8, bytesBE 1 i)
  | .loopRead i page => some (0x54#8, bytesBE 1 i ++ bytesBE 1 page)
  | .scanSet r mask => some (0x60#8, bytesBE 1 r ++ bytesBE 2 mask.toNat)
  | .channelSet i r base span => some (0x61#8, bytesBE 1 i ++ bytesBE 1 r ++ bytesInt 2 base ++ bytesBE 2 span)
  | .scanStart => some (0x62#8, [])
  | .scanStop => some (0x63#8, [])
  | .trunkClimate a => some (0x64#8, writeTrunkClimate a)
  | .chillerSet a => some (0x65#8, writeChillerSet a)
  | .boost o c => some (0x66#8, bytesBE 1 o ++ bytesBE 1 c)
  | .climateRead page => some (0x67#8, bytesBE 1 page)
  | .recipeSet a => some (0x70#8, writeRecipeSet a)
  | .cleanSet n m => some (0x71#8, bytesBE 1 n ++ bytesBE 1 m)
  | .cleanSubmit ls r => some (0x72#8, bytesBE 4 ls.toNat ++ bytesBE 1 r)
  | .cleanAbort ls => some (0x73#8, bytesBE 4 ls.toNat)
  | .cleanHalt => some (0x74#8, [])
  | .cleanRead page => some (0x75#8, bytesBE 1 page)
  | .timebaseSet c p m => some (0x80#8, bytesBE 1 c ++ bytesBE 2 p ++ bytesBE 2 m)
  | .timebaseSync mask => some (0x81#8, bytesBE 1 mask.toNat)
  | .valveClear => some (0x82#8, [])
  | .valveRead page => some (0x83#8, bytesBE 1 page)
  | .attnRead => some (0xF0#8, [])
  | .attnMask kinds => some (0xF1#8, bytesBE 2 kinds.toNat)
  | .partReset _ => some (0xFF#8, [])
  | .pinReset => none
  | .commandWrite _ _ => none
  | .responseRead _ => none
  | .statusRead _ => none
  | .unknownTransaction _ _ => none
  | .partResetComplete => none
  | .frameSync _ => none
  | .slotEnd _ _ _ => none
  | .faucetLost _ _ => none
  | .pourOvertime _ => none
  | .lowFlowBlockEnd _ => none
  | .waitTimeout _ => none
  | .promotion _ => none
  | .tailQuietSettle _ => none
  | .tailWindow _ => none
  | .couplerReadStart => none
  | .couplerCopyRead _ _ => none
  | .conversionComplete _ => none
  | .probeFailed _ => none
  | .timebasePeriodEvent _ => none
  | .timebaseMarginEvent _ => none
  | .cycleStart => none
  | .boostEnd => none
  | .stageSwitch _ => none
  | .pumpFlowPulse => none
  | .pumpFault => none
  | .phaseTimeout => none
  | .soakEnd => none
  | .groupFormation => none
  | .groupRelease => none
  | .chainShiftStart => none
  | .chainShiftEnd _ => none
  | .resetNRelease => none

/-- What a command takes from outside its payload: the level of SERVICE (R19). -/
def Instr.service : Instr → Bool
  | .calUnlock b => b
  | _ => false

/-- What a command takes from the header of its frame: the tag that PART_RESET keeps (R182). -/
def Instr.tag : Instr → Byte
  | .partReset t => t
  | _ => 0

end Sys2Proof
end

