-- ==== Sys2Proof/Machine/Flags.lean ====
section
/-! DEFINITION. The flags that the venue controller sees: the attention set, ATTN_N and the link status byte
(R178 to R180), and the CRC of a frame (R184). -/

namespace Sys2Proof.Machine

/-- The set with member `i`. -/
def member {w : Nat} (i : Nat) : BitVec w := 1#w <<< i

/-- Merges line `l` into the subject set of kind `k` (R179). -/
def Attention.raiseLine (a : Attention) (k : LineKind) (l : Line) : Attention :=
  { a with lines := put a.lines k.number (look a.lines k.number ||| member l.val) }

/-- Merges a whole line set into the subject set of kind `k` (R155, R179). -/
def Attention.raiseLines (a : Attention) (k : LineKind) (ls : LineSet) : Attention :=
  { a with lines := put a.lines k.number (look a.lines k.number ||| ls) }

/-- The pending kinds, bit `k` standing for kind `k` (section 10.7). -/
def Attention.kinds (a : Attention) : BitVec 14 :=
  (indices 9).foldl (fun ks k => if look a.lines k = 0 then ks else ks ||| member k.val)
    ((if a.accountClosed = 0 then 0 else member 9) ||| (if a.probeFault = 0 then 0 else member 10) |||
      (if a.trunkHot = 0 then 0 else member 11) ||| (if a.chainFault then member 12 else 0) |||
      (if a.pumpFault then member 13 else 0))

/-- ATTN_N is driven low while a pending kind is in the mask (R179). -/
def Link.attnLow (l : Link) : Bool := l.attention.kinds &&& l.mask != 0

/-- ATTN_PENDING follows the whole set, whatever the mask (R178, R179). -/
def Link.attnPending (l : Link) : Bool := l.attention.kinds != 0

/-- The link status byte (R178, section 11.1). -/
def Link.statusByte (l : Link) : Byte :=
  (match l.state with
    | .idle => 0
    | .executing _ _ => member 1
    | .respReady _ => member 0) |||
  (if l.collision then member 2 else 0) ||| (if l.frameBad then member 3 else 0) |||
  (if l.attnPending then member 4 else 0)

/-- The 47-byte payload of ATTN_READ (section 11.2). -/
def Attention.payload (a : Attention) : List Byte :=
  bytesBE 2 a.kinds.toNat ++ ((indices 9).flatMap fun k => bytesBE 4 (look a.lines k).toNat) ++
  bytesBE 6 a.accountClosed.toNat ++ bytesBE 2 a.probeFault.toNat ++ byte a.trunkHot.toNat

/-- One bit of a CRC: the register is shifted left, and XORed with 0x1021 when the bit shifted out, XOR the data bit,
is 1 (R184). -/
def crcBit (reg : BitVec 16) (bit : Bool) : BitVec 16 :=
  if reg.msb != bit then (reg <<< 1) ^^^ 0x1021#16 else reg <<< 1

/-- One byte of a CRC, most significant bit first. -/
def crcByte (reg : BitVec 16) (b : Byte) : BitVec 16 :=
  [7, 6, 5, 4, 3, 2, 1, 0].foldl (fun r i => crcBit r (b.getLsbD i)) reg

/-- The CRC of a run of bytes, from 0xFFFF, with no final inversion (R184). -/
def crc (bs : List Byte) : BitVec 16 := bs.foldl crcByte 0xFFFF#16

/-- Bytes closed with their CRC, high byte first. -/
def closeFrame (bs : List Byte) : List Byte := bs ++ bytesBE 2 (crc bs).toNat

/-- A response frame (R176, section 11.1). -/
def responseFrame (status : Status) (tag code : Byte) (payload : List Byte) : List Byte :=
  closeFrame (byte status.code ++ [tag, code] ++ byte payload.length ++ payload)

end Sys2Proof.Machine
end

