-- ==== Sys2Proof/Machine/Ops.lean ====
section
/-! DEFINITION. The named operations over the records: reading and writing one record of one block, the answer of a
block, raising attention (R179), asking outputs of the Valve Output Unit (R165), asking a shift of the chain (R169), and
the hold operations of the Stand Account Table (R97 to R99, R102). -/

namespace Sys2Proof.Machine

/-! ### Reading and writing records -/

def State.line (s : State) (l : Line) : LineRec := look s.lineTable.lines l
def State.setLine (s : State) (l : Line) (r : LineRec) : State :=
  { s with lineTable := { s.lineTable with lines := put s.lineTable.lines l r } }

def State.pour (s : State) (l : Line) : PourSlot := look s.pourControl.pours l
def State.setPour (s : State) (l : Line) (p : PourSlot) : State :=
  { s with pourControl := { s.pourControl with pours := put s.pourControl.pours l p } }
/-- Writes the pour record of a line and leaves what it shows. -/
def State.setRecord (s : State) (l : Line) (r : PourRec) : State := s.setPour l { s.pour l with record := r }
/-- Shows a refusal at a faucet, or clears it (R40). -/
def State.setShown (s : State) (l : Line) (r : Option RefusalReason) : State := s.setPour l { s.pour l with shown := r }

def State.trunk (s : State) (t : Trunk) : TrunkDraw := look s.pourControl.trunks t
def State.setTrunk (s : State) (t : Trunk) (d : TrunkDraw) : State :=
  { s with pourControl := { s.pourControl with trunks := put s.pourControl.trunks t d } }
def State.timing (s : State) : Timing := s.pourControl.timing

def State.kegSlots (s : State) (l : Line) : KegSlots := look s.kegRegister.kegs l
def State.setKegSlots (s : State) (l : Line) (k : KegSlots) : State :=
  { s with kegRegister := { s.kegRegister with kegs := put s.kegRegister.kegs l k } }
/-- The record at one position. -/
def KegSlots.at (k : KegSlots) : Position → Option KegRec
  | .A => k.a
  | .B => k.b
/-- One position's record replaced. -/
def KegSlots.set (k : KegSlots) (p : Position) (r : Option KegRec) : KegSlots :=
  match p with
  | .A => { k with a := r }
  | .B => { k with b := r }
def State.keg (s : State) (l : Line) (p : Position) : Option KegRec := (s.kegSlots l).at p
def State.setKeg (s : State) (l : Line) (p : Position) (r : Option KegRec) : State :=
  s.setKegSlots l ((s.kegSlots l).set p r)
/-- Writes the last enrol outcome of a line (R78). -/
def State.setLastEnrol (s : State) (l : Line) (o : Option LastEnrol) : State :=
  s.setKegSlots l { s.kegSlots l with lastEnrol := o }
def State.setReadQueue (s : State) (q : List ReadEntry) : State :=
  { s with kegRegister := { s.kegRegister with queue := q } }
def State.setBus (s : State) (b : Option Transaction) : State :=
  { s with kegRegister := { s.kegRegister with bus := b } }

def State.account (s : State) (i : AccountIx) : Option Account := look s.accounts i
def State.setAccount (s : State) (i : AccountIx) (a : Option Account) : State :=
  { s with accounts := put s.accounts i a }

def State.loop (s : State) : LoopId → LoopRec
  | .A => s.tapLoops.a
  | .B => s.tapLoops.b
def State.setLoop (s : State) (i : LoopId) (r : LoopRec) : State :=
  match i with
  | .A => { s with tapLoops := { s.tapLoops with a := r } }
  | .B => { s with tapLoops := { s.tapLoops with b := r } }
/-- The entry of the binding map for one slot (section 1.9). -/
def State.bound (s : State) (b : Binding) : Option Line :=
  match b.loop with
  | .A => look s.lineTable.mapA b.slot
  | .B => look s.lineTable.mapB b.slot
def State.setBound (s : State) (b : Binding) (l : Option Line) : State :=
  match b.loop with
  | .A => { s with lineTable := { s.lineTable with mapA := put s.lineTable.mapA b.slot l } }
  | .B => { s with lineTable := { s.lineTable with mapB := put s.lineTable.mapB b.slot l } }
/-- The receive state of one slot. -/
def State.recv (s : State) (b : Binding) : Option RecvState := look (s.loop b.loop).recv b.slot
def State.setRecv (s : State) (b : Binding) (r : Option RecvState) : State :=
  s.setLoop b.loop { s.loop b.loop with recv := put (s.loop b.loop).recv b.slot r }

def State.role (s : State) (r : Fin 15) : RoleRec := look s.climate.roles r
def State.setRole (s : State) (r : Fin 15) (x : RoleRec) : State :=
  { s with climate := { s.climate with roles := put s.climate.roles r x } }
def State.input (s : State) (i : SenseInput) : InputChannel := look s.climate.inputs i
def State.setInput (s : State) (i : SenseInput) (x : InputChannel) : State :=
  { s with climate := { s.climate with inputs := put s.climate.inputs i x } }
def State.zone (s : State) (t : Trunk) : Zone := look s.climate.zones t
def State.setZone (s : State) (t : Trunk) (z : Zone) : State :=
  { s with climate := { s.climate with zones := put s.climate.zones t z } }
def State.setScanner (s : State) (x : Scanner) : State := { s with climate := { s.climate with scanner := x } }
def State.setChiller (s : State) (x : Chiller) : State := { s with climate := { s.climate with chiller := x } }
def State.setBoost (s : State) (x : Option Boost) : State := { s with climate := { s.climate with boost := x } }
def State.setWindow (s : State) (x : Nat) : State := { s with climate := { s.climate with window := x } }

def State.setGroup (s : State) (g : Option Group) : State := { s with cleaning := { s.cleaning with group := g } }
def State.setCleanQueue (s : State) (q : List CleanEntry) : State :=
  { s with cleaning := { s.cleaning with queue := q } }
/-- Whether a line has an entry in the Cleaning Queue. -/
def State.queued (s : State) (l : Line) : Bool := s.cleaning.queue.any fun e => e.line == l

def State.valve (s : State) (g : ValveGroup) : GroupPatterns := look s.valves.groups g
def State.setValve (s : State) (g : ValveGroup) (x : GroupPatterns) : State :=
  { s with valves := { s.valves with groups := put s.valves.groups g x } }
def State.channel (s : State) (c : Channel) : TimeChannel := look s.timebase.channels c
def State.setChannel (s : State) (c : Channel) (x : TimeChannel) : State :=
  { s with timebase := { s.timebase with channels := put s.timebase.channels c x } }

/-- A block's answer to the command it took: a status and a payload (R176). -/
def State.reply (s : State) (status : Status) (payload : List Byte) : State :=
  { s with answer := some { status := status, payload := payload } }

/-- An OK answer. -/
def State.ok (s : State) (payload : List Byte) : State := s.reply .ok payload

/-- A refusal with no payload. -/
def State.refuse (s : State) (status : Status) : State := s.reply status []

/-- The first failing check of an ordered table of checks gives the status. -/
def firstFail : List (Bool × Status) → Option Status
  | [] => none
  | (holds, status) :: rest => if holds then firstFail rest else some status

/-- A command or event is taken; while RESET_N is low the part is held at its reset values and takes none (R183). -/
def State.running (s : State) (f : State → State) : Host.Outcome State Fault Refusal :=
  .next (if s.resetHeld then s else f s)

/-- The pour record of a line is IDLE. -/
def State.pourIdle (s : State) (l : Line) : Bool := (s.pour l).record == .idle

/-! ### Attention (R179) -/

def State.setAttention (s : State) (a : Attention) : State := { s with link := { s.link with attention := a } }
/-- Raises an attention kind whose subjects are lines. -/
def State.raise (s : State) (k : LineKind) (l : Line) : State := s.setAttention (s.link.attention.raiseLine k l)
/-- Raises an attention kind for a set of lines. -/
def State.raiseSet (s : State) (k : LineKind) (ls : LineSet) : State :=
  s.setAttention (s.link.attention.raiseLines k ls)
/-- Raises ACCOUNT_CLOSED for a record index. -/
def State.raiseAccount (s : State) (i : AccountIx) : State :=
  s.setAttention { s.link.attention with accountClosed := s.link.attention.accountClosed ||| member i.val }
/-- Raises PROBE_FAULT for an input. -/
def State.raiseProbe (s : State) (i : SenseInput) : State :=
  s.setAttention { s.link.attention with probeFault := s.link.attention.probeFault ||| member i.val }
/-- Raises TRUNK_HOT for a trunk. -/
def State.raiseTrunk (s : State) (t : Trunk) : State :=
  s.setAttention { s.link.attention with trunkHot := s.link.attention.trunkHot ||| member t.val }
/-- Raises CHAIN_FAULT. -/
def State.raiseChain (s : State) : State := s.setAttention { s.link.attention with chainFault := true }
/-- Raises PUMP_FAULT. -/
def State.raisePump (s : State) : State := s.setAttention { s.link.attention with pumpFault := true }

/-! ### Owner requests (R165) -/

/-- The pair partner of an output: P and C of a line, selectors A and B of a line, water and caustic. -/
def partner (g : ValveGroup) (b : Fin 8) : Option (Fin 8) :=
  if g.val < 16 then some (if b.val % 2 = 0 then b + 1 else b - 1)
  else if g = 17 then (if b = 1 then some 2 else if b = 2 then some 1 else none)
  else none

/-- One bit of a pattern set or cleared. -/
def setBit (p : Pattern) (b : Fin 8) (on : Bool) : Pattern :=
  if on then p ||| member b.val else p &&& ~~~(member b.val)

/-- An owner request on a next pattern: a member of a pair that is asked on clears its partner. -/
def askBit (g : ValveGroup) (p : Pattern) (b : Fin 8) (on : Bool) : Pattern :=
  if on then
    match partner g b with
    | some c => setBit (setBit p b true) c false
    | none => setBit p b true
  else setBit p b false

/-- An owner request, taken on the group's next pattern. -/
def State.ask (s : State) (g : ValveGroup) (b : Fin 8) (on : Bool) : State :=
  s.setValve g { s.valve g with next := askBit g (s.valve g).next b on }

/-- The group of a line's product and cleaning valves (section 9.2). -/
def lineGroup (l : Line) : ValveGroup := ⟨l.val / 4, by omega⟩
/-- The group of a line's selectors (section 9.2). -/
def selectorGroup (l : Line) : ValveGroup := ⟨8 + l.val / 4, by omega⟩
/-- The first of a line's two bits in its group. -/
def lineBit (l : Line) : Fin 8 := ⟨2 * (l.val % 4), by omega⟩
/-- The second of a line's two bits in its group. -/
def lineBit' (l : Line) : Fin 8 := ⟨2 * (l.val % 4) + 1, by omega⟩

/-- Asks the product valve of a line. -/
def State.askProduct (s : State) (l : Line) (on : Bool) : State := s.ask (lineGroup l) (lineBit l) on
/-- Asks the cleaning valve of a line. -/
def State.askCleaning (s : State) (l : Line) (on : Bool) : State := s.ask (lineGroup l) (lineBit' l) on
/-- Asks the selector of one keg position of a line. -/
def State.askSelector (s : State) (l : Line) (p : Position) (on : Bool) : State :=
  s.ask (selectorGroup l) (match p with | .A => lineBit l | .B => lineBit' l) on

/-! ### The Valve Chain (R169) -/

/-- The current patterns of all groups, VG17 bit 7 the most significant, which `imageBits` sends first (R186). -/
def Valves.image (v : Valves) : Image :=
  (indices 18).foldl (fun im g => im ||| ((look v.groups g).current.setWidth 144 <<< (8 * g.val))) 0

/-- A shift is asked: it begins on a free chain, and otherwise is wanted (R169). -/
def State.askShift (s : State) : State :=
  match s.valves.shifting with
  | none => { s with valves := { s.valves with shifting := some s.valves.image } }
  | some _ => { s with valves := { s.valves with wanted := true } }

/-! ### Holds (section 5.4) -/

/-- The record that holds an account ID, found by searching all places (R92). -/
def State.findAccount (s : State) (id : Nat) : Option (AccountIx × Account) :=
  (indices 48).findSome? fun i =>
    match s.account i with
    | some a => if a.id = id then some (i, a) else none
    | none => none

/-- The lowest empty place (R92). -/
def State.emptyPlace (s : State) : Option AccountIx := (indices 48).find? fun i => (s.account i).isNone

/-- A hold placed on a record (R97). -/
def Account.place (a : Account) (h : Nat) : Account :=
  { a with available := a.available - h, held := a.held + h, holds := a.holds + 1 }

/-- A hold released (R98). -/
def Account.release (a : Account) (h : Nat) : Account :=
  { a with available := a.available + h, held := a.held - h, holds := a.holds - 1 }

/-- A hold settled with the billed volume `b` (R99). -/
def Account.settle (a : Account) (h b : Nat) : Account :=
  { a with available := a.available + ((h : Int) - b), held := a.held - h, spent := a.spent + b, holds := a.holds - 1,
           settled := satAdd a.settled 1 }

/-- The answer to a placement (R97). -/
inductive PlaceAnswer where
  | placed (s : State)
  | noAccount
  | noCredit

/-- The Stand Account Table decides a placement (R97). -/
def State.placeHold (s : State) (id h : Nat) : PlaceAnswer :=
  match s.findAccount id with
  | none => .noAccount
  | some (i, a) =>
    if a.state ≠ .opened then .noAccount
    else if a.available + a.float < h then .noCredit
    else .placed (s.setAccount i (some (a.place h)))

/-- A CLOSING account whose hold count has reached 0 becomes CLOSED, with ACCOUNT_CLOSED raised (R102). -/
def State.endHold (s : State) (i : AccountIx) (a : Account) : State :=
  if a.state = .closing ∧ a.holds = 0 then
    (s.setAccount i (some { a with state := .closed })).raiseAccount i
  else s.setAccount i (some a)

/-- A hold is released (R98). -/
def State.releaseHold (s : State) (id h : Nat) : State :=
  match s.findAccount id with
  | none => s
  | some (i, a) => s.endHold i (a.release h)

/-- A hold is settled with a billed volume (R99). -/
def State.settleHold (s : State) (id h b : Nat) : State :=
  match s.findAccount id with
  | none => s
  | some (i, a) => s.endHold i (a.settle h b)

end Sys2Proof.Machine
end

