-- ==== Sys2Proof/Machine/LineOps.lean ====
section
/-! DEFINITION. The operations of the Line Table that commands and other blocks ask for: the valve rule (R14), keg
eligibility and priming (R5, R6), changes driven by the kegs (R8, R9, R70, R71), the cleaning take and release (R12, R13), the
binding map (R15) and the line totals (R7, R21, R22, R34). -/

namespace Sys2Proof.Machine

/-! ### The valve rule -/

/-- Modes in which the product valve is asked open (R14). -/
def Mode.productOpen : Mode → Bool
  | .priming => true
  | .ready => true
  | .dry => true
  | _ => false

/-- Whether the product valve is asked open for a line record (R14). -/
def LineRec.productOpen (r : LineRec) : Bool :=
  match r.mode, r.heldFrom with
  | .held, some m => m.productOpen
  | m, _ => m.productOpen

/-- Asks the valves that a line's mode calls for (R14); the member of the pair that opens is asked last. -/
def State.askValves (s : State) (l : Line) : State :=
  if (s.line l).mode = .cleaning then (s.askProduct l false).askCleaning l true
  else (s.askCleaning l false).askProduct l (s.line l).productOpen

/-- Writes a line record whose mode changes, and asks its valves (R2, R14). -/
def State.changeLine (s : State) (l : Line) (r : LineRec) : State := (s.setLine l r).askValves l

/-! ### Kegs of a line -/

/-- The position of the keg ON_TAP on a line. -/
def State.onTap (s : State) (l : Line) : Option Position :=
  if (s.keg l .A).any fun k => k.state == .onTap then some .A
  else if (s.keg l .B).any fun k => k.state == .onTap then some .B
  else none

/-- A keg is eligible when it is STANDBY with a clear check-failed flag (R5). -/
def State.eligible (s : State) (l : Line) (p : Position) : Bool :=
  (s.keg l p).any fun k => k.state == .standby && !k.checkFailed

/-- The keg a line is put on: A if eligible, otherwise B (R5). -/
def State.chooseKeg (s : State) (l : Line) : Option Position :=
  if s.eligible l .A then some .A else if s.eligible l .B then some .B else none

/-- Sets the state of the keg at a position, if there is one. -/
def State.setKegState (s : State) (l : Line) (p : Position) (k : KegState) : State :=
  match s.keg l p with
  | some r => s.setKeg l p (some { r with state := k })
  | none => s

/-- Puts a keg on tap and asks its selector open; none when the Keg Register refuses (R70). -/
def State.putOnTap (s : State) (l : Line) (p : Position) : Option State :=
  if s.eligible l p && (s.onTap l).isNone then
    some ((s.setKegState l p .onTap).askSelector l p true)
  else none

/-- The take of a READY line returns its ON_TAP keg to STANDBY (R71). -/
def State.kegToStandby (s : State) (l : Line) : State :=
  match s.onTap l with
  | some p => (s.setKegState l p .standby).askSelector l p false
  | none => s

/-! ### Priming -/

/-- The prime target of a line in mL: fill × prime percent / 100, rounded up (section 1.4). -/
def LineCfg.primeTarget (c : LineCfg) : Nat := ceilDiv (c.fill * c.primePercent) 100

/-- Why the Line Table refuses to prime, in the order of R5 and with the codes of section 11.1. -/
inductive PrimeReason where
  | cleanPending
  | noKeg
  | tooWarm
  | chainFault
  deriving DecidableEq, Repr

/-- The code of a LINE_PRIME refusal reason. -/
def PrimeReason.code (r : PrimeReason) : Nat := r.ctorIdx

/-- The status that LINE_PRIME answers for each reason (R5). -/
def PrimeReason.status : PrimeReason → Status
  | .noKeg => .notFound
  | _ => .wrongState

/-- The refusal shown at a faucet for each reason (R6). -/
def PrimeReason.shown : PrimeReason → RefusalReason
  | .cleanPending => .cleanPending
  | .noKeg => .notReady
  | .tooWarm => .tooWarm
  | .chainFault => .notReady

/-- The gate of a line's trunk; COLD for a line with no trunk. -/
def State.lineGate (s : State) (l : Line) : Gate :=
  match (s.line l).cfg with
  | some c => (s.zone c.trunk).gate
  | none => .cold

/-- The first failing condition of R5; `warm` says whether the gate is consulted, as on a WATER line. -/
def State.primeRefusal (s : State) (l : Line) (warm : Bool) : Option PrimeReason :=
  if s.queued l then some .cleanPending
  else if (s.chooseKeg l).isNone then some .noKeg
  else if warm && s.lineGate l == .hot then some .tooWarm
  else if s.valves.fault then some .chainFault
  else none

/-- A WATER line enters PRIMING with the keg chosen by R5; `.error` carries the reason of a refusal. -/
def State.startPriming (s : State) (l : Line) : Except PrimeReason State :=
  match s.primeRefusal l true with
  | some r => .error r
  | none =>
    match s.chooseKeg l with
    | none => .error .noKeg
    | some p =>
      match s.putOnTap l p with
      | none => .error .noKeg
      | some s1 => .ok (s1.changeLine l { s1.line l with mode := .priming, primed := some 0, lastKeg := some p })

/-- A DRY line is put back on tap with the keg at `p`: READY, with LINE_READY raised (R5, R9). -/
def State.dryToReady (s : State) (l : Line) (p : Position) : State :=
  match s.putOnTap l p with
  | none => s
  | some s1 => (s1.changeLine l { s1.line l with mode := .ready, lastKeg := some p }).raise .lineReady l

/-- The Line Table's part of a settled PRIME draw: the loss, primed_mL, and READY at the prime target (R7). -/
def State.settlePrime (s : State) (l : Line) (vml loss : Nat) : State :=
  let r := s.line l
  match r.mode, r.cfg, r.primed with
  | .priming, some c, some before =>
    let primed := before + vml
    let r1 := { r with totals := { r.totals with loss := satAdd r.totals.loss loss } }
    if primed ≥ c.primeTarget then
      (s.changeLine l { r1 with mode := .ready, primed := none }).raise .lineReady l
    else s.setLine l { r1 with primed := some primed }
  | _, _, _ => s

/-- The prime loss of a draw (R34). -/
def primeLoss (before vml fill : Nat) : Nat := before + vml - max before fill

/-! ### Changes driven by the kegs -/

/-- The Keg Register reports that a line's keg left ON_TAP, with the position changed over to or none (R8). -/
def State.kegReport (s : State) (l : Line) (changeover : Option Position) : State :=
  let r := s.line l
  match changeover with
  | some p =>
    if r.mode = .ready ∨ r.mode = .priming ∨ r.mode = .held then s.setLine l { r with lastKeg := some p } else s
  | none =>
    if r.mode = .ready ∨ r.mode = .priming then
      (s.changeLine l { r with mode := .dry, primed := none }).raise .lineDry l
    else if r.mode = .held then
      let from' := if r.heldFrom = some .ready ∨ r.heldFrom = some .priming then some .dry else r.heldFrom
      (s.changeLine l { r with heldFrom := from', primed := none }).raise .lineDry l
    else s

/-- The Keg Register reports a keg verified STANDBY (R9). -/
def State.kegVerified (s : State) (l : Line) (p : Position) : State :=
  if (s.line l).mode = .dry ∧ s.queued l = false ∧ s.valves.fault = false ∧ s.eligible l p = true then
    s.dryToReady l p
  else s

/-! ### Cleaning take and release -/

/-- Modes from which a line may be taken (R12). -/
def Mode.takeable : Mode → Bool
  | .water => true
  | .ready => true
  | .dry => true
  | .foul => true
  | _ => false

/-- The Line Table decides the take of a line for cleaning; none is a refusal (R12). -/
def State.takeLine (s : State) (l : Line) : Option State :=
  let r := s.line l
  if r.mode.takeable && s.pourIdle l then
    let lastKeg := if r.mode = .ready ∨ r.mode = .dry then r.lastKeg else none
    let s1 := if r.mode = .ready then s.kegToStandby l else s
    some (s1.changeLine l { r with mode := .cleaning, lastKeg := lastKeg })
  else none

/-- The mode in which a result leaves a line (R13). -/
def CleanResult.modeAfter : CleanResult → Mode
  | .pass => .water
  | .aborted => .water
  | _ => .foul

/-- The Line Table releases a line in CLEANING with its result (R13). -/
def State.releaseLine (s : State) (l : Line) (result : CleanResult) : State :=
  let r := s.line l
  if r.mode = .cleaning then
    s.changeLine l { r with mode := result.modeAfter, lastKeg := none, cleanResult := result,
                            cleanCount := satAdd r.cleanCount 1 }
  else s

/-! ### The binding map (R15, R115) -/

/-- A binding enters the map, and the slot's receive state is placed in the fresh condition. -/
def State.bind (s : State) (b : Binding) (l : Line) : State := (s.setBound b (some l)).setRecv b (some RecvState.fresh)

/-- A binding leaves the map, and the slot's receive state is discarded. -/
def State.unbind (s : State) (b : Binding) : State := (s.setBound b none).setRecv b none

/-! ### Line totals -/

/-- A settled PORTION or FREE pour on the line totals (R21): `account` is the latched account ID. -/
def Totals.addPour (t : Totals) (account vml billed unbilled : Nat) (warm : Bool) : Totals :=
  let t1 :=
    if account = 0 then { t with house := satAdd t.house vml }
    else { t with billed := satAdd t.billed billed, unbilled := satAdd t.unbilled unbilled }
  { t1 with warm := if warm then satAdd t1.warm vml else t1.warm, pours := satAdd t1.pours 1 }

/-- The Line Table adds a settled PORTION or FREE pour (R21). -/
def State.addPour (s : State) (l : Line) (account vml billed unbilled : Nat) (warm : Bool) : State :=
  s.setLine l { s.line l with totals := (s.line l).totals.addPour account vml billed unbilled warm }

/-- The Line Table adds a line's fill to its loss total at the end of PURGE (R21). -/
def State.addPurgeLoss (s : State) (l : Line) (fill : Nat) : State :=
  s.setLine l { s.line l with totals := { (s.line l).totals with loss := satAdd (s.line l).totals.loss fill } }

/-- A saturated word is accumulated for a line (R22). -/
def State.countSaturated (s : State) (l : Line) : State :=
  s.setLine l { s.line l with saturation := satAdd (s.line l).saturation 1 }

end Sys2Proof.Machine
end

