-- ==== Sys2Proof/Machine/ClimateOps.lean ====
section
/-! DEFINITION. The operations of Cellar Climate: roles and their availability (section 7.1), gates (R126 to R128), conversions
(R122 to R124), duties and zones (R131, R132), the warm-soak override (R133), compressor staging (R135, R136) and the
window (R130). The part-wide POURING count is an argument, which Pour Control supplies. -/

namespace Sys2Proof.Machine

/-! ### Roles -/

/-- The input that a role is assigned to. -/
def Climate.assigned (c : Climate) (r : Role) : Option SenseInput :=
  (indices 16).find? fun i => (look c.inputs i).role == r

/-- The filtered value of an available role: assigned, filtered and not FAILED (section 7.1, R125). -/
def Climate.reading (c : Climate) (r : Role) : Option Int :=
  match r.index, c.assigned r with
  | some i, some _ => if (look c.roles i).failed then none else (look c.roles i).filtered
  | _, _ => none

/-- A role is restarted (R121). -/
def State.restartRole (s : State) (r : Role) : State :=
  match r.index with
  | some i => s.setRole i RoleRec.reset
  | none => s

/-! ### Gates -/

/-- The gate source of a trunk and its gate value G (R126). -/
def Climate.gateValue (c : Climate) (t : Trunk) : GateSource × Option Int :=
  match c.reading (.trunkBeer t) with
  | some f => (.beer, some f)
  | none =>
    match c.reading (.trunkGlycol t) with
    | some f => (.glycol, some (f + 32))
    | none => (.none, none)

/-- The new state of a gate from its state before and G (R127). -/
def gateNext (before : Gate) (warn stop : Int) (g : Option Int) : Gate :=
  match g with
  | none => .warn
  | some g =>
    match before with
    | .cold => if g > stop then .hot else if g > warn then .warn else .cold
    | .warn => if g > stop then .hot else if g ≤ warn - 8 then .cold else .warn
    | .hot => if g > stop - 8 then .hot else if g ≤ warn - 8 then .cold else .warn

/-- A trunk's gate is evaluated; entering HOT raises TRUNK_HOT (R128). -/
def State.evalGate (s : State) (t : Trunk) : State :=
  let z := s.zone t
  let (source, g) := s.climate.gateValue t
  let gate := gateNext z.gate z.warn z.stop g
  let s1 := s.setZone t { z with gate := gate, source := source }
  if gate = .hot ∧ z.gate ≠ .hot then s1.raiseTrunk t else s1

/-- The gate of a role's trunk is evaluated, for a trunk role. -/
def State.evalRoleGate (s : State) (r : Role) : State :=
  match r.trunk with
  | some t => s.evalGate t
  | none => s

/-- The gates of all six trunks are evaluated (R130). -/
def State.evalGates (s : State) : State := (indices 6).foldl State.evalGate s

/-! ### Conversions -/

/-- The lowest enabled input. -/
def lowestInput (mask : BitVec 16) : Option SenseInput := (indices 16).find? fun i => mask.getLsbD i.val

/-- The lowest enabled input above `i`, or the lowest enabled input (R122). -/
def nextInput (mask : BitVec 16) (i : SenseInput) : Option SenseInput :=
  match (indices 16).find? fun j => decide (i < j) && mask.getLsbD j.val with
  | some j => some j
  | none => lowestInput mask

/-- A conversion of an input starts at the present resolution; none waits for a mask (R122). -/
def Scanner.start (x : Scanner) (i : Option SenseInput) : Scanner :=
  { x with conversion := i.map fun j => { input := j, bits := x.resolution } }

/-- A role whose fault run has reached 8 becomes FAILED, with PROBE_FAULT raised and its gate evaluated (R123). -/
def State.failProbe (s : State) (i : SenseInput) : State :=
  match (s.input i).role.index with
  | none => s
  | some k =>
    if (s.role k).faultRun ≥ 8 ∧ (s.role k).failed = false then
      ((s.setRole k { s.role k with failed := true }).raiseProbe i).evalRoleGate (s.input i).role
    else s

/-- A probe fault of the role on an input (R123). -/
def State.probeFault (s : State) (i : SenseInput) (k : Fin 15) : State :=
  (s.setRole k { s.role k with faultRun := satCount 255 (s.role k).faultRun }).failProbe i

/-- The value of a good sample (R124). -/
def sampleValue (c : InputChannel) (bits x : Nat) : Int :=
  clampInt c.role.range.1 c.role.range.2 (c.base + ((c.span * x / 2 ^ bits : Nat) : Int))

/-- The filter: a quarter of the way, rounding toward minus infinity; a first value is taken whole (R124). -/
def filterStep (f : Option Int) (value : Int) : Int :=
  match f with
  | none => value
  | some f => f + floorDiv (value - f) 4

/-- A good sample of the role on an input (R124). -/
def State.goodSample (s : State) (i : SenseInput) (k : Fin 15) (bits x : Nat) : State :=
  let value := sampleValue (s.input i) bits x
  (s.setRole k { value := some value, filtered := some (filterStep (s.role k).filtered value), faultRun := 0,
                 failed := false }).evalRoleGate (s.input i).role

/-- The code of a completed conversion is judged for the role the input holds then (R123, R124, R121). -/
def State.judgeCode (s : State) (i : SenseInput) (bits x : Nat) : State :=
  match (s.input i).role.index with
  | none => s
  | some k => if x = 0 ∨ x = 2 ^ bits - 1 then s.probeFault i k else s.goodSample i k bits x

/-- The conversion in progress completes with a code, of which as many bits count as it has (DESIGN CHOICE, log entry 16), and the
next one starts at once (R122). The code is judged too where SCAN_SET has taken the input out of the mask since the conversion began
(R120, R123; DEDUCED, log entry 27). -/
def State.convert (s : State) (code : Nat) : State :=
  match s.climate.scanner.running, s.climate.scanner.conversion with
  | true, some c =>
    let s1 := s.judgeCode c.input c.bits (code % 2 ^ c.bits)
    s1.setScanner (s1.climate.scanner.start (nextInput s1.climate.scanner.mask c.input))
  | _, _ => s

/-! ### Zones -/

/-- The boost offset in force, 0 without one (R131). -/
def Climate.boostOffset (c : Climate) : Nat := (c.boost.map Boost.offset).getD 0

/-- The duty of a trunk for the cycle that begins (R131). -/
def Climate.dutyOf (c : Climate) (t : Trunk) : Nat :=
  let z := look c.zones t
  if z.override then 0
  else match (c.gateValue t).2 with
    | none => z.bias
    | some g =>
      let e := g - (z.setpoint - c.boostOffset)
      (clampInt 0 16 (floorDiv (e * z.gain) 16 + z.bias)).toNat

/-- The duty of one trunk is fixed. -/
def State.fixDuty (s : State) (t : Trunk) : State := s.setZone t { s.zone t with duty := s.climate.dutyOf t }

/-- The duties of all six trunks are fixed for the cycle (R131). -/
def State.fixDuties (s : State) : State := (indices 6).foldl State.fixDuty s

/-- A boost with no cycles left ends (R137). -/
def State.endBoost (s : State) : State :=
  match s.climate.boost with
  | some b => if b.remaining = 0 then s.setBoost none else s
  | none => s

/-- Window 0 counts the boost's remaining cycles (R137). -/
def State.countBoost (s : State) : State :=
  match s.climate.boost with
  | some b => (s.setBoost (some { b with remaining := b.remaining - 1 })).endBoost
  | none => s

/-- The glycol valve request of a trunk for the present window (R132). -/
def Climate.glycol (c : Climate) (t : Trunk) : Bool :=
  let z := look c.zones t
  decide (c.window < z.duty) && !z.override

/-- Sets a trunk's override flag and clears its glycol bit at once (R133). -/
def State.setOverride (s : State) (t : Trunk) : State :=
  (s.setZone t { s.zone t with override := true }).ask 16 ⟨t.val, by omega⟩ false

/-- Clears a trunk's override flag (R133). -/
def State.clearOverride (s : State) (t : Trunk) : State := s.setZone t { s.zone t with override := false }

/-! ### The chiller -/

/-- The surge: a surge level above 0 that the part-wide POURING count has reached (R135). -/
def Chiller.surging (c : Chiller) (pouring : Nat) : Bool := decide (0 < c.surge ∧ c.surge ≤ pouring)

/-- Whether BATH is FAILED on an input. -/
def Climate.bathFailed (c : Climate) : Bool := (c.assigned .bath).isSome && (look c.roles 12).failed

/-- The wanted state of stage 1 (R135). -/
def Climate.wanted1 (c : Climate) : Bool :=
  match c.reading .bath with
  | some f => if c.chiller.stage1.on then decide (f > c.chiller.sp) else decide (f > c.chiller.sp + c.chiller.h1)
  | none => c.bathFailed

/-- The wanted state of stage 2 (R135). -/
def Climate.wanted2 (c : Climate) (pouring : Nat) : Bool :=
  let surge := c.chiller.surging pouring
  match c.reading .bath with
  | some f =>
    if c.chiller.stage2.on then decide (f > c.chiller.sp + c.chiller.h1) || surge
    else decide (f > c.chiller.sp + c.chiller.h2) || surge
  | none => surge

/-- A stage switches once its run count permits and its wanted state differs from its state (R136). -/
def Stage.decideSwitch (x : Stage) (wanted : Bool) (minOn minOff : Nat) : Stage :=
  if x.on = wanted then x
  else if x.run ≥ (if wanted then minOff else minOn) then { on := wanted, run := 0 }
  else x

/-- Stage 1 is decided (R136). -/
def State.decideStage1 (s : State) : State :=
  let c := s.climate.chiller
  s.setChiller { c with stage1 := c.stage1.decideSwitch s.climate.wanted1 c.minOn c.minOff }

/-- Stage 2 is decided (R136). -/
def State.decideStage2 (s : State) (pouring : Nat) : State :=
  let c := s.climate.chiller
  s.setChiller { c with stage2 := c.stage2.decideSwitch (s.climate.wanted2 pouring) c.minOn c.minOff }

/-- The run counts of both stages increase by 1 (R130). -/
def State.countStages (s : State) : State :=
  let c := s.climate.chiller
  s.setChiller { c with stage1 := { c.stage1 with run := satCount 65535 c.stage1.run },
                        stage2 := { c.stage2 with run := satCount 65535 c.stage2.run } }

/-! ### The window -/

/-- The next pattern that Cellar Climate asks of VG16 (R130). -/
def Climate.pattern (c : Climate) : Pattern :=
  (indices 6).foldl (fun p t => setBit p ⟨t.val, by omega⟩ (c.glycol t))
    (setBit (setBit 0 6 c.chiller.stage1.on) 7 c.chiller.stage2.on)

/-- Step 2 of a window: at window 0 the duties are fixed and then the boost is counted (R130). -/
def State.windowDuty (s : State) : State := if s.climate.window = 0 then s.fixDuties.countBoost else s

/-- Step 5 of a window: the whole next pattern of VG16 is written (R130). -/
def State.writeClimate (s : State) : State := s.setValve 16 { s.valve 16 with next := s.climate.pattern }

/-- Cellar Climate takes a window (R130); stage 2 reads the part-wide POURING count. -/
def State.takeWindow (s : State) (pouring : Nat) : State :=
  ((((((s.setWindow ((s.climate.window + 1) % 16)).evalGates).windowDuty).countStages).decideStage1).decideStage2
    pouring).writeClimate

end Sys2Proof.Machine
end

