-- ==== Sys2Proof/Machine/KegOps.lean ====
section
/-! DEFINITION. The operations of the Keg Register: charging a keg (R69), the settlement and low-flow reports (R82, R83), the
spent decision and changeover (R84), purge loss (R88), the Coupler Read Queue and the tag read (R73 to R81). -/

namespace Sys2Proof.Machine

/-! ### Charging a keg -/

/-- The remaining volume of a keg (section 4.1). -/
def KegRec.remaining (k : KegRec) : Nat := k.nominal - k.drawn

/-- An amount limited to the headroom of drawn (R69). -/
def KegRec.limit (k : KegRec) (n : Nat) : Nat := min n (maxTotal - k.drawn)

/-- Adds to the billed bucket and to drawn (R69). -/
def KegRec.addBilled (k : KegRec) (n : Nat) : KegRec :=
  { k with billed := k.billed + k.limit n, drawn := k.drawn + k.limit n }
/-- Adds to the unbilled bucket and to drawn (R69). -/
def KegRec.addUnbilled (k : KegRec) (n : Nat) : KegRec :=
  { k with unbilled := k.unbilled + k.limit n, drawn := k.drawn + k.limit n }
/-- Adds to the house bucket and to drawn (R69). -/
def KegRec.addHouse (k : KegRec) (n : Nat) : KegRec :=
  { k with house := k.house + k.limit n, drawn := k.drawn + k.limit n }
/-- Adds to the loss bucket and to drawn (R69). -/
def KegRec.addLoss (k : KegRec) (n : Nat) : KegRec :=
  { k with loss := k.loss + k.limit n, drawn := k.drawn + k.limit n }

/-- The amounts that a settlement hands to the keg (R35). -/
structure Amounts where
  billed : Nat
  unbilled : Nat
  house : Nat
  loss : Nat
  deriving DecidableEq, Repr

/-- An addition with several buckets, in the order billed, unbilled, house, loss (R69). -/
def KegRec.charge (k : KegRec) (a : Amounts) : KegRec :=
  (((k.addBilled a.billed).addUnbilled a.unbilled).addHouse a.house).addLoss a.loss

/-- Applies `f` to the keg at a position, if there is one. -/
def State.onKeg (s : State) (l : Line) (p : Position) (f : KegRec → KegRec) : State :=
  match s.keg l p with
  | some k => s.setKeg l p (some (f k))
  | none => s

/-- What step 4 of a settlement does to the ON_TAP keg: totals, then suspicion (R82). -/
def KegRec.settled (k : KegRec) (a : Amounts) (reason : CloseReason) (vml : Nat) : KegRec :=
  let k1 := k.charge a
  if reason ≠ .lowFlow ∧ vml ≥ 50 then { k1 with suspect := false } else k1

/-- The settlement report for the keg ON_TAP on a line (R82). -/
def State.kegSettled (s : State) (l : Line) (a : Amounts) (reason : CloseReason) (vml : Nat) : State :=
  match s.onTap l with
  | some p => s.onKeg l p fun k => k.settled a reason vml
  | none => s

/-! ### The spent decision and changeover -/

/-- The changeover target across from `p`: an eligible keg, with the chain fault clear (R84). -/
def State.changeoverTarget (s : State) (l : Line) (p : Position) : Option Position :=
  if s.eligible l p.other && !s.valves.fault then some p.other else none

/-- Steps 3 to 5 of the spent decision: the changeover, or none, and the report to the Line Table (R84). -/
def State.changeover (s : State) (l : Line) (p : Position) : State :=
  match s.changeoverTarget l p with
  | some q => ((s.setKegState l q .onTap).askSelector l q true).kegReport l (some q)
  | none => s.kegReport l none

/-- The spent decision for the ON_TAP keg at `p` (R84). -/
def State.spend (s : State) (l : Line) (p : Position) : State :=
  (((s.setKegState l p .spent).askSelector l p false).raise .kegSpent l).changeover l p

/-- The low-flow report for the line's ON_TAP keg (R83). -/
def State.lowFlowReport (s : State) (l : Line) : State :=
  match s.onTap l with
  | none => s
  | some p =>
    match s.keg l p with
    | none => s
    | some k =>
      let s1 := s.setKeg l p (some { k with lowFlows := satAdd k.lowFlows 1 })
      if k.remaining ≤ s.timing.emptyMargin ∨ k.suspect = true then s1.spend l p
      else s1.setKeg l p (some { k with lowFlows := satAdd k.lowFlows 1, suspect := true })

/-- Purge loss charged to the keg at the line's last-product-keg position (R88). -/
def State.purgeLoss (s : State) (l : Line) (fill : Nat) (p : Option Position) : State :=
  match p with
  | none => s
  | some q =>
    match s.keg l q with
    | some k => if k.state = .verifying then s else s.setKeg l q (some (k.addLoss fill))
    | none => s

/-! ### The Coupler Read Queue -/

/-- Whether the queue holds an entry for a position (R73). -/
def State.readQueued (s : State) (l : Line) (p : Position) : Bool :=
  s.kegRegister.queue.any fun e => e.line == l && e.position == p

/-- The queue is full, or holds the position already (R72, R79). -/
def State.readBusy (s : State) (l : Line) (p : Position) : Bool :=
  decide (s.kegRegister.queue.length ≥ 8) || s.readQueued l p

/-- When the bus is idle and the queue is not empty, the head entry goes into progress (R73). -/
def State.startRead (s : State) : State :=
  match s.kegRegister.bus, s.kegRegister.queue with
  | none, _ :: _ => s.setBus (some { copy := 0, retry := false, discard := false })
  | _, _ => s

/-- An entry joins at the tail; on an idle bus it goes into progress at once (R73). -/
def State.enqueueRead (s : State) (e : ReadEntry) : State := (s.setReadQueue (s.kegRegister.queue ++ [e])).startRead

/-- The head is in progress and is the entry of a position. -/
def State.readInProgress (s : State) (l : Line) (p : Position) : Bool :=
  match s.kegRegister.bus, s.kegRegister.queue with
  | some _, e :: _ => e.line == l && e.position == p
  | _, _ => false

/-- Retirement's act on the entry of a position: deleted, or marked for discard while in progress (R81). -/
def State.withdrawRead (s : State) (l : Line) (p : Position) : State :=
  if s.readInProgress l p then
    match s.kegRegister.bus with
    | some t => s.setBus (some { t with discard := true })
    | none => s
  else s.setReadQueue (s.kegRegister.queue.filter fun e => !(e.line == l && e.position == p))

/-- The outcome of an enrol read, applied to the record at its position (R77, R78). -/
def State.applyEnrol (s : State) (e : ReadEntry) (o : TagOutcome) (tagRead : Option Tag) : State :=
  match s.keg e.line e.position with
  | none => s
  | some k =>
    let last := fun (r : Option Tag) => some { position := e.position, tag := k.tag, outcome := o, tagRead := r }
    if o = .isMatch then
      (((s.setKeg e.line e.position (some { k with state := .standby })).setLastEnrol e.line (last none)).raise
        .kegVerified e.line).kegVerified e.line e.position
    else
      ((s.setKeg e.line e.position none).setLastEnrol e.line
        (last (if o = .mismatch then tagRead else none))).raise .kegRejected e.line

/-- The outcome of a check read, applied to the record at its position (R80). -/
def State.applyCheck (s : State) (e : ReadEntry) (o : TagOutcome) : State :=
  (s.onKeg e.line e.position fun k => { k with lastCheck := some o, checkFailed := !(o == .isMatch) }).raise
    .kegCheckDone e.line

/-- A transaction ends: its entry leaves the head, the outcome is used unless the discard mark is set, and the next entry
goes into progress (R76). -/
def State.endRead (s : State) (e : ReadEntry) (rest : List ReadEntry) (discard : Bool) (o : TagOutcome)
    (tagRead : Option Tag) : State :=
  let s1 := (s.setReadQueue rest).setBus none
  let s2 :=
    if discard then s1
    else match e.purpose with
      | .enrol => s1.applyEnrol e o tagRead
      | .check => s1.applyCheck e o
  s2.startRead

/-- What one read of a copy leads to (R74, R75). -/
inductive CopyVerdict where
  | ends (o : TagOutcome) (tagRead : Option Tag)
  | again (t : Transaction)
  deriving DecidableEq, Repr

/-- The status byte and tag block of one read are judged (R74, R75). -/
def judgeCopy (t : Transaction) (expected : Tag) (status : Byte) (block : BitVec 128) : CopyVerdict :=
  if status = 0xA5#8 then
    if validCopy block then
      if blockId block = expected then .ends .isMatch none else .ends .mismatch (some (blockId block))
    else if t.copy < 3 then .again { t with copy := t.copy + 1, retry := false }
    else .ends .tagBad none
  else if status = 0#8 then .ends .noCoupler none
  else if t.retry then .ends .readerFault none
  else .again { t with retry := true }

/-- A read of one copy completes, all five of its stages with it (R74, R186). -/
def State.copyRead (s : State) (status : Byte) (block : BitVec 128) : State :=
  match s.kegRegister.bus, s.kegRegister.queue with
  | some t, e :: rest =>
    match judgeCopy t e.expected status block with
    | .again t' => s.setBus (some t')
    | .ends o r => s.endRead e rest t.discard o r
  | _, _ => s

/-- The reader number of a position: line × 2 + position (R74). -/
def readerNumber (l : Line) (p : Position) : Nat := l.val * 2 + positionCode p

/-- One stage of a read on the Coupler Bus: the levels of the select lines, reader bit 0 on select line 0, and of the strobe, the
bits sent on data out, and the number of bytes clocked in (R186). -/
structure BusStage where
  select : BitVec 6
  strobe : Bool
  sends : List Bool
  clocksIn : Nat
  deriving DecidableEq, Repr

/-- The idle bus: the select lines at 0 and the strobe low (R186). -/
def BusStage.idle : BusStage := { select := 0, strobe := false, sends := [], clocksIn := 0 }

/-- The five stages of one read of a copy: select, strobe, the request byte 0xC0 + c, the status byte with the tag block, and the
return to idle (R186). -/
def copyReadStages (reader copy : Nat) : List BusStage :=
  let raised : BusStage := { select := BitVec.ofNat 6 reader, strobe := true, sends := [], clocksIn := 0 }
  [{ raised with strobe := false }, raised, { raised with sends := byteBits (BitVec.ofNat 8 (0xC0 + copy)) },
    { raised with clocksIn := 17 }, .idle]

/-- The stages of the read in progress; each read of a copy, a retry too, runs through all five before COUPLER_COPY_READ brings its
bytes, so the strobe falls between two reads of one transaction (R74, R186). Without a transaction the bus is idle. -/
def KegRegister.busStages (k : KegRegister) : List BusStage :=
  match k.bus, k.queue with
  | some t, e :: _ => copyReadStages (readerNumber e.line e.position) t.copy
  | _, _ => [.idle]

end Sys2Proof.Machine
end

