-- ==== Sys2Proof/Machine/DrawOps.lean ====
section
/-! DEFINITION. What Pour Control does for the Cleaning Sequencer and at the close of any pour: the POURING counts (R47), the
close (R55), CLEAN draws and their abort (R61, R62), and the occasion of leaving the trunk's wait queue (R48). -/

namespace Sys2Proof.Machine

/-- The pour of a record that is not IDLE. -/
def PourRec.pour : PourRec → Option Pour
  | .idle => none
  | .waiting p _ => some p
  | .pouring p _ _ _ => some p
  | .tailing p _ _ _ _ _ => some p

/-- A record counted in its trunk's POURING count: POURING with kind PORTION, FREE or PRIME (R47). -/
def PourRec.counted : PourRec → Bool
  | .pouring p _ _ _ => p.kind != .clean
  | _ => false

/-- A line runs in a trunk. -/
def LineRec.inTrunk (r : LineRec) (t : Trunk) : Bool := r.cfg.any fun c => c.trunk == t

/-- A trunk's POURING count (R47). -/
def State.trunkPouring (s : State) (t : Trunk) : Nat :=
  (indices 32).countP fun l => (s.line l).inTrunk t && (s.pour l).record.counted

/-- The part-wide POURING count: the sum over the six trunks (R47). -/
def State.partPouring (s : State) : Nat := ((indices 6).map s.trunkPouring).sum

/-- The fields of a pour at admission (R23, R26, R32). -/
def Pour.admitted (kind : PourKind) (target hold : Nat) (account : Option Nat) (warm : Bool) : Pour :=
  { kind := kind, target := target, hold := hold, account := account, v := 0, clamp := false, warm := warm }

/-- A pour enters POURING (R47). -/
def PourRec.enterPouring (p : Pour) : PourRec := .pouring p 0 0 0

/-- A pour enters TAILING: V_close takes V, and the tail counts start at 0 (R55). -/
def PourRec.enterTailing (p : Pour) (framesOpen : Nat) (reason : CloseReason) : PourRec :=
  .tailing p framesOpen p.v reason 0 0

/-- A POURING pour is closed; a pour in another state is left as it is (R55). -/
def State.closePour (s : State) (l : Line) (reason : CloseReason) : State :=
  match (s.pour l).record with
  | .pouring p fo _ _ => s.setRecord l (.enterTailing p fo reason)
  | _ => s

/-- Why Pour Control refuses a CLEAN draw, in the order of R61. -/
inductive DrawRefusal where
  | notCleaning
  | busy
  | loopStopped
  | lost
  | tooWarm
  deriving DecidableEq, Repr

/-- A loop is RUNNING. -/
def LoopRec.isRunning (r : LoopRec) : Bool := r.state != .stopped

/-- The first failing condition of R61. -/
def State.drawRefusal (s : State) (l : Line) : Option DrawRefusal :=
  let r := s.line l
  if r.mode ≠ .cleaning then some .notCleaning
  else if s.pourIdle l = false then some .busy
  else if (r.cfg.any fun c => (s.loop c.binding.loop).isRunning) = false then some .loopStopped
  else if (r.cfg.any fun c => (s.recv c.binding).any fun x => x.lost) = true then some .lost
  else if s.lineGate l = .hot then some .tooWarm
  else none

/-- A CLEAN draw is asked on a line with a volume in mL (R61). -/
def State.issueDraw (s : State) (l : Line) (volume : Nat) : Except DrawRefusal State :=
  match s.drawRefusal l with
  | some r => .error r
  | none => .ok (s.setRecord l (.enterPouring (Pour.admitted .clean (volume * 1000000) 0 none false)))

/-- The Cleaning Sequencer aborts an open CLEAN draw; a draw that tails or has settled is left as it is (R62). -/
def State.abortDraw (s : State) (l : Line) : State :=
  match (s.pour l).record with
  | .pouring p fo _ _ => if p.kind = .clean then s.setRecord l (.enterTailing p fo .abort) else s
  | _ => s

end Sys2Proof.Machine
end

