-- ==== Sys2Proof/Machine/CleanOps.lean ====
section
/-! DEFINITION. The operations of the Cleaning Sequencer: skid outputs (R145), metered runs and their draws (R146 to R149), the
phases and their ends (R150 to R154), halt, abort and loop stop (R157 to R159), group formation (R143, R144) and release (R155). -/

namespace Sys2Proof.Machine

/-! ### Group lines -/

/-- Results with which a line takes part (R146). -/
def GroupResult.takesPart : GroupResult → Bool
  | .pending => true
  | .failWeak => true
  | .aborted => true
  | _ => false

/-- A line that takes part and still owes. -/
def GroupLine.owing (x : GroupLine) : Bool := x.result.takesPart && decide (0 < x.owed)

/-- Some line of the group takes part (R154). -/
def Group.anyPart (g : Group) : Bool := g.lines.any fun x => x.result.takesPart

/-- Some line of the group takes part and owes (R147). -/
def Group.anyOwing (g : Group) : Bool := g.lines.any GroupLine.owing

/-- PURGE, CAUSTIC and RINSE are metered phases (R146). -/
def Phase.metered : Phase → Bool
  | .purge => true
  | .caustic => true
  | .rinse => true
  | _ => false

/-- Every group line changed by `f`. -/
def Group.mapLines (g : Group) (f : GroupLine → GroupLine) : Group := { g with lines := g.lines.map f }

/-- A result changed only where it is one of those the cause applies to (R156). -/
def GroupLine.mark (on : GroupResult → Bool) (r : GroupResult) (x : GroupLine) : GroupLine :=
  if on x.result then { x with result := r } else x

/-- The fill of a line's record, 0 without one. -/
def State.fillOf (s : State) (l : Line) : Nat := ((s.line l).cfg.map LineCfg.fill).getD 0

/-! ### Skid outputs (R145) -/

/-- The skid outputs asked of VG17 in one phase; the member of the pair that opens is asked last. -/
def State.askSkid (s : State) (pump water caustic heater lamp : Bool) : State :=
  let s1 := s.ask 17 0 pump
  let s2 := if water then (s1.ask 17 2 false).ask 17 1 true else (s1.ask 17 1 false).ask 17 2 caustic
  (s2.ask 17 3 heater).ask 17 4 lamp

/-- The row of the skid table for a phase; the heater of SOAK starts OFF (R145, R152). -/
def State.askPhase (s : State) : Phase → State
  | .take => s.askSkid false false false false true
  | .purge => s.askSkid true true false false true
  | .caustic => s.askSkid true false true false true
  | .soak => s.askSkid false false false false true
  | .rinse => s.askSkid true true false false true
  | .verify => s.askSkid false false false false true
  | .release => s.askSkid false false false false false

/-! ### Ending a group's work -/

/-- The trunks that carry a group line. -/
def State.groupTrunks (s : State) (g : Group) : List Trunk :=
  g.lines.filterMap fun x => (s.line x.line).cfg.map LineCfg.trunk

/-- When a SOAK ends the heater goes off and, for a warm recipe, the overrides are cleared (R152). -/
def State.endHeating (s : State) (g : Group) : State :=
  if g.phase = .soak then
    let s1 := s.ask 17 3 false
    if g.recipe.warm then (s.groupTrunks g).foldl State.clearOverride s1 else s1
  else s

/-- Purge loss of one group line that held product, on its line and on its keg (R150). -/
def State.reportLine (s : State) (x : GroupLine) : State :=
  if x.heldProduct then
    (s.addPurgeLoss x.line (s.fillOf x.line)).purgeLoss x.line (s.fillOf x.line) (s.line x.line).lastKeg
  else s

/-- The purge loss of the group, if it has not been reported (R150); the caller sets the flag. -/
def State.reportLoss (s : State) (g : Group) : State :=
  if g.lossReported then s else g.lines.foldl State.reportLine s

/-- Open draws of group lines are aborted (R62). -/
def State.abortDraws (s : State) (xs : List GroupLine) : State := xs.foldl (fun s x => s.abortDraw x.line) s

/-- The group enters RELEASE: heating ends and the skid goes off (R155). Its low-pump run starts at 0 (R149; DEDUCED, log entry 24),
and owed and delivered keep the values of the run before (DESIGN CHOICE, log entry 24). -/
def State.enterRelease (s : State) (g : Group) : State :=
  ((s.endHeating g).askPhase .release).setGroup
    (some { g with phase := .release, run := 1, steps := 0, lowPump := 0, heater := false })

/-- No line takes part: the loss is reported if it was not, and the group enters RELEASE (R154). -/
def State.abandon (s : State) (g : Group) : State := (s.reportLoss g).enterRelease { g with lossReported := true }

/-! ### Starting runs -/

/-- The recipe's percentage for a metered phase (R146). -/
def Recipe.percent (r : Recipe) : Phase → Nat
  | .purge => r.purge
  | .caustic => r.caustic
  | _ => r.rinse

/-- What a line owes at the start of a metered run (R146). -/
def GroupLine.startRun (x : GroupLine) (fill percent : Nat) : GroupLine :=
  if x.result.takesPart then { x with owed := ceilDiv (fill * percent) 100, delivered := 0 } else x

/-- A run of a metered phase starts, unless no line takes part (R145, R146, R154). -/
def State.startRun (s : State) (g : Group) (phase : Phase) (run : Nat) : State :=
  if g.anyPart then
    (s.askPhase phase).setGroup
      (some ({ g with phase := phase, run := run, steps := 0, lowPump := 0, heater := false }.mapLines
        fun x => x.startRun (s.fillOf x.line) (g.recipe.percent phase)))
  else s.abandon g

/-- The group enters VERIFY with the run of its RINSE (R153); its low-pump run starts at 0 as in every run (R149; DEDUCED, log entry
24), and owed and delivered keep the values of the RINSE run (DESIGN CHOICE, log entry 24). -/
def State.enterVerify (s : State) (g : Group) : State :=
  (s.askPhase .verify).setGroup (some { g with phase := .verify, steps := 0, lowPump := 0, heater := false })

/-- The heater decision of a warm soak (R152). -/
def heaterNext (now : Bool) (target : Int) (reading : Option Int) : Bool :=
  match reading with
  | none => false
  | some f => if f < target - 16 then true else if f ≥ target then false else now

/-- A warm recipe's heater is decided and written to VG17's next pattern (R152). -/
def State.decideHeater (s : State) (g : Group) : State :=
  if g.recipe.warm then
    let on := heaterNext g.heater g.recipe.target (s.climate.reading .solutionTemp)
    (s.ask 17 3 on).setGroup (some { g with heater := on })
  else s.setGroup (some g)

/-- The group enters SOAK; a warm recipe overrides its trunks and decides the heater (R152). Its low-pump run starts at 0 (R149;
DEDUCED, log entry 24), and owed and delivered keep the values of the CAUSTIC run (DESIGN CHOICE, log entry 24). -/
def State.enterSoak (s : State) (g : Group) : State :=
  let g1 := { g with phase := .soak, run := 1, steps := 0, lowPump := 0, heater := false }
  let s1 := s.askPhase .soak
  (if g.recipe.warm then (s.groupTrunks g).foldl State.setOverride s1 else s1).decideHeater g1

/-! ### Ends of runs -/

/-- SOLUTION_COND is available and at or above the minimum (R151). -/
def strongEnough (reading : Option Int) (minimum : Nat) : Bool := reading.any fun (f : Int) => decide (f ≥ (minimum : Int))

/-- SOLUTION_COND is available and at or below the maximum (R153). -/
def cleanEnough (reading : Option Int) (maximum : Nat) : Bool := reading.any fun (f : Int) => decide (f ≤ (maximum : Int))

/-- Results that weak caustic and a failing verify replace (R156). -/
def GroupResult.openOrAborted : GroupResult → Bool
  | .pending => true
  | .aborted => true
  | _ => false

/-- The end of a CAUSTIC run (R151). -/
def State.endCaustic (s : State) (g : Group) : State :=
  if strongEnough (s.climate.reading .solutionCond) g.recipe.condMin then s.enterSoak g
  else if g.run = 1 then s.startRun g .caustic 2
  else s.startRun (g.mapLines (GroupLine.mark GroupResult.openOrAborted .failWeak)) .rinse 1

/-- A metered run ends, complete or by timeout, and is decided by the rule of its phase (R147, R150, R151, R153, R154). -/
def State.endRun (s : State) (g : Group) : State :=
  if g.anyPart then
    match g.phase with
    | .purge => (s.reportLoss g).startRun { g with lossReported := true } .caustic 1
    | .caustic => s.endCaustic g
    | .rinse => s.enterVerify g
    | _ => s.setGroup (some g)
  else s.abandon g

/-- The group is written, and its metered run ends when no line that takes part owes (R147). -/
def State.settleRun (s : State) (g : Group) : State :=
  if g.phase.metered && !g.anyOwing then s.endRun g else s.setGroup (some g)

/-! ### Release -/

/-- The result stored as a line's clean result; PENDING does not reach release (R155, R156). -/
def GroupResult.toClean : GroupResult → CleanResult
  | .pending => .none
  | .pass => .pass
  | .failWeak => .failWeak
  | .failRinse => .failRinse
  | .failTimeout => .failTimeout
  | .failLoop => .failLoop
  | .aborted => .aborted
  | .halted => .halted

/-- A set of lines from a list. -/
def lineSet (ls : List Line) : LineSet := ls.foldl (fun b l => b ||| member l.val) 0

/-- The release of the group, its lines ascending (R155). -/
def State.releaseGroup (s : State) (g : Group) : State :=
  let s1 := g.lines.foldl (fun s x => s.releaseLine x.line x.result.toClean) s
  let all := lineSet (g.lines.map GroupLine.line)
  let foul := lineSet ((g.lines.filter fun x => x.result.toClean.modeAfter == .foul).map GroupLine.line)
  let s2 := s1.raiseSet .cleanDone all
  (if foul = 0 then s2 else s2.raiseSet .lineFoul foul).setGroup none

/-- A group in RELEASE with no draw in flight is released (R155). -/
def State.considerRelease (s : State) : State :=
  match s.cleaning.group with
  | some g => if g.phase = .release ∧ (g.lines.all fun x => x.draw.isNone) then s.releaseGroup g else s
  | none => s

/-! ### Settled draws -/

/-- What a settled draw does to its group line (R147). -/
def GroupLine.drawSettled (g : Group) (l : Line) (vml : Nat) (x : GroupLine) : GroupLine :=
  if x.line = l then
    if x.draw = some (g.phase, g.run) ∧ x.result.takesPart = true then
      { x with draw := none, delivered := x.delivered + vml, owed := x.owed - vml }
    else { x with draw := none }
  else x

/-- A CLEAN draw of a line settles with its delivered volume: the run may end, and in RELEASE the last draw carries out the
release (R147). -/
def State.drawSettled (s : State) (l : Line) (vml : Nat) : State :=
  match s.cleaning.group with
  | none => s
  | some g => (s.settleRun (g.mapLines (GroupLine.drawSettled g l vml))).considerRelease

/-! ### Steps -/

/-- The group is halted (R158). -/
def State.haltGroup (s : State) (g : Group) : State :=
  let marked := g.mapLines fun x => { x with result := .halted }
  if g.phase = .release then s.setGroup (some marked)
  else ((s.abortDraws g.lines).reportLoss g).enterRelease { marked with lossReported := true }

/-- The pump has failed: PUMP_FAULT is raised and the group is halted (R149). -/
def State.pumpFailed (s : State) : State :=
  match s.cleaning.group with
  | some g => if g.phase.metered ∧ g.lowPump ≥ 5 then s.raisePump.haltGroup g else s
  | none => s

/-- A line that times out (R148). -/
def GroupLine.timeOut (x : GroupLine) : GroupLine := if x.owing then { x with result := .failTimeout } else x

/-- A metered run times out when its step count has reached the phase timeout (R148). -/
def State.runTimeout (s : State) : State :=
  match s.cleaning.group with
  | some g =>
    if g.phase.metered ∧ g.steps ≥ g.recipe.timeout then
      (s.abortDraws (g.lines.filter GroupLine.owing)).endRun (g.mapLines GroupLine.timeOut)
    else s
  | none => s

/-- Draws asked for the lines that owe and have none in flight, in their order (R146). -/
def State.askDraws (phase : Phase) (run : Nat) : State → List GroupLine → State × List GroupLine
  | s, [] => (s, [])
  | s, x :: xs =>
    if x.owing && x.draw.isNone then
      match s.issueDraw x.line (min x.owed 2000) with
      | .ok s1 =>
        let (s2, ys) := State.askDraws phase run s1 xs
        (s2, { x with draw := some (phase, run) } :: ys)
      | .error .loopStopped =>
        let (s2, ys) := State.askDraws phase run s xs
        (s2, { x with result := .failLoop } :: ys)
      | .error _ =>
        let (s2, ys) := State.askDraws phase run s xs
        (s2, x :: ys)
    else
      let (s2, ys) := State.askDraws phase run s xs
      (s2, x :: ys)

/-- The draws of one step, and the end of the run when a stopped loop leaves no line owing (R146). -/
def State.stepDraws (s : State) (g : Group) : State :=
  let (s1, xs) := State.askDraws g.phase g.run s g.lines
  s1.settleRun { g with lines := xs }

/-- The low-pump run after a step's pump check, which begins at the fourth step (R149). -/
def lowPumpNext (run steps count minimum : Nat) : Nat :=
  if steps < 4 then run else if count < minimum then run + 1 else 0

/-- A step of a metered run: the pump check, the timeout test and the draws, in this order (R146, R148, R149). -/
def State.meteredStep (s : State) (g : Group) (latched : Nat) : State :=
  let steps := satCount 65535 g.steps
  let g1 := { g with steps := steps, lastPump := latched,
                     lowPump := lowPumpNext g.lowPump steps latched s.cleaning.pumpMin }
  let s1 := s.setGroup (some g1)
  if g1.lowPump ≥ 5 then s1.pumpFailed
  else if steps ≥ g.recipe.timeout then s1.runTimeout
  else s1.stepDraws g1

/-- The soak ends when the step count has reached the soak steps, and the group enters RINSE (R152). -/
def State.finishSoak (s : State) : State :=
  match s.cleaning.group with
  | some g => if g.phase = .soak ∧ g.steps ≥ g.recipe.soak then (s.endHeating g).startRun g .rinse 1 else s
  | none => s

/-- A step of SOAK (R152). -/
def State.soakStep (s : State) (g : Group) (latched : Nat) : State :=
  let g1 := { g with steps := satCount 65535 g.steps, lastPump := latched }
  if g1.steps ≥ g.recipe.soak then (s.setGroup (some g1)).finishSoak else s.decideHeater g1

/-- The first step of VERIFY decides on the rinse water (R153). -/
def State.verifyStep (s : State) (g : Group) (latched : Nat) : State :=
  let g1 := { g with steps := satCount 65535 g.steps, lastPump := latched }
  if cleanEnough (s.climate.reading .solutionCond) g.recipe.condMax then
    s.enterRelease (g1.mapLines (GroupLine.mark (· == .pending) .pass))
  else if g.run < g.recipe.passes then s.startRun g1 .rinse (g.run + 1)
  else s.enterRelease (g1.mapLines (GroupLine.mark GroupResult.openOrAborted .failRinse))

/-- The active group takes a step at a TB2 period event, with the pump-flow count latched there (R146). TAKE counts none
(R144), and a group that waits in RELEASE counts none and keeps its last pump count (DESIGN CHOICE, log entry 28). -/
def State.cleanStep (s : State) (latched : Nat) : State :=
  match s.cleaning.group with
  | none => s
  | some g =>
    match g.phase with
    | .take => s
    | .release => s
    | .soak => s.soakStep g latched
    | .verify => s.verifyStep g latched
    | _ => s.meteredStep g latched

/-- TAKE ends and the group enters PURGE (R144). -/
def State.endTake (s : State) (g : Group) : State := s.startRun g .purge 1

/-! ### Abort and loop stop -/

/-- Results PENDING become ABORTED (R157). -/
def Group.aborted (g : Group) : Group := g.mapLines (GroupLine.mark (· == .pending) .aborted)

/-- CLEAN_ABORT on the active group, by its phase; none where the group is past aborting (R157). -/
def State.abortGroup (s : State) (g : Group) : Option State :=
  match g.phase with
  | .take => some (((s.abortDraws g.lines).reportLoss g).enterRelease { g.aborted with lossReported := true })
  | .purge => some (((s.abortDraws g.lines).reportLoss g).enterRelease { g.aborted with lossReported := true })
  | .caustic => some (((s.abortDraws g.lines).endHeating g).startRun g.aborted .rinse 1)
  | .soak => some (((s.abortDraws g.lines).endHeating g).startRun g.aborted .rinse 1)
  | _ => none

/-- The lines of a stopped loop that are in the active group fail FAIL_LOOP (R159, R156); a group left with no line that takes
part goes to RELEASE (R154; DEDUCED, log entry 13). -/
def State.loopStopReport (s : State) (ls : List Line) : State :=
  match s.cleaning.group with
  | none => s
  | some g =>
    let g1 := g.mapLines fun x => if ls.contains x.line then x.mark GroupResult.takesPart .failLoop else x
    if g1.phase = .release ∨ g1.anyPart = true then s.settleRun g1 else s.abandon g1

/-! ### Formation -/

/-- An entry is takeable: its line's pour is IDLE and its mode is WATER, READY, DRY or FOUL (R143). -/
def State.takeableEntry (s : State) (e : CleanEntry) : Bool := (s.line e.line).mode.takeable && s.pourIdle e.line

/-- The entries chosen for a group, in queue order (R143). -/
def State.chosen (s : State) : List CleanEntry :=
  match s.cleaning.queue.find? s.takeableEntry with
  | none => []
  | some e =>
    (s.cleaning.queue.filter fun x => s.takeableEntry x && x.recipe == e.recipe).take s.cleaning.groupSize

/-- The takes of chosen lines, in the order given: a granted take leaves the queue and joins the group (R144). -/
def State.takeLines : State → List Line → State × List GroupLine
  | s, [] => (s, [])
  | s, l :: ls =>
    match s.takeLine l with
    | none => State.takeLines s ls
    | some s1 =>
      let held := decide ((s.line l).mode = .ready ∨ (s.line l).mode = .dry)
      let (s2, xs) := State.takeLines (s1.setCleanQueue (s1.cleaning.queue.filter fun e => e.line != l)) ls
      (s2, { line := l, heldProduct := held, result := .pending, owed := 0, delivered := 0, draw := none } :: xs)

/-- A group is formed from the queue as it stands (R143, R144); before its first step its last pump count is 0, and in TAKE so are
owed and delivered of its lines (DESIGN CHOICE, log entry 24). -/
def State.formGroup (s : State) : State :=
  match s.chosen with
  | [] => s
  | e :: es =>
    match look s.cleaning.recipes e.recipe with
    | none => s
    | some r =>
      let lines := (indices 32).filter fun l => (e :: es).any fun x => x.line == l
      match State.takeLines s lines with
      | (_, []) => s
      | (s1, xs) =>
        (s1.askPhase .take).setGroup
          (some { recipe := r, recipeNo := e.recipe, phase := .take, run := 1, steps := 0, lowPump := 0, lastPump := 0,
                  lossReported := false, heater := false, lines := xs, takeWait := .period })

/-- Group formation is considered, with no group active and the chain fault clear (R143). -/
def State.considerFormation (s : State) : State :=
  match s.cleaning.group with
  | some _ => s
  | none => if s.valves.fault then s else s.formGroup

end Sys2Proof.Machine
end

