-- ==== Sys2Proof/Machine/PourOps.lean ====
section
/-! DEFINITION. The operations of Pour Control: metering (R24 to R27), delivered volume, tail learning and the debit split (R28
to R34), settlement (R58), the consequences of a frame (R49, R53, R54, R56), admission (R41 to R46), withdrawal (R50), the
end of a pour with its faucet or loop (R57), promotion (R48), frames (R37 to R39, R52) and the outbound command (R63, R64). -/

namespace Sys2Proof.Machine

/-! ### Metering -/

/-- What an arrival carries to Pour Control (R111): `prev` is the previous accepted code. -/
structure Arrival where
  delta : Nat
  saturated : Bool
  code : BitVec 3
  towerFault : Bool
  prev : Option (BitVec 3)
  deriving DecidableEq, Repr

/-- The effective code: STOP when the tower fault flag is set (R38). -/
def Arrival.effective (a : Arrival) : BitVec 3 := if a.towerFault then 6#3 else a.code

/-- The pulse delta of an arrival: 255 when the saturation flag is set (R24). -/
def Arrival.pulses (a : Arrival) : Nat := if a.saturated then 255 else a.delta

/-- A request: effective code 1 to 5 or 7 after an accepted NONE (R38). -/
def Arrival.isRequest (a : Arrival) : Bool := a.effective != 0#3 && a.effective != 6#3 && a.prev == some 0#3

/-- A pulse delta accumulated into V, which is clamped at 32 bits (R25). -/
def Pour.accumulate (p : Pour) (d k : Nat) : Pour :=
  if p.v + d * k ≤ maxTotal then { p with v := p.v + d * k } else { p with v := maxTotal, clamp := true }

/-- The close test (R27): with the tail term for PORTION and FREE pours, without it for PRIME and CLEAN draws. -/
def Pour.closeTest (p : Pour) (tail : Nat) : Bool :=
  match p.kind with
  | .portion _ => decide (p.v + tail ≥ p.target)
  | .free => decide (p.v + tail ≥ p.target)
  | _ => decide (p.v ≥ p.target)

/-- The close reason when the test passes (R26). -/
def PourKind.testReason : PourKind → CloseReason
  | .free => .cap
  | _ => .target

/-- K and T of a line's record. -/
def State.meterOf (s : State) (l : Line) : Nat × Nat := ((s.line l).cfg.map fun c => (c.k, c.tail)).getD (0, 0)

/-- A word with its saturation flag set is counted for the line (R22, R24). -/
def State.countIfSaturated (s : State) (l : Line) (a : Arrival) : State :=
  if a.saturated then s.countSaturated l else s

/-! ### The arithmetic of settlement -/

/-- Delivered volume: V rounded half up to whole millilitres (R28). -/
def deliveredML (v : Nat) : Nat := (v + 500000) / 1000000

/-- The hold of a PORTION pour of `p` mL on an account (R32). -/
def portionHold (p : Nat) : Nat := p + ceilDiv p 16

/-- The learned tail moved one eighth of the way toward the measured tail (R31). -/
def learnTail (tail measured : Nat) : Nat :=
  (clampInt 0 40000000 ((tail : Int) + floorDiv ((measured : Int) - tail) 8)).toNat

/-- Whether a settled pour teaches the tail (R30). -/
def Pour.teaches (p : Pour) (reason : CloseReason) (ending : Ending) : Bool :=
  (match p.kind with | .portion _ => true | _ => false) && reason == .target && ending == .quiet && !p.clamp

/-- PORTION and FREE pours, which hold on accounts and reach the line totals. -/
def PourKind.isSale : PourKind → Bool
  | .portion _ => true
  | .free => true
  | _ => false

/-- The account that a pour's hold stands on: a sale on account 1 to 65,535 (R32, R45). -/
def Pour.holdAccount (p : Pour) : Option Nat :=
  if p.kind.isSale then (match p.account with | some 0 => none | x => x) else none

/-- The billed part of a delivered volume (R33). -/
def Pour.billed (p : Pour) (vml : Nat) : Nat := if p.holdAccount.isSome then min vml p.hold else 0

/-- The unbilled part of a delivered volume (R33). -/
def Pour.unbilled (p : Pour) (vml : Nat) : Nat := if p.holdAccount.isSome then vml - min vml p.hold else 0

/-- What a settlement hands to the ON_TAP keg (R35). -/
def Pour.amounts (p : Pour) (vml loss : Nat) : Amounts :=
  match p.kind with
  | .prime => { billed := 0, unbilled := 0, house := 0, loss := loss }
  | .clean => { billed := 0, unbilled := 0, house := 0, loss := 0 }
  | _ => { billed := p.billed vml, unbilled := p.unbilled vml, house := if p.holdAccount.isSome then 0 else vml, loss := 0 }

/-- The prime loss of a PRIME draw on a line (R34), 0 for another pour. -/
def State.lossOf (s : State) (l : Line) (p : Pour) (vml : Nat) : Nat :=
  if p.kind = .prime then primeLoss ((s.line l).primed.getD 0) vml (s.fillOf l) else 0

/-! ### Settlement -/

/-- Step 2 of settlement: an eligible pour teaches the line's T (R30, R31). -/
def State.teach (s : State) (l : Line) (p : Pour) (reason : CloseReason) (ending : Ending) (measured : Nat) : State :=
  if p.teaches reason ending then
    match (s.line l).cfg with
    | some c => s.setLine l { s.line l with cfg := some { c with tail := learnTail c.tail measured } }
    | none => s
  else s

/-- Step 3: the hold is settled with the billed volume (R33, R99). -/
def State.settleAccount (s : State) (p : Pour) (vml : Nat) : State :=
  match p.holdAccount with
  | some id => s.settleHold id p.hold (p.billed vml)
  | none => s

/-- Steps 4 to 6: the keg, the line totals and the prime (R82, R21, R7). -/
def State.settleShares (s : State) (l : Line) (p : Pour) (reason : CloseReason) (vml : Nat) : State :=
  match p.kind with
  | .clean => s
  | .prime =>
    (s.kegSettled l (p.amounts vml (s.lossOf l p vml)) reason vml).settlePrime l vml (s.lossOf l p vml)
  | _ =>
    (s.kegSettled l (p.amounts vml 0) reason vml).addPour l (p.account.getD 0) vml (p.billed vml) (p.unbilled vml) p.warm

/-- Step 7: a pour that closed LOW_FLOW is reported for the ON_TAP keg (R83). -/
def State.settleLowFlow (s : State) (l : Line) (p : Pour) (reason : CloseReason) : State :=
  if reason = .lowFlow ∧ p.kind ≠ .clean then s.lowFlowReport l else s

/-- Step 8: a CLEAN draw is handed to the Cleaning Sequencer (R147). -/
def State.settleClean (s : State) (l : Line) (p : Pour) (vml : Nat) : State :=
  if p.kind = .clean then s.drawSettled l vml else s

/-- Step 9: the summary is written and the record returns to IDLE (R59). -/
def State.writeSettlement (s : State) (l : Line) (x : Settlement) : State :=
  s.setPour l { s.pour l with record := .idle, last := some x }

/-- A pour settles, as one event in the order of R58. -/
def State.settle (s : State) (l : Line) (p : Pour) (vClose : Nat) (reason : CloseReason) (ending : Ending) : State :=
  let vml := deliveredML p.v
  let measured := p.v - vClose
  let s1 := s.teach l p reason ending measured
  let tail := (s1.meterOf l).2
  let s2 := s1.settleAccount p vml
  let s3 := s2.settleShares l p reason vml
  let s4 := s3.settleLowFlow l p reason
  let s5 := s4.settleClean l p vml
  s5.writeSettlement l
    { kind := p.kind, reason := reason, ending := ending, vml := vml, measured := measured, billed := p.billed vml,
      unbilled := p.unbilled vml, tail := tail }

/-! ### Withdrawal and the end of a pour at once -/

/-- A pour's hold is released, if one was placed (R98). -/
def State.releasePour (s : State) (p : Pour) : State :=
  match p.holdAccount with
  | some id => s.releaseHold id p.hold
  | none => s

/-- A line leaves the wait queue of its trunk (R48). -/
def State.leaveQueue (s : State) (l : Line) : State :=
  match (s.line l).cfg with
  | some c => s.setTrunk c.trunk { s.trunk c.trunk with queue := (s.trunk c.trunk).queue.filter fun x => x != l }
  | none => s

/-- A WAITING pour is withdrawn (R50). -/
def State.withdraw (s : State) (l : Line) : State :=
  match (s.pour l).record with
  | .waiting p _ => ((s.leaveQueue l).releasePour p).setRecord l .idle
  | _ => s

/-- The loss of the faucet or the stop of the loop ends a line's pour at once (R57). -/
def State.endAtOnce (s : State) (l : Line) (reason : CloseReason) : State :=
  match (s.pour l).record with
  | .idle => s
  | .waiting _ _ => s.withdraw l
  | .pouring p _ _ _ => s.settle l p p.v reason .immediate
  | .tailing p _ vClose r _ _ => s.settle l p vClose r .immediate

/-! ### Consequences of a frame -/

/-- A WAITING pour whose wait frames have reached the wait timeout is refused TIMEOUT (R49). -/
def State.waitTimeout (s : State) (l : Line) : State :=
  match (s.pour l).record with
  | .waiting _ n => if n ≥ s.timing.waitTimeout then (s.withdraw l).setShown l (some .timeout) else s
  | _ => s

/-- A PORTION or FREE pour whose frames open have reached the maximum pour closes OVERTIME (R53). -/
def State.overtime (s : State) (l : Line) : State :=
  match (s.pour l).record with
  | .pouring p n _ _ => if p.kind.isSale && decide (n ≥ s.timing.maxPour) then s.closePour l .overtime else s
  | _ => s

/-- A block whose frames have reached W is judged (R54). -/
def State.judgeBlock (s : State) (l : Line) : State :=
  match (s.pour l).record with
  | .pouring p n bf bp =>
    if p.kind = .clean ∨ bf < s.timing.lowFlowBlock then s
    else if bp < s.timing.lowFlowMin then s.closePour l .lowFlow
    else s.setRecord l (.pouring p n 0 0)
  | _ => s

/-- Quiet settle: quiet frames have reached the settle count (R56). -/
def State.quietSettle (s : State) (l : Line) : State :=
  match (s.pour l).record with
  | .tailing p _ vClose r q _ => if q ≥ s.timing.settle then s.settle l p vClose r .quiet else s
  | _ => s

/-- Tail window: frames since close have reached the tail window (R56). -/
def State.tailWindow (s : State) (l : Line) : State :=
  match (s.pour l).record with
  | .tailing p _ vClose r _ n => if n ≥ s.timing.tailWindow then s.settle l p vClose r .window else s
  | _ => s

/-! ### Promotion -/

/-- The pours of a wait queue that may be promoted, head first: as many as the trunk has room for (R48). -/
def State.promoteHead (s : State) (t : Trunk) : State :=
  match (s.trunk t).queue with
  | [] => s
  | l :: rest =>
    let s1 := s.setTrunk t { s.trunk t with queue := rest }
    match (s.pour l).record with
    | .waiting p _ => s1.setRecord l (.enterPouring p)
    | _ => s1

/-- The trunk has room and its gate is not HOT (R48). -/
def State.mayPromote (s : State) (t : Trunk) : Bool :=
  (s.zone t).gate != .hot && decide (s.trunkPouring t < (s.trunk t).limit)

/-- Promotion on a trunk, up to `n` entries. -/
def State.promoteUpTo : Nat → State → Trunk → State
  | 0, s, _ => s
  | n + 1, s, t => if s.mayPromote t && !(s.trunk t).queue.isEmpty then State.promoteUpTo n (s.promoteHead t) t else s

/-- Promotion is considered for a trunk: while there is room the head enters POURING (R48). -/
def State.promote (s : State) (t : Trunk) : State := State.promoteUpTo (s.trunk t).queue.length s t

/-- Promotion is considered for every trunk. -/
def State.promoteAll (s : State) : State := (indices 6).foldl State.promote s

/-- What follows a command on whose occasion promotion, release and group formation may be considered (R48, R143, R155;
DEDUCED, log entry 12). -/
def State.follow (s : State) : State := s.promoteAll.considerRelease.considerFormation

/-! ### Admission -/

/-- The request of a code (R41): a PORTION with its number, FREE or PRIME. -/
def requestKind (code : BitVec 3) : PourKind :=
  if code = 5#3 then .free
  else if code = 7#3 then .prime
  else .portion (Fin.ofNat 4 (code.toNat - 1))

/-- The mode check for a request (R41); `asks` marks PRIME on a WATER line. -/
inductive ModeCheck where
  | pass
  | asks
  | refused (r : RefusalReason)
  deriving DecidableEq, Repr

/-- The first check of admission (R41). -/
def modeCheck (m : Mode) (prime : Bool) : ModeCheck :=
  match m with
  | .ready => if prime then .refused .notReady else .pass
  | .priming => if prime then .pass else .refused .notReady
  | .water => if prime then .asks else .refused .notReady
  | .held => .refused .held
  | .cleaning => .refused .cleaning
  | _ => .refused .notReady

/-- The size of a portion in a portion set. -/
def PortionSet.size (p : PortionSet) (n : Fin 4) : Nat :=
  if n = 0 then p.size1 else if n = 1 then p.size2 else if n = 2 then p.size3 else p.size4

/-- The remaining prime volume of a line in mL (R26). -/
def remainingPrime (c : LineCfg) (primed : Nat) : Nat := clampNat 1 2000 (c.primeTarget - primed)

/-- Target in nL and hold in mL of a request (R26, R32). -/
def State.targetHold (s : State) (l : Line) (c : LineCfg) (kind : PourKind) : Nat × Nat :=
  let ps := look s.lineTable.portions c.portionSet
  match kind with
  | .portion n => (ps.size n * 1000000, if c.account = 0 then 0 else portionHold (ps.size n))
  | .free => (ps.cap * 1000000, if c.account = 0 then 0 else ps.cap)
  | .prime => (remainingPrime c ((s.line l).primed.getD 0) * 1000000, 0)
  | .clean => (0, 0)

/-- The pour that a request becomes, with what it latches from the line record (R45). -/
def State.requestPour (s : State) (l : Line) (c : LineCfg) (kind : PourKind) (warm : Bool) : Pour :=
  let (target, hold) := s.targetHold l c kind
  Pour.admitted kind target hold (if kind.isSale then some c.account else none) warm

/-- The sixth check: the trunk draw (R46). -/
def State.admitDraw (s : State) (l : Line) (t : Trunk) (p : Pour) : State :=
  if s.trunkPouring t < (s.trunk t).limit then (s.setRecord l (.enterPouring p)).setShown l none
  else if (s.trunk t).queue.length < 8 then
    ((s.setTrunk t { s.trunk t with queue := (s.trunk t).queue ++ [l] }).setRecord l (.waiting p 0)).setShown l none
  else (s.releasePour p).setShown l (some .trunkFull)

/-- The second to sixth checks of admission (R43 to R46). -/
def State.judgeRequest (s : State) (l : Line) (c : LineCfg) (kind : PourKind) : State :=
  if s.queued l then s.setShown l (some .cleanPending)
  else if s.pourIdle l = false then s
  else if s.lineGate l = .hot then s.setShown l (some .tooWarm)
  else
    let p := s.requestPour l c kind (s.lineGate l == .warn)
    match p.holdAccount with
    | none => s.admitDraw l c.trunk p
    | some id =>
      match s.placeHold id p.hold with
      | .noAccount => s.setShown l (some .noAccount)
      | .noCredit => s.setShown l (some .noCredit)
      | .placed s1 => s1.admitDraw l c.trunk p

/-- A request is taken through the six checks of admission (section 3.3). -/
def State.request (s : State) (l : Line) (code : BitVec 3) : State :=
  match (s.line l).cfg with
  | none => s
  | some c =>
    match modeCheck (s.line l).mode (code == 7#3) with
    | .refused r => s.setShown l (some r)
    | .pass => s.judgeRequest l c (requestKind code)
    | .asks =>
      match s.startPriming l with
      | .error r => s.setShown l (some r.shown)
      | .ok s1 => s1.judgeRequest l c .prime

/-! ### Frames -/

/-- How an effective code acts on a pour in flight (R39). -/
inductive CodeAct where
  | nothing
  | withdraws
  | closes (r : CloseReason)
  deriving DecidableEq, Repr

/-- The table of R39. -/
def codeAct (r : PourRec) (code : BitVec 3) : CodeAct :=
  match r with
  | .waiting p _ =>
    if code = 6#3 then .withdraws
    else match p.kind with
      | .free => if code = 5#3 then .nothing else .withdraws
      | .prime => if code = 7#3 then .nothing else .withdraws
      | _ => .nothing
  | .pouring p _ _ _ =>
    if p.kind = .clean then .nothing
    else if code = 6#3 then .closes .stop
    else match p.kind with
      | .free => if code = 5#3 then .nothing else .closes .handle
      | .prime => if code = 7#3 then .nothing else .closes .handle
      | _ => .nothing
  | _ => .nothing

/-- Steps 3 and 4 of a frame in POURING: the count, the overtime test, the block counters and the low-flow test (R52). A start grace
raised above frames open stops a block in progress, which keeps its counters and goes on after the new grace (R54, R67; DESIGN
CHOICE, log entry 26). A CLEAN draw counts frames open alone, and its block counters stay at 0 (R52, R37; DEDUCED, log entry 31). -/
def State.pouringFrame (s : State) (l : Line) (delta : Nat) : State :=
  match (s.pour l).record with
  | .pouring p n bf bp =>
    let n1 := satCount 65535 n
    if p.kind = .clean then s.setRecord l (.pouring p n1 bf bp)
    else
      let s1 := (s.setRecord l (.pouring p n1 bf bp)).overtime l
      match (s1.pour l).record with
      | .pouring p n bf bp =>
        if n > s.timing.startGrace then (s1.setRecord l (.pouring p n (bf + 1) (bp + delta))).judgeBlock l else s1
      | _ => s1
  | _ => s

/-- An arrival for a POURING pour: metering, codes, then the frame (R52). -/
def State.pouringArrival (s : State) (l : Line) (a : Arrival) : State :=
  match (s.pour l).record with
  | .pouring p n bf bp =>
    let (k, tail) := s.meterOf l
    let p1 := p.accumulate a.pulses k
    let s1 := s.countIfSaturated l a
    if p1.closeTest tail then s1.setRecord l (.enterTailing p1 n p.kind.testReason)
    else
      let s2 := s1.setRecord l (.pouring p1 n bf bp)
      match codeAct (.pouring p1 n bf bp) a.effective with
      | .closes r => s2.closePour l r
      | _ => s2.pouringFrame l a.pulses
  | _ => s

/-- A frame for a TAILING pour, with the pulses of an arrival or none for a miss (R56). -/
def State.tailingFrame (s : State) (l : Line) (pulses : Option Nat) : State :=
  match (s.pour l).record with
  | .tailing p n vClose r q since =>
    let p1 := match pulses with
      | some d => p.accumulate d (s.meterOf l).1
      | none => p
    let q1 := match pulses with
      | some 0 => q + 1
      | some _ => 0
      | none => q
    ((s.setRecord l (.tailing p1 (satCount 65535 n) vClose r q1 (since + 1))).quietSettle l).tailWindow l
  | _ => s

/-- A frame for a WAITING pour (R37, R49). -/
def State.waitingFrame (s : State) (l : Line) : State :=
  match (s.pour l).record with
  | .waiting p n => (s.setRecord l (.waiting p (n + 1))).waitTimeout l
  | _ => s

/-- An arrival acts on the pour in flight by the state of its record (R37, R39, R52, R56); in WAITING the code comes before the
count (DEDUCED, log entry 11). -/
def State.arrivalFrame (s : State) (l : Line) (a : Arrival) : State :=
  match (s.pour l).record with
  | .idle => s
  | .waiting p n =>
    match codeAct (.waiting p n) a.effective with
    | .withdraws => s.withdraw l
    | _ => s.waitingFrame l
  | .pouring _ _ _ _ => s.pouringArrival l a
  | .tailing _ _ _ _ _ _ => (s.countIfSaturated l a).tailingFrame l (some a.pulses)

/-- Pour Control takes an arrival: code NONE clears the shown refusal (R40), a request is judged against the line as it
stands, and the arrival acts on the pour that was in flight (DEDUCED, log entry 10). -/
def State.arrival (s : State) (l : Line) (a : Arrival) : State :=
  let s1 := if a.effective = 0#3 then s.setShown l none else s
  if s1.pourIdle l then (if a.isRequest then s1.request l a.effective else s1)
  else (if a.isRequest then s1.request l a.effective else s1).arrivalFrame l a

/-- Pour Control takes a miss as one frame with no pulses and no code (R112, R52). -/
def State.missFrame (s : State) (l : Line) : State :=
  match (s.pour l).record with
  | .idle => s
  | .waiting _ _ => s.waitingFrame l
  | .pouring _ _ _ _ => s.pouringFrame l 0
  | .tailing _ _ _ _ _ _ => s.tailingFrame l none

/-! ### The outbound command -/

/-- The lamp of a line, the first row of R64 that applies. -/
def State.lampOf (s : State) (l : Line) : Lamp :=
  let x := s.pour l
  if (x.record.pour.any fun p => p.kind == .clean) then .cleaning
  else match x.record with
    | .pouring _ _ _ _ => .pouring
    | .tailing _ _ _ _ _ _ => .pouring
    | .waiting _ _ => .waiting
    | .idle =>
      if x.shown.isSome then .refused
      else match (s.line l).mode with
        | .held => .held
        | .cleaning => .cleaning
        | .ready => if s.queued l || s.lineGate l == .hot then .notReady else .ready
        | _ => .notReady

/-- The progress of a pour: floor(64 × V / target), capped at 63, in POURING and TAILING (R63). -/
def PourRec.progress : PourRec → Nat
  | .pouring p _ _ _ => min 63 (64 * p.v / p.target)
  | .tailing p _ _ _ _ _ => min 63 (64 * p.v / p.target)
  | _ => 0

/-- The portion field: the kind in flight as its request code, 0 for IDLE and CLEAN (R63). -/
def PourRec.portionField (r : PourRec) : Nat :=
  match r.pour with
  | some p => if p.kind = .clean then 0 else p.kind.code
  | none => 0

/-- A line's outbound command (R63). -/
def State.outbound (s : State) (l : Line) : OutCommand :=
  let x := s.pour l
  { valve := (match x.record with | .pouring _ _ _ _ => true | _ => false)
    lamp := s.lampOf l
    portion := x.record.portionField
    value := if s.lampOf l = .refused then (x.shown.map RefusalReason.code).getD 0 else x.record.progress }

end Sys2Proof.Machine
end

