-- ==== Sys2Proof/Machine/Accounts.lean ====
section
/-! DEFINITION. The account commands (Chapter 5) and their answers. -/

namespace Sys2Proof.Machine

/-- Credited volume stays in this range (section 5.1, R95). -/
def creditInRange (n : Int) : Bool := decide (-2147483648 ≤ n ∧ n ≤ 2147483647)

/-- An account ID that may hold an account (section 5.1). -/
def idInRange (id : Nat) : Bool := within 1 65535 id

/-! ### ACCOUNT_OPEN -/

/-- A new account (R94). -/
def Account.fresh (id float : Nat) (credit : Int) : Account :=
  { id := id, state := .opened, credited := credit, available := credit, held := 0, spent := 0, float := float,
    holds := 0, settled := 0 }

/-- ACCOUNT_OPEN (R94). -/
def takeAccountOpen (id float : Nat) (credit : Int) (s : State) : State :=
  if (idInRange id && within 0 65535 float && decide (0 ≤ credit ∧ credit ≤ 2147483647)) = false then s.refuse .badArg
  else if (s.findAccount id).isSome then s.refuse .duplicate
  else match s.emptyPlace with
    | none => s.refuse .full
    | some i => (s.setAccount i (some (Account.fresh id float credit))).ok (bytesBE 2 i.val)

/-! ### ACCOUNT_CREDIT and ACCOUNT_FLOAT -/

/-- The record with an amount added to its credit (R95). -/
def Account.credit (a : Account) (n : Int) : Account :=
  { a with credited := a.credited + n, available := a.available + n }

/-- Checks 3 to 5 of ACCOUNT_CREDIT (R95). -/
def Account.creditChecks (a : Account) (n : Int) : List (Bool × Status) :=
  [ (a.state != .closed, .wrongState), (creditInRange (a.credited + n), .overflow),
    (decide (0 ≤ n ∨ a.available + n ≥ -(a.float : Int)), .noCredit) ]

/-- ACCOUNT_CREDIT (R95). -/
def takeAccountCredit (id : Nat) (amount : Int) (s : State) : State :=
  if idInRange id = false then s.refuse .badArg
  else match s.findAccount id with
    | none => s.refuse .notFound
    | some (i, a) =>
      match firstFail (a.creditChecks amount) with
      | some st => s.refuse st
      | none =>
        (s.setAccount i (some (a.credit amount))).ok
          (bytesInt 4 (a.credited + amount) ++ bytesInt 4 (a.available + amount) ++ bytesBE 2 a.float)

/-- The checks of ACCOUNT_FLOAT on the record (R96). -/
def Account.floatChecks (a : Account) (float : Nat) : List (Bool × Status) :=
  [(a.state != .closed, .wrongState), (decide (a.available ≥ -(float : Int)), .noCredit)]

/-- ACCOUNT_FLOAT (R96). -/
def takeAccountFloat (id float : Nat) (s : State) : State :=
  if (idInRange id && within 0 65535 float) = false then s.refuse .badArg
  else match s.findAccount id with
    | none => s.refuse .notFound
    | some (i, a) =>
      match firstFail (a.floatChecks float) with
      | some st => s.refuse st
      | none => (s.setAccount i (some { a with float := float })).ok (bytesInt 4 a.available ++ bytesBE 2 float)

/-! ### ACCOUNT_CLOSE and ACCOUNT_READ -/

/-- The volume a stand can pour (R104). -/
def Account.pourable (a : Account) : Int := a.available + a.float

/-- A record in a response (R101, R104); the four volumes and the pourable volume take 4 signed bytes each, so a spent or a
pourable volume above 2,147,483,647 is sent modulo 2^32 (DESIGN CHOICE, log entry 25). -/
def Account.payload (i : AccountIx) (a : Account) : List Byte :=
  bytesBE 2 i.val ++ bytesBE 2 a.id ++ byte a.state.code ++ bytesInt 4 a.credited ++ bytesInt 4 a.available ++
  bytesInt 4 a.held ++ bytesInt 4 a.spent ++ bytesBE 2 a.float ++ bytesInt 4 a.pourable ++ bytesBE 4 a.holds ++
  bytesBE 4 a.settled

/-- ACCOUNT_CLOSE (R101). -/
def takeAccountClose (id : Nat) (s : State) : State :=
  if idInRange id = false then s.refuse .badArg
  else match s.findAccount id with
    | none => s.refuse .notFound
    | some (i, a) =>
      match a.state with
      | .opened =>
        if a.holds = 0 then
          let a1 := { a with state := .closed }
          (s.setAccount i (some a1)).ok (byte AccountState.closed.code ++ Account.payload i a1)
        else
          (s.setAccount i (some { a with state := .closing })).ok
            (byte AccountState.closing.code ++ bytesBE 4 a.holds)
      | .closing => s.reply .wrongState (bytesBE 4 a.holds)
      | .closed => (s.setAccount i none).ok (Account.payload i a)

/-- The account a pour record holds on and its hold in mL, none for a record without a hold (R100). -/
def PourRec.heldOn (r : PourRec) : Option (Nat × Nat) := r.pour.bind fun p => p.holdAccount.map fun id => (id, p.hold)

/-- One holding line of an account in 3 bytes: its number and its pour state in one, its hold in 2 (R104, section 11.2; free
value, log entry 18). -/
def State.holdingLine (s : State) (id : Nat) (l : Line) : List Byte :=
  match (s.pour l).record.heldOn with
  | some (k, h) => if k = id then [Config.holdingByte l.val (s.pour l).record.code] ++ bytesBE 2 h else []
  | none => []

/-- The holding lines of an account (R104), in ascending line number (DESIGN CHOICE, log entry 20). -/
def State.holdingLines (s : State) (id : Nat) : List Byte := (indices 32).flatMap fun l => s.holdingLine id l

/-- The page of an account that ACCOUNT_READ answers (R104, section 11.2). -/
def State.accountPage (s : State) (i : AccountIx) (a : Account) (page : Nat) : List Byte :=
  if page = 0 then Account.payload i a else if page = 1 then s.holdingLines a.id else []

/-- ACCOUNT_READ by ID or by index (R104). -/
def takeAccountRead (selector key page : Nat) (s : State) : State :=
  if selector = 0 then
    if idInRange key = false then s.refuse .badArg
    else match s.findAccount key with
      | none => s.refuse .notFound
      | some (i, a) => s.ok (s.accountPage i a page)
  else if selector = 1 then
    if h : key < 48 then
      match s.account ⟨key, h⟩ with
      | none => s.refuse .notFound
      | some a => s.ok (s.accountPage ⟨key, h⟩ a page)
    else s.refuse .badArg
  else s.refuse .badArg

/-! ### The meanings -/

def execAccountOpen (id float : Nat) (credit : Int) (s : State) : Host.Outcome State Fault Refusal :=
  s.running (takeAccountOpen id float credit)
def execAccountCredit (id : Nat) (amount : Int) (s : State) : Host.Outcome State Fault Refusal :=
  s.running (takeAccountCredit id amount)
def execAccountFloat (id float : Nat) (s : State) : Host.Outcome State Fault Refusal :=
  s.running (takeAccountFloat id float)
def execAccountClose (id : Nat) (s : State) : Host.Outcome State Fault Refusal := s.running (takeAccountClose id)
def execAccountRead (selector key page : Nat) (s : State) : Host.Outcome State Fault Refusal :=
  s.running (takeAccountRead selector key page)

end Sys2Proof.Machine
end

