-- ==== Sys2Proof/Machine/LoopOps.lean ====
section
/-! DEFINITION. The operations of the Tap Loops: the latch of outbound words (R108, R109), inbound words (R110 to R112), lost
and restored faucets (R113, R114), and the stop and reset of a loop (R116, R117). -/

namespace Sys2Proof.Machine

/-- The outbound command latched for a slot: the bound line's, or that of an unbound slot (R109). -/
def State.slotCommand (s : State) (b : Binding) : OutCommand :=
  match s.bound b with
  | some l => s.outbound l
  | none => .unbound

/-- The words latched at a frame sync: one for each slot below the slot count (R108), none for a slot the frame does not have,
whose word of an earlier sync is not that of the last one (R118; DEDUCED, log entry 23). -/
def State.latchedWords (s : State) (i : LoopId) : Vector (Option OutCommand) 24 :=
  (indices 24).foldl
    (fun v k => if k.val < (s.loop i).slotCount then put v k (some (s.slotCommand ⟨i, k⟩)) else v)
    (Vector.replicate 24 none)

/-- A frame sync: the frame count, the latch and the begin of slot 0 (R108). -/
def State.frameSync (s : State) (i : LoopId) : State :=
  s.setLoop i
    { s.loop i with frames := satAdd (s.loop i).frames 1, latched := s.latchedWords i, slot := some 0 }

/-- The slot that begins when slot `k` ends, none after the last (R108). -/
def LoopRec.slotAfter (r : LoopRec) (k : Slot) : Option Slot :=
  if h : k.val + 1 < 24 then (if k.val + 1 < r.slotCount then some ⟨k.val + 1, h⟩ else none) else none

/-- The three outputs of a loop in one bit period. -/
structure LoopPins where
  /-- the bit clock runs; held low otherwise -/
  clock : Bool
  frameSync : Bool
  dataOut : Bool
  deriving DecidableEq, Repr

/-- The outputs of a loop in bit period `bit` of the slot in progress: the latched word, its first bit the most significant,
with the frame sync high in the first bit period of slot 0 (R108, R185). A STOPPED loop holds all three low (R105, R116). -/
def LoopRec.pins (r : LoopRec) (bit : Fin 24) : LoopPins :=
  match r.state, r.slot with
  | .running _, some k =>
    { clock := true, frameSync := k == 0 && bit == 0,
      dataOut := (look r.latched k).any fun c => c.word.getLsbD (23 - bit.val) }
  | .running _, none => { clock := true, frameSync := false, dataOut := false }
  | .stopped, _ => { clock := false, frameSync := false, dataOut := false }

/-- A bound slot's faucet whose miss run has reached the lost threshold is declared lost (R113, R112). -/
def State.declareLost (s : State) (b : Binding) : State :=
  match s.bound b, s.recv b with
  | some l, some r =>
    if r.lost = false ∧ r.missRun ≥ s.timing.lostThreshold then
      ((s.setRecv b (some { r with lost := true, code := none })).endAtOnce l .lost).raise .faucetLost l
    else s
  | _, _ => s

/-- A miss of a bound slot: delivery, miss run, loss test (R112). -/
def State.miss (s : State) (b : Binding) (l : Line) : State :=
  let s1 := s.missFrame l
  match s1.recv b with
  | some r => (s1.setRecv b (some { r with missRun := satCount 65535 r.missRun })).declareLost b
  | none => s1

/-- The accepted code of an inbound word: its effective code (R111). -/
def Inbound.effective (w : Inbound) : BitVec 3 := if w.towerFault then 6#3 else w.code

/-- An arrival of a bound slot: restoration, delivery, receive state (R111, R114). -/
def State.accept (s : State) (b : Binding) (l : Line) (r : RecvState) (w : Inbound) : State :=
  let s1 := s.setRecv b (some { r with lost := false })
  let s2 := s1.arrival l { delta := w.delta, saturated := w.saturated, code := w.code, towerFault := w.towerFault,
                           prev := r.code }
  s2.setRecv b (some { missRun := 0, lost := false, lastSeq := some w.seq, code := some w.effective })

/-- The check-error count of a loop increases (R110). -/
def State.countCheckError (s : State) (i : LoopId) : State :=
  s.setLoop i { s.loop i with checkErrors := satAdd (s.loop i).checkErrors 1 }

/-- The stale count of a loop increases (R110). -/
def State.countStale (s : State) (i : LoopId) : State :=
  s.setLoop i { s.loop i with stales := satAdd (s.loop i).stales 1 }

/-- The inbound word of a slot is taken: discarded when unbound, otherwise an arrival or a miss (R110). -/
def State.takeWord (s : State) (b : Binding) (w : Inbound) : State :=
  match s.bound b, s.recv b with
  | some l, some r =>
    if w.good = false then (s.countCheckError b.loop).miss b l
    else if r.lastSeq = some w.seq then (s.countStale b.loop).miss b l
    else s.accept b l r w
  | _, _ => s

/-- The slot in progress of a RUNNING loop ends: the next slot begins and the word is taken (R108, R110); no other slot can end
(DESIGN CHOICE, log entry 14). -/
def State.slotEnd (s : State) (b : Binding) (word : SlotWord) : State :=
  let r := s.loop b.loop
  if r.isRunning && r.slot == some b.slot then
    (s.setLoop b.loop { r with slot := r.slotAfter b.slot }).takeWord b (readWord word)
  else s

/-- The lines bound to the slots of a loop, in slot order. -/
def State.loopLines (s : State) (i : LoopId) : List Line := (indices 24).filterMap fun k => s.bound ⟨i, k⟩

/-- Pours that a stop will withdraw. -/
def State.waitingOn (s : State) (ls : List Line) : Nat :=
  ls.countP fun l => match (s.pour l).record with | .waiting _ _ => true | _ => false

/-- Pours that a stop will settle. -/
def State.meteringOn (s : State) (ls : List Line) : Nat :=
  ls.countP fun l => match (s.pour l).record with | .pouring _ _ _ _ => true | .tailing _ _ _ _ _ _ => true | _ => false

/-- Steps 1 to 3 of a loop stop (R116). -/
def State.stopLoop (s : State) (i : LoopId) : State :=
  let ls := s.loopLines i
  let s1 := s.setLoop i { s.loop i with state := .stopped, slot := none }
  (ls.foldl (fun s l => s.endAtOnce l .loopStopped) s1).loopStopReport ls

/-- The record and receive states of a loop at their starting values (R117). -/
def LoopRec.cleared (r : LoopRec) : LoopRec :=
  let recv := (indices 24).foldl (fun v k => if (look v k).isSome then put v k (some RecvState.fresh) else v) r.recv
  { r with frames := 0, checkErrors := 0, stales := 0, recv := recv, latched := Vector.replicate 24 none }

end Sys2Proof.Machine
end

