-- ==== Sys2Proof/Machine/ValveOps.lean ====
section
/-! DEFINITION. The operations of the Valve Output Unit and the Cellar Timebase: the phases of an apply (R166 to R168), the end of
a shift (R169, R170), the period and margin events and what their users do at them (R161, R164), and the millisecond. -/

namespace Sys2Proof.Machine

/-! ### Applies -/

/-- Phase 1 on one group: snapshot, turn-offs, turn-on pending (R166). -/
def GroupPatterns.phase1 (g : GroupPatterns) : GroupPatterns :=
  { g with snapshot := g.next, current := g.current &&& g.next, turnOn := true }

/-- Phase 2 on one group whose turn-ons are pending (R167). -/
def GroupPatterns.phase2 (g : GroupPatterns) : GroupPatterns :=
  if g.turnOn then { g with current := g.current ||| g.snapshot, turnOn := false } else g

/-- The direct apply of VG16 (R168). -/
def GroupPatterns.direct (g : GroupPatterns) : GroupPatterns := { g with snapshot := g.next, current := g.next }

/-- The non-overlap groups that a channel applies (section 9.1). -/
def channelGroups (c : Channel) : List ValveGroup :=
  if c = 0 then (indices 18).filter fun g => decide (g.val < 16) else if c = 3 then [17] else []

/-- Applies `f` to the patterns of some groups. -/
def State.onGroups (s : State) (gs : List ValveGroup) (f : GroupPatterns → GroupPatterns) : State :=
  gs.foldl (fun s g => s.setValve g (f (s.valve g))) s

/-- Phase 1 of the groups of a channel, and a shift asked (R166). One shift is asked for all of them (DEDUCED, log entry 15). -/
def State.applyPhase1 (s : State) (c : Channel) : State := (s.onGroups (channelGroups c) GroupPatterns.phase1).askShift

/-- Some group of a channel has its turn-ons pending. -/
def State.anyTurnOn (s : State) (c : Channel) : Bool := (channelGroups c).any fun g => (s.valve g).turnOn

/-- Phase 2 of the groups of a channel that have turn-ons pending, and a shift asked (R167). -/
def State.applyPhase2 (s : State) (c : Channel) : State :=
  if s.anyTurnOn c then (s.onGroups (channelGroups c) GroupPatterns.phase2).askShift else s

/-- VG16 is applied directly, and a shift asked (R168). -/
def State.applyDirect (s : State) : State := (s.onGroups [16] GroupPatterns.direct).askShift

/-! ### What TAKE waits for (R144, R167) -/

/-- Moves what a group in TAKE waits for. -/
def State.moveTake (s : State) (f : TakeWait → TakeWait) : State :=
  match s.cleaning.group with
  | some g => if g.phase = .take then s.setGroup (some { g with takeWait := f g.takeWait }) else s
  | none => s

/-- A TB0 period event after the takes fixes the apply that TAKE waits for. -/
def TakeWait.atPeriod : TakeWait → TakeWait
  | .period => .margin
  | w => w

/-- At the TB0 margin event phase 2 is carried by the shift that begins then, or by the next one. -/
def TakeWait.atMargin (shifting : Bool) : TakeWait → TakeWait
  | .margin => if shifting then .nextShift else .thisShift
  | w => w

/-- The completion of the apply that TAKE waits for ends TAKE; the shift before it does not (R167). -/
def State.reportShift (s : State) : State :=
  match s.cleaning.group with
  | some g =>
    if g.phase = .take then
      if g.takeWait = .thisShift then s.endTake g
      else if g.takeWait = .nextShift then s.setGroup (some { g with takeWait := .thisShift })
      else s
    else s
  | none => s

/-! ### Shifts -/

/-- The differing bit with the lowest group number, and within that group the lowest bit number (R170, R186). -/
def firstDifference (sent echo : Image) : Option (ValveGroup × Fin 8) :=
  ((indices 18).flatMap fun g => (indices 8).map fun b => (g, b)).find? fun x =>
    (sent ^^^ echo).getLsbD (8 * x.1.val + x.2.val)

/-- The Cleaning Sequencer is told that the chain fault has been set: an active group is halted (R158, R170). -/
def State.faultHalt (s : State) : State :=
  match s.cleaning.group with
  | some g => s.haltGroup g
  | none => s

/-- The readback of a shift is compared with the image it sent (R170). -/
def State.compareEcho (s : State) (sent echo : Image) : State :=
  if sent = echo then s
  else if s.valves.fault then { s with valves := { s.valves with mismatches := satCount 65535 s.valves.mismatches } }
  else
    ({ s with valves := { s.valves with mismatches := satCount 65535 s.valves.mismatches, fault := true,
                                        firstMismatch := firstDifference sent echo } }).raiseChain.faultHalt

/-- One clock period of a shift: a bit of the image goes out on VC_DAT, VC_LAT is pulsed, or an echoed bit is clocked in from VC_RBK
(R186). -/
inductive ChainTick where
  | out (bit : Bool)
  | latch
  | echo
  deriving DecidableEq, Repr

/-- The bits of an image in the order of the chain, from VG17 bit 7 to VG0 bit 0 (R186). -/
def imageBits (image : Image) : List Bool := (List.range 144).map fun i => image.getLsbD (143 - i)

/-- The image that 144 echoed bits spell, clocked in in the same order (R186). -/
def echoImage (bits : List Bool) : Image := bits.foldl (fun image bit => image <<< 1 ||| (BitVec.ofBool bit).setWidth 144) 0

/-- The clock periods of a shift: 144 bits out, the latch pulse, and 144 bits in (R186). -/
def shiftTicks (image : Image) : List ChainTick :=
  (imageBits image).map .out ++ [.latch] ++ List.replicate 144 .echo

/-- The clock periods of the shift in progress; the free chain has none (R169, R186). -/
def Valves.ticks (v : Valves) : List ChainTick :=
  match v.shifting with
  | some image => shiftTicks image
  | none => []

/-- A wanted shift begins on the free chain (R169). -/
def State.startShift (s : State) : State :=
  if s.valves.shifting.isNone && s.valves.wanted then
    { s with valves := { s.valves with shifting := some s.valves.image, wanted := false } }
  else s

/-- The shift in progress ends: comparison, completion report, and a wanted shift (R169, R170, R167). -/
def State.endShift (s : State) (echo : Image) : State :=
  match s.valves.shifting with
  | none => s
  | some sent =>
    let s1 := s.compareEcho sent echo
    let s2 := { s1 with valves := { s1.valves with shifting := none } }
    s2.reportShift.startShift

/-! ### The timebase -/

/-- The counter restarts and pending values come into effect at a period event (R161). -/
def TimeChannel.atPeriod (c : TimeChannel) : TimeChannel :=
  match c.pending with
  | some (p, m) => { counter := 0, period := p, margin := m, pending := none }
  | none => { c with counter := 0 }

/-- The pump-flow count is latched and the counter restarts (R164). -/
def State.latchPump (s : State) : State :=
  { s with timebase := { s.timebase with latchedPump := s.timebase.pump, pump := 0 } }

/-- The users of a channel's period event (section 9.1). -/
def State.periodUsers (s : State) (c : Channel) : State :=
  if c = 0 then (s.applyPhase1 0).moveTake TakeWait.atPeriod
  else if c = 1 then s.takeWindow s.partPouring
  else if c = 2 then (s.latchPump).cleanStep s.timebase.pump
  else s.applyPhase1 3

/-- The users of a channel's margin event (section 9.1). -/
def State.marginUsers (s : State) (c : Channel) : State :=
  if c = 0 then
    if s.anyTurnOn 0 then (s.applyPhase2 0).moveTake (TakeWait.atMargin s.valves.shifting.isSome) else s
  else if c = 1 then s.applyDirect
  else if c = 2 then s
  else s.applyPhase2 3

/-- A channel gives a period event (R161). -/
def State.periodEvent (s : State) (c : Channel) : State :=
  (s.setChannel c (s.channel c).atPeriod).periodUsers c

/-- A channel gives a margin event (R161). -/
def State.marginEvent (s : State) (c : Channel) : State :=
  (s.setChannel c { s.channel c with counter := (s.channel c).margin }).marginUsers c

/-- One millisecond of one channel (R161). -/
def State.tickChannel (s : State) (c : Channel) : State :=
  let x := s.channel c
  if x.counter + 1 ≥ x.period then s.periodEvent c
  else if x.counter + 1 = x.margin then s.marginEvent c
  else s.setChannel c { x with counter := x.counter + 1 }

/-- One millisecond of the reference: the four channels count (R161); nothing runs while RESET_N is low (DESIGN CHOICE, log
entries 2 and 3). -/
def State.tick (s : State) : State :=
  if s.resetHeld then s else ((indices 4).foldl State.tickChannel s).follow

/-- A pulse on PUMP_FLOW (R164). -/
def State.countPump (s : State) : State :=
  { s with timebase := { s.timebase with pump := satCount 65535 s.timebase.pump } }

end Sys2Proof.Machine
end

