-- ==== Sys2Proof/Machine/Cleaning.lean ====
section
/-! DEFINITION. The cleaning commands (Chapter 8) with their answers, and the steps of a group that the table lists as steps of
their own: the pump fault, the phase timeout, the end of a soak, the formation and the release of a group. -/

namespace Sys2Proof.Machine

/-! ### RECIPE_SET and CLEAN_SET -/

/-- The recipe that a RECIPE_SET stores, each field clamped into its range (R140, section 8.1). -/
def recipeOf (a : RecipeSetArgs) : Recipe :=
  { warm := decide (a.warm ≠ 0), purge := clampNat 100 300 a.purge, caustic := clampNat 100 200 a.caustic,
    soak := clampNat 60 3600 a.soak, rinse := clampNat 100 300 a.rinse, passes := clampNat 1 8 a.passes,
    condMin := clampNat 0 20000 a.condMin, condMax := clampNat 0 20000 a.condMax,
    target := clampInt (-640) 1600 a.target, timeout := clampNat 30 1800 a.timeout }

/-- The ten fields of a recipe in a response (R140, R160). -/
def Recipe.payload (r : Recipe) : List Byte :=
  flag r.warm ++ bytesBE 2 r.purge ++ bytesBE 2 r.caustic ++ bytesBE 2 r.soak ++ bytesBE 2 r.rinse ++ byte r.passes ++
  bytesBE 2 r.condMin ++ bytesBE 2 r.condMax ++ bytesInt 2 r.target ++ bytesBE 2 r.timeout

/-- A recipe number 0 to 3. -/
def readRecipe (n : Nat) : Option (Fin 4) := if h : n < 4 then some ⟨n, h⟩ else none

/-- Writes one stored recipe. -/
def State.setRecipe (s : State) (n : Fin 4) (r : Option Recipe) : State :=
  { s with cleaning := { s.cleaning with recipes := put s.cleaning.recipes n r } }

/-- RECIPE_SET (R140). -/
def takeRecipeSet (a : RecipeSetArgs) (s : State) : State :=
  match readRecipe a.recipe with
  | none => s.refuse .badArg
  | some n => (s.setRecipe n (some (recipeOf a))).ok (recipeOf a).payload

/-- CLEAN_SET (R141). -/
def takeCleanSet (groupSize pumpMin : Nat) (s : State) : State :=
  ({ s with cleaning := { s.cleaning with groupSize := clampNat 1 8 groupSize, pumpMin := clampNat 0 255 pumpMin } }).ok
    (byte (clampNat 1 8 groupSize) ++ byte (clampNat 0 255 pumpMin))

/-! ### CLEAN_SUBMIT -/

/-- The members of a line set, ascending. -/
def members (ls : LineSet) : List Line := (indices 32).filter fun l => ls.getLsbD l.val

/-- A submitted line is skipped when it is queued, in CLEANING or OFFLINE (R142). -/
def State.skipsSubmit (s : State) (l : Line) : Bool :=
  s.queued l || (s.line l).mode == .cleaning || (s.line l).mode == .offline

/-- The lines that CLEAN_SUBMIT appends, ascending (R142). -/
def State.appended (s : State) (ls : LineSet) : List Line := (members ls).filter fun l => !s.skipsSubmit l

/-- CLEAN_SUBMIT (R142). -/
def takeCleanSubmit (ls : LineSet) (recipe : Nat) (s : State) : State :=
  match readRecipe recipe with
  | none => s.refuse .badArg
  | some n =>
    match look s.cleaning.recipes n with
    | none => s.refuse .wrongState
    | some _ =>
      let new := s.appended ls
      ((s.setCleanQueue (s.cleaning.queue ++ new.map fun l => { line := l, recipe := n })).ok
        (bytesBE 4 (lineSet new).toNat ++
          bytesBE 4 (lineSet ((members ls).filter s.skipsSubmit)).toNat)).considerFormation

/-! ### CLEAN_ABORT and CLEAN_HALT -/

/-- The queued lines of a set. -/
def State.queuedIn (s : State) (ls : LineSet) : List Line :=
  (s.cleaning.queue.filter fun e => ls.getLsbD e.line.val).map CleanEntry.line

/-- Removes the queue entries of a set of lines (R157). -/
def State.unqueue (s : State) (ls : LineSet) : State :=
  s.setCleanQueue (s.cleaning.queue.filter fun e => !ls.getLsbD e.line.val)

/-- The active group, when a set names one of its lines (R157). -/
def State.namedGroup (s : State) (ls : LineSet) : Option Group :=
  match s.cleaning.group with
  | some g => if g.lines.any fun x => ls.getLsbD x.line.val then some g else none
  | none => none

/-- CLEAN_ABORT: the queue entries go first, then the group by its phase (R157). -/
def takeCleanAbort (ls : LineSet) (s : State) : State :=
  let removed := bytesBE 4 (lineSet (s.queuedIn ls)).toNat
  let s1 := s.unqueue ls
  match s.namedGroup ls with
  | none => s1.ok (removed ++ flag false)
  | some g =>
    match s1.abortGroup g with
    | none => s1.reply .alreadyRinsing (removed ++ flag false)
    | some s2 => (s2.ok (removed ++ flag true)).follow

/-- The lines of the active group. -/
def State.groupLines (s : State) : List Line :=
  match s.cleaning.group with
  | some g => g.lines.map GroupLine.line
  | none => []

/-- CLEAN_HALT (R158). -/
def takeCleanHalt (s : State) : State :=
  let answer := bytesBE 4 (lineSet s.groupLines).toNat ++ bytesBE 4 (lineSet (s.cleaning.queue.map CleanEntry.line)).toNat
  (((s.setCleanQueue []).faultHalt).ok answer).follow

/-! ### CLEAN_READ -/

/-- One queue entry in a response (R160). -/
def State.entryPayload (s : State) (e : CleanEntry) : List Byte :=
  byte e.line.val ++ byte e.recipe.val ++ flag (s.takeableEntry e)

/-- The fields of a group but for its lines (R160); the low-pump run takes 1 byte, and the heater its place in ON, OFF (DESIGN
CHOICE, log entry 20), and the run takes 1 byte (DESIGN CHOICE, log entry 25). -/
def Group.payload (g : Group) : List Byte :=
  byte g.recipeNo.val ++ g.recipe.payload ++ byte g.phase.code ++ byte g.run ++ bytesBE 4 g.steps ++ byte g.lowPump ++
  bytesBE 4 g.lastPump ++ byte (onOffCode g.heater) ++ flag g.lossReported

/-- One group line in a response, led by its line number (R160); owed and delivered take 2 bytes each (DESIGN CHOICE, log entry 20).
-/
def GroupLine.payload (x : GroupLine) : List Byte :=
  byte x.line.val ++ flag x.heldProduct ++ byte x.result.code ++ bytesBE 2 x.owed ++ bytesBE 2 x.delivered ++
  flag x.draw.isSome

/-- The pages of CLEAN_READ (R160, section 11.2). -/
def State.cleanPage (s : State) (page : Nat) : List Byte :=
  match page with
  | 0 => ((indices 4).flatMap fun n => optBytes 18 ((look s.cleaning.recipes n).map Recipe.payload)) ++
      byte s.cleaning.groupSize ++ byte s.cleaning.pumpMin
  | 1 => s.cleaning.queue.flatMap s.entryPayload
  | 2 => optBytes 32 (s.cleaning.group.map Group.payload) ++
      ((s.cleaning.group.map Group.lines).getD []).flatMap GroupLine.payload
  | _ => []

/-- CLEAN_READ (R160). -/
def takeCleanRead (page : Nat) (s : State) : State := s.ok (s.cleanPage page)

/-! ### Steps of a group -/

/-- PUMP_FAULT (R149, R158). -/
def takePumpFault (s : State) : State := s.pumpFailed.follow
/-- PHASE_TIMEOUT (R148). -/
def takePhaseTimeout (s : State) : State := s.runTimeout.follow
/-- SOAK_END (R152). -/
def takeSoakEnd (s : State) : State := s.finishSoak.follow
/-- GROUP_FORMATION (R143, R144). -/
def takeGroupFormation (s : State) : State := s.considerFormation
/-- GROUP_RELEASE: the release, after which group formation is considered (R155). -/
def takeGroupRelease (s : State) : State :=
  match s.cleaning.group with
  | some g =>
    if g.phase = .release ∧ (g.lines.all fun x => x.draw.isNone) then (s.releaseGroup g).considerFormation else s
  | none => s

/-! ### The meanings -/

def execRecipeSet (a : RecipeSetArgs) (s : State) : Host.Outcome State Fault Refusal := s.running (takeRecipeSet a)
def execCleanSet (groupSize pumpMin : Nat) (s : State) : Host.Outcome State Fault Refusal :=
  s.running (takeCleanSet groupSize pumpMin)
def execCleanSubmit (ls : LineSet) (recipe : Nat) (s : State) : Host.Outcome State Fault Refusal :=
  s.running (takeCleanSubmit ls recipe)
def execCleanAbort (ls : LineSet) (s : State) : Host.Outcome State Fault Refusal := s.running (takeCleanAbort ls)
def execCleanHalt (s : State) : Host.Outcome State Fault Refusal := s.running takeCleanHalt
def execCleanRead (page : Nat) (s : State) : Host.Outcome State Fault Refusal := s.running (takeCleanRead page)
def execPumpFault (s : State) : Host.Outcome State Fault Refusal := s.running takePumpFault
def execPhaseTimeout (s : State) : Host.Outcome State Fault Refusal := s.running takePhaseTimeout
def execSoakEnd (s : State) : Host.Outcome State Fault Refusal := s.running takeSoakEnd
def execGroupFormation (s : State) : Host.Outcome State Fault Refusal := s.running takeGroupFormation
def execGroupRelease (s : State) : Host.Outcome State Fault Refusal := s.running takeGroupRelease

end Sys2Proof.Machine
end

