-- ==== Sys2Proof/Machine/Cooling.lean ====
section
/-! DEFINITION. The climate commands (Chapter 7) with their answers, the end of a conversion, a failed probe, and the parts of a
window that the table lists as steps of their own. -/

namespace Sys2Proof.Machine

/-! ### The scanner -/

/-- The next conversion starts where a RUNNING scanner waits for one (R122). -/
def Scanner.wake (x : Scanner) : Scanner :=
  if x.running && x.conversion.isNone then x.start (lowestInput x.mask) else x

/-- SCAN_SET (R120, R122). -/
def takeScanSet (resolution : Nat) (mask : BitVec 16) (s : State) : State :=
  if resolution = 8 ∨ resolution = 10 ∨ resolution = 12 then
    (s.setScanner ({ s.climate.scanner with resolution := resolution, mask := mask } : Scanner).wake).ok
      (byte resolution ++ bytesBE 2 mask.toNat)
  else s.refuse .badArg

/-- SCAN_START (R122). -/
def takeScanStart (s : State) : State :=
  if s.climate.scanner.running then s.refuse .wrongState
  else (s.setScanner ({ s.climate.scanner with running := true } : Scanner).wake).ok []

/-- SCAN_STOP (R122). -/
def takeScanStop (s : State) : State :=
  if s.climate.scanner.running then
    (s.setScanner { s.climate.scanner with running := false, conversion := none }).ok []
  else s.refuse .wrongState

/-! ### CHANNEL_SET -/

/-- An input number S0 to S15. -/
def readInput (n : Nat) : Option SenseInput := if h : n < 16 then some ⟨n, h⟩ else none

/-- The other input that holds a role, none for UNUSED (R121). -/
def State.otherHolder (s : State) (i : SenseInput) (r : Role) : Option SenseInput :=
  if r = .unused then none else (indices 16).find? fun j => j != i && (s.input j).role == r

/-- The input that loses its role becomes UNUSED, with its base and span kept (R121, step 1). -/
def State.dropRole (s : State) (j : Option SenseInput) : State :=
  match j with
  | some j => s.setInput j { s.input j with role := .unused }
  | none => s

/-- An accepted CHANNEL_SET: the gate of each trunk with a restarted role is evaluated once (R121). -/
def State.assign (s : State) (i : SenseInput) (r : Role) (base : Int) (span : Nat) : State :=
  let old := (s.input i).role
  let s1 := (s.dropRole (s.otherHolder i r)).setInput i { role := r, base := base, span := span }
  let s2 := (s1.restartRole old).restartRole r
  if old.trunk = r.trunk then s2.evalRoleGate r else (s2.evalRoleGate old).evalRoleGate r

/-- CHANNEL_SET (R121). -/
def takeChannelSet (input role : Nat) (base : Int) (span : Nat) (s : State) : State :=
  match readInput input, readRole role with
  | some i, some r =>
    ((s.assign i r base span).ok
      (byte r.code ++ bytesInt 2 base ++ bytesBE 2 span ++
        optNat 1 ((s.otherHolder i r).map fun j => j.val))).follow
  | _, _ => s.refuse .badArg

/-! ### TRUNK_CLIMATE, CHILLER_SET, BOOST -/

/-- A temperature clamped into its range (R129, R134). -/
def clampTemp (n : Int) : Int := clampInt (-640) 1600 n

/-- The zone with the parameters of a TRUNK_CLIMATE (R129). -/
def zoneWith (z : Zone) (a : TrunkClimateArgs) : Zone :=
  { z with setpoint := clampTemp a.setpoint, warn := clampTemp a.warn,
           stop := max (clampTemp a.stop) (clampTemp a.warn), gain := clampNat 0 255 a.gain, bias := clampNat 0 16 a.bias }

/-- The parameters of a zone in a response (R129, R138). -/
def Zone.parameters (z : Zone) : List Byte :=
  bytesInt 2 z.setpoint ++ bytesInt 2 z.warn ++ bytesInt 2 z.stop ++ byte z.gain ++ byte z.bias

/-- TRUNK_CLIMATE (R129). -/
def takeTrunkClimate (a : TrunkClimateArgs) (s : State) : State :=
  match readTrunk a.trunk with
  | none => s.refuse .badArg
  | some t =>
    let s1 := (s.setZone t (zoneWith (s.zone t) a)).evalGate t
    let z := s1.zone t
    (s1.ok (z.parameters ++ byte z.gate.code ++ byte z.source.code)).follow

/-- The chiller with the parameters of a CHILLER_SET (R134). -/
def chillerWith (c : Chiller) (a : ChillerSetArgs) : Chiller :=
  { c with sp := clampTemp a.sp, h1 := clampNat 0 320 a.h1, h2 := max (clampNat 1 640 a.h2) (clampNat 0 320 a.h1 + 1),
           minOn := clampNat 0 255 a.minOn, minOff := clampNat 0 255 a.minOff, surge := clampNat 0 32 a.surge }

/-- The parameters of the chiller in a response (R134, R138). -/
def Chiller.parameters (c : Chiller) : List Byte :=
  bytesInt 2 c.sp ++ bytesBE 2 c.h1 ++ bytesBE 2 c.h2 ++ byte c.minOn ++ byte c.minOff ++ byte c.surge

/-- CHILLER_SET (R134). -/
def takeChillerSet (a : ChillerSetArgs) (s : State) : State :=
  let c := chillerWith s.climate.chiller a
  (s.setChiller c).ok (c.parameters ++ byte (onOffCode c.stage1.on) ++ byte (onOffCode c.stage2.on))

/-- A boost in a response, or its absence (R137). -/
def boostPayload (b : Option Boost) : List Byte := optBytes 2 (b.map fun b => byte b.offset ++ byte b.remaining)

/-- The boost that a BOOST puts in force (R137). -/
def boostOf (offset cycles : Nat) : Option Boost :=
  if clampNat 0 64 offset = 0 then none
  else some { offset := clampNat 0 64 offset, remaining := clampNat 1 255 cycles }

/-- BOOST (R137). -/
def takeBoost (offset cycles : Nat) (s : State) : State :=
  (s.setBoost (boostOf offset cycles)).ok (boostPayload (boostOf offset cycles))

/-! ### CLIMATE_READ -/

/-- One stage in a response: its state, wanted state and run count, a state by its place in (ON, OFF) (R138, R184). -/
def Stage.payload (x : Stage) (wanted : Bool) : List Byte :=
  byte (onOffCode x.on) ++ byte (onOffCode wanted) ++ bytesBE 4 x.run

/-- The scanner and the inputs (R138). -/
def Climate.inputsPayload (c : Climate) : List Byte :=
  flag c.scanner.running ++ byte c.scanner.resolution ++ bytesBE 2 c.scanner.mask.toNat ++
  optNat 1 (c.scanner.conversion.map fun x => x.input.val) ++
  (indices 16).flatMap fun i =>
    byte (look c.inputs i).role.code ++ bytesInt 2 (look c.inputs i).base ++ bytesBE 2 (look c.inputs i).span

/-- The chiller, with the availability of BATH, the part-wide POURING count and the surge (R138). No record holds a wanted state:
the one sent is what the bath and the POURING count give when the command is taken (DESIGN CHOICE, log entry 21). -/
def Climate.chillerPayload (c : Climate) (pouring : Nat) : List Byte :=
  c.chiller.parameters ++ flag (c.reading .bath).isSome ++ c.chiller.stage1.payload c.wanted1 ++
  c.chiller.stage2.payload (c.wanted2 pouring) ++ bytesBE 4 pouring ++ flag (c.chiller.surging pouring)

/-- One role in a response (R138). An unassigned role, of which R138 says nothing, keeps its place as a presence byte 0 and nine
zero bytes; the fault run takes 1 byte (DESIGN CHOICE, log entry 20), and the value and F take 2 (DESIGN CHOICE, log entry 25). -/
def Climate.rolePayload (c : Climate) (k : Fin 15) : List Byte :=
  let r := look c.roles k
  optBytes 9 (((indices 16).find? fun i => (look c.inputs i).role.index == some k).map fun i =>
    byte i.val ++ optInt 2 r.value ++ optInt 2 r.filtered ++ byte r.faultRun ++ flag r.failed)

/-- The glycol valve request of a trunk that the present window made, cleared at once by an override: its bit in VG16's next
pattern, which Cellar Climate alone writes (R130, R132, R133). -/
def State.glycolRequest (s : State) (t : Trunk) : Bool := (s.valve 16).next.getLsbD t.val

/-- One trunk in a response (R138); G takes 2 bytes and the duty 1 (DESIGN CHOICE, log entry 25). -/
def State.zonePayload (s : State) (t : Trunk) : List Byte :=
  let z := s.zone t
  z.parameters ++ byte z.gate.code ++ byte z.source.code ++ optInt 2 (s.climate.gateValue t).2 ++ byte z.duty ++
  flag (s.glycolRequest t) ++ flag z.override

/-- The pages of CLIMATE_READ (R138, section 11.2); the window index comes last on page 0, as in the table of pages (DESIGN
CHOICE, log entry 20), in 1 byte (DESIGN CHOICE, log entry 25). -/
def State.climatePage (s : State) (page : Nat) : List Byte :=
  let c := s.climate
  match page with
  | 0 => c.inputsPayload ++ c.chillerPayload s.partPouring ++ boostPayload c.boost ++ byte c.window
  | 1 => ((indices 15).filter fun k => k.val < 8).flatMap c.rolePayload
  | 2 => ((indices 15).filter fun k => 8 ≤ k.val).flatMap c.rolePayload
  | 3 => (indices 6).flatMap s.zonePayload
  | _ => []

/-- CLIMATE_READ (R138). -/
def takeClimateRead (page : Nat) (s : State) : State := s.ok (s.climatePage page)

/-! ### Events and parts of a window -/

/-- CONVERSION_COMPLETE (R122 to R124). -/
def takeConversionComplete (code : Nat) (s : State) : State := (s.convert code).follow
/-- PROBE_FAILED (R123). -/
def takeProbeFailed (i : SenseInput) (s : State) : State := (s.failProbe i).follow
/-- CYCLE_START: window 0 fixes the duty of each trunk (R131); as a command of its own it counts no cycle of a boost, which a TB1
window alone does (R130, R137; DEDUCED, log entry 4). -/
def takeCycleStart (s : State) : State := if s.climate.window = 0 then s.fixDuties else s
/-- BOOST_END (R137). -/
def takeBoostEnd (s : State) : State := s.endBoost
/-- STAGE_SWITCH: a stage is decided, and its request follows in VG16's next pattern (R136, R130). -/
def takeStageSwitch (second : Bool) (s : State) : State :=
  if second then
    let s1 := s.decideStage2 s.partPouring
    s1.ask 16 7 s1.climate.chiller.stage2.on
  else
    let s1 := s.decideStage1
    s1.ask 16 6 s1.climate.chiller.stage1.on

/-! ### The meanings -/

def execScanSet (resolution : Nat) (mask : BitVec 16) (s : State) : Host.Outcome State Fault Refusal :=
  s.running (takeScanSet resolution mask)
def execChannelSet (input role : Nat) (base : Int) (span : Nat) (s : State) : Host.Outcome State Fault Refusal :=
  s.running (takeChannelSet input role base span)
def execScanStart (s : State) : Host.Outcome State Fault Refusal := s.running takeScanStart
def execScanStop (s : State) : Host.Outcome State Fault Refusal := s.running takeScanStop
def execTrunkClimate (a : TrunkClimateArgs) (s : State) : Host.Outcome State Fault Refusal :=
  s.running (takeTrunkClimate a)
def execChillerSet (a : ChillerSetArgs) (s : State) : Host.Outcome State Fault Refusal := s.running (takeChillerSet a)
def execBoost (offset cycles : Nat) (s : State) : Host.Outcome State Fault Refusal := s.running (takeBoost offset cycles)
def execClimateRead (page : Nat) (s : State) : Host.Outcome State Fault Refusal := s.running (takeClimateRead page)
def execConversionComplete (code : Nat) (s : State) : Host.Outcome State Fault Refusal :=
  s.running (takeConversionComplete code)
def execProbeFailed (i : SenseInput) (s : State) : Host.Outcome State Fault Refusal := s.running (takeProbeFailed i)
def execCycleStart (s : State) : Host.Outcome State Fault Refusal := s.running takeCycleStart
def execBoostEnd (s : State) : Host.Outcome State Fault Refusal := s.running takeBoostEnd
def execStageSwitch (second : Bool) (s : State) : Host.Outcome State Fault Refusal := s.running (takeStageSwitch second)

end Sys2Proof.Machine
end

