-- ==== Sys2Proof/Machine/Kegs.lean ====
section
/-! DEFINITION. The keg commands (Chapter 4), the start of a coupler read and the read of one copy, and their answers. -/

namespace Sys2Proof.Machine

/-- A line and a position of a keg command; none where either is outside its list. -/
def readPlace (line position : Nat) : Option (Line × Position) :=
  match readLine line, readPosition position with
  | some l, some p => some (l, p)
  | _, _ => none

/-! ### KEG_ENROL -/

/-- Some record of the register has a tag (R72, R90): the first line and position that does, in reader order. -/
def State.findTag (s : State) (tag : Tag) : Option (Line × Position × KegRec) :=
  (indices 32).findSome? fun l =>
    [Position.A, Position.B].findSome? fun p =>
      match s.keg l p with
      | some k => if k.tag = tag then some (l, p, k) else none
      | none => none

/-- A new record (section 4.1). -/
def KegRec.enrolled (tag : Tag) (product nominal : Nat) : KegRec :=
  { tag := tag, product := product, nominal := nominal, state := .verifying, drawn := 0, billed := 0, unbilled := 0,
    house := 0, loss := 0, lowFlows := 0, suspect := false, checkFailed := false, lastCheck := none }

/-- Checks 2 to 6 of KEG_ENROL (R72). -/
def State.enrolChecks (s : State) (l : Line) (p : Position) (a : KegEnrolArgs) : List (Bool × Status) :=
  [ ((s.line l).mode != .offline, .wrongState), ((s.keg l p).isNone, .occupied),
    ((s.line l).cfg.any (fun c => c.product == a.product), .mismatch), ((s.findTag a.tag).isNone, .duplicate),
    (!s.readBusy l p, .busy) ]

/-- KEG_ENROL (R72). -/
def takeKegEnrol (a : KegEnrolArgs) (s : State) : State :=
  match readPlace a.line a.position with
  | none => s.refuse .badArg
  | some (l, p) =>
    if within 5000 100000 a.nominal then
      match firstFail (s.enrolChecks l p a) with
      | some st => s.refuse st
      | none =>
        ((s.setKeg l p (some (KegRec.enrolled a.tag a.product a.nominal))).enqueueRead
            { line := l, position := p, purpose := .enrol, expected := a.tag }).ok
          (byte l.val ++ byte (positionCode p) ++ byte KegState.verifying.code ++ byte s.kegRegister.queue.length ++
            bytesBE 2 a.product)
    else s.refuse .badArg

/-! ### KEG_CHECK -/

/-- KEG_CHECK (R79). -/
def takeKegCheck (line position : Nat) (s : State) : State :=
  match readPlace line position with
  | none => s.refuse .badArg
  | some (l, p) =>
    match s.keg l p with
    | none => s.refuse .notFound
    | some k =>
      if k.state = .verifying then s.refuse .wrongState
      else if s.readBusy l p then s.refuse .busy
      else
        (s.enqueueRead { line := l, position := p, purpose := .check, expected := k.tag }).ok
          (byte s.kegRegister.queue.length)

/-! ### KEG_CONFIRM -/

/-- KEG_CONFIRM (EMPTY) of a keg in STANDBY or ON_TAP (R86); DRY is answered as an absent changeover position (DESIGN CHOICE, log
entry 20). -/
def State.confirmEmpty (s : State) (l : Line) (p : Position) (k : KegRec) : State :=
  if k.state = .onTap then
    if s.pourIdle l then
      ((s.spend l p).ok (optNat 1 ((s.changeoverTarget l p).map positionCode))).follow
    else s.refuse .pourActive
  else ((s.setKeg l p (some { k with state := .spent })).raise .kegSpent l).ok (byte KegState.spent.code)

/-- KEG_CONFIRM (R86). -/
def takeKegConfirm (line position verdict : Nat) (s : State) : State :=
  match readPlace line position with
  | none => s.refuse .badArg
  | some (l, p) =>
    if verdict > 1 then s.refuse .badArg
    else match s.keg l p with
      | none => s.refuse .notFound
      | some k =>
        if k.state = .verifying ∨ k.state = .spent then s.refuse .wrongState
        else if verdict = 0 then s.confirmEmpty l p k
        else (s.setKeg l p (some { k with suspect := false })).ok (byte k.state.code)

/-! ### KEG_RETIRE -/

/-- The record that KEG_RETIRE answers (R87), the remaining volume in 4 bytes (DESIGN CHOICE, log entry 25). -/
def KegRec.retirePayload (k : KegRec) : List Byte :=
  bytesBE 8 k.tag.toNat ++ bytesBE 2 k.product ++ bytesBE 4 k.nominal ++ byte k.state.code ++ bytesBE 4 k.drawn ++
  bytesBE 4 k.billed ++ bytesBE 4 k.unbilled ++ bytesBE 4 k.house ++ bytesBE 4 k.loss ++ bytesBE 4 k.remaining ++
  bytesBE 4 k.lowFlows ++ flag k.suspect ++ flag k.checkFailed

/-- What retirement does by the keg's state, before the record is removed (R81, R87). -/
def State.retireKeg (s : State) (l : Line) (p : Position) (k : KegRec) : State :=
  let s1 := s.withdrawRead l p
  match k.state with
  | .verifying => s1.setLastEnrol l (some { position := p, tag := k.tag, outcome := .withdrawn, tagRead := none })
  | .onTap => (s1.askSelector l p false).changeover l p
  | .standby => s1
  | .spent => s1

/-- KEG_RETIRE (R87). -/
def takeKegRetire (line position : Nat) (s : State) : State :=
  match readPlace line position with
  | none => s.refuse .badArg
  | some (l, p) =>
    match s.keg l p with
    | none => s.refuse .notFound
    | some k =>
      if k.state = .onTap ∧ s.pourIdle l = false then s.refuse .pourActive
      else (((s.retireKeg l p k).setKeg l p none).ok k.retirePayload).follow

/-! ### KEG_READ and KEG_FIND -/

/-- The queue state of a position: its entry's purpose, its place from the head and whether it is in progress (R89); the head has
place 0, in 1 byte (DESIGN CHOICE, log entry 20). -/
def State.queueState (s : State) (l : Line) (p : Position) : Option (List Byte) :=
  let i := s.kegRegister.queue.findIdx fun e => e.line == l && e.position == p
  s.kegRegister.queue[i]?.map fun e => byte e.purpose.code ++ byte i ++ flag (s.readInProgress l p)

/-- Every field of a record and its remaining volume, in 4 bytes (R89; DESIGN CHOICE, log entry 25). -/
def KegRec.payload (k : KegRec) : List Byte :=
  bytesBE 8 k.tag.toNat ++ bytesBE 2 k.product ++ bytesBE 4 k.nominal ++ byte k.state.code ++ bytesBE 4 k.drawn ++
  bytesBE 4 k.billed ++ bytesBE 4 k.unbilled ++ bytesBE 4 k.house ++ bytesBE 4 k.loss ++ bytesBE 4 k.lowFlows ++
  flag k.suspect ++ flag k.checkFailed ++ optNat 1 (k.lastCheck.map TagOutcome.code) ++ bytesBE 4 k.remaining

/-- A last enrol outcome in a response (R89). -/
def LastEnrol.payload (x : LastEnrol) : List Byte :=
  byte (positionCode x.position) ++ bytesBE 8 x.tag.toNat ++ byte x.outcome.code ++
  optNat 8 (x.tagRead.map BitVec.toNat)

/-- What KEG_READ answers of a position (R89): a leading byte, 1 with a record and 0 without one, and no zero bytes in the place of
an absent record (DESIGN CHOICE, log entry 20). -/
def State.kegPayload (s : State) (l : Line) (p : Position) : List Byte :=
  match s.keg l p with
  | some k => byte 1 ++ k.payload ++ optBytes 3 (s.queueState l p)
  | none => byte 0 ++ optBytes 3 (s.queueState l p) ++ optBytes 19 ((s.kegSlots l).lastEnrol.map LastEnrol.payload)

/-- KEG_READ (R89). -/
def takeKegRead (line position : Nat) (s : State) : State :=
  match readPlace line position with
  | none => s.refuse .badArg
  | some (l, p) => s.ok (s.kegPayload l p)

/-- KEG_FIND (R90). -/
def takeKegFind (tag : Tag) (s : State) : State :=
  match s.findTag tag with
  | some (l, p, k) => s.ok (byte l.val ++ byte (positionCode p) ++ byte k.state.code)
  | none => s.refuse .notFound

/-! ### The Coupler Bus -/

/-- COUPLER_READ_START (R73). -/
def takeCouplerReadStart (s : State) : State := s.startRead
/-- COUPLER_COPY_READ (R74 to R80). -/
def takeCouplerCopyRead (status : Byte) (block : BitVec 128) (s : State) : State := (s.copyRead status block).follow

/-! ### The meanings -/

def execKegEnrol (a : KegEnrolArgs) (s : State) : Host.Outcome State Fault Refusal := s.running (takeKegEnrol a)
def execKegCheck (line position : Nat) (s : State) : Host.Outcome State Fault Refusal :=
  s.running (takeKegCheck line position)
def execKegConfirm (line position verdict : Nat) (s : State) : Host.Outcome State Fault Refusal :=
  s.running (takeKegConfirm line position verdict)
def execKegRetire (line position : Nat) (s : State) : Host.Outcome State Fault Refusal :=
  s.running (takeKegRetire line position)
def execKegRead (line position : Nat) (s : State) : Host.Outcome State Fault Refusal :=
  s.running (takeKegRead line position)
def execKegFind (tag : Tag) (s : State) : Host.Outcome State Fault Refusal := s.running (takeKegFind tag)
def execCouplerReadStart (s : State) : Host.Outcome State Fault Refusal := s.running takeCouplerReadStart
def execCouplerCopyRead (status : Byte) (block : BitVec 128) (s : State) : Host.Outcome State Fault Refusal :=
  s.running (takeCouplerCopyRead status block)

end Sys2Proof.Machine
end

