-- ==== Sys2Proof/Machine/Lines.lean ====
section
/-! DEFINITION. The line commands (Chapter 1): what the Line Table does with each when it takes it, and its answer. -/

namespace Sys2Proof.Machine

/-! ### Answers -/

/-- The record of a line as LINE_READ answers it (R17), primed_mL in 4 bytes (DESIGN CHOICE, log entry 25). LINE_SET answers it in
the same order, without the stored K entry and the lock (R16; DESIGN CHOICE, log entry 20). -/
def LineRec.payload (r : LineRec) : List Byte :=
  let c := r.cfg
  byte r.mode.code ++ optNat 2 (c.map LineCfg.product) ++ optNat 1 (c.map fun c => c.trunk.val) ++
  optNat 2 (c.map LineCfg.fill) ++ optNat 4 (c.map LineCfg.k) ++ optNat 4 (c.map LineCfg.tail) ++
  optBytes 2 (c.map fun c => byte (loopCode c.binding.loop) ++ byte c.binding.slot.val) ++
  optNat 2 (c.map LineCfg.account) ++ optNat 1 (c.map fun c => c.portionSet.val) ++
  optNat 1 (c.map LineCfg.primePercent) ++ optNat 1 (r.heldFrom.map Mode.code) ++ optNat 4 r.primed ++
  optNat 1 (r.lastKeg.map positionCode) ++ byte r.cleanResult.code ++ bytesBE 4 r.cleanCount ++
  bytesBE 4 r.totals.billed ++ bytesBE 4 r.totals.unbilled ++ bytesBE 4 r.totals.house ++ bytesBE 4 r.totals.loss ++
  bytesBE 4 r.totals.warm ++ bytesBE 4 r.totals.pours ++ bytesBE 4 r.saturation

/-- What LINE_RETIRE answers of the record as it stood (R4). -/
def LineRec.retirePayload (r : LineRec) : List Byte :=
  bytesBE 4 r.totals.billed ++ bytesBE 4 r.totals.unbilled ++ bytesBE 4 r.totals.house ++ bytesBE 4 r.totals.loss ++
  bytesBE 4 r.totals.warm ++ bytesBE 4 r.totals.pours ++ bytesBE 4 r.saturation ++ bytesBE 4 r.cleanCount ++
  byte r.cleanResult.code

/-! ### LINE_CONFIG -/

/-- The configuration that accepted arguments spell; none where an argument is out of its range (R3, check 3). -/
def configOf (a : LineConfigArgs) : Option LineCfg :=
  if within 0 1 a.content && within 1 65535 a.product && within 100 20000 a.fill && within 20000 400000 a.k &&
      within 0 40000000 a.tailSeed && (a.primePercent == 0 || within 100 200 a.primePercent) &&
      within 0 65535 a.account then
    match readTrunk a.trunk, readBinding a.loop a.slot, readSet a.portionSet with
    | some t, some b, some ps =>
      some { product := a.product, trunk := t, fill := a.fill, k := a.k, tail := a.tailSeed, binding := b,
             account := a.account, portionSet := ps, primePercent := if a.primePercent = 0 then 125 else a.primePercent }
    | _, _, _ => none
  else none

/-- Checks 4 to 6 of LINE_CONFIG (R3). -/
def State.configRefusal (s : State) (l : Line) (c : LineCfg) : Option Status :=
  firstFail
    [ (decide (c.binding.slot.val < (s.loop c.binding.loop).slotCount), .badArg),
      ((s.bound c.binding).isNone, .duplicate),
      (!s.lineTable.calLock || (look s.lineTable.storedK l != 0 && look s.lineTable.storedK l == c.k), .locked) ]

/-- Writes the stored K of a line (R20). -/
def State.storeK (s : State) (l : Line) (k : Nat) : State :=
  { s with lineTable := { s.lineTable with storedK := put s.lineTable.storedK l k } }

/-- An accepted LINE_CONFIG (R3). -/
def State.configure (s : State) (l : Line) (c : LineCfg) (mode : Mode) : State :=
  ((s.bind c.binding l).storeK l c.k).changeLine l { LineRec.reset with mode := mode, cfg := some c }

/-- LINE_CONFIG (R3). -/
def takeLineConfig (a : LineConfigArgs) (s : State) : State :=
  match readLine a.line with
  | none => s.refuse .badArg
  | some l =>
    if (s.line l).mode ≠ .offline then s.refuse .wrongState
    else match configOf a with
      | none => s.refuse .badArg
      | some c =>
        match s.configRefusal l c with
        | some st => s.refuse st
        | none =>
          let mode := if a.content = 0 then Mode.water else Mode.dry
          (s.configure l c mode).ok (byte mode.code)

/-! ### LINE_SET -/

/-- The status of a selected field whose condition is that of the trunk: pour IDLE, not CLEANING, not queued (R16). -/
def State.structureChecks (s : State) (l : Line) : List (Bool × Status) :=
  [ (s.pourIdle l, .pourActive), ((s.line l).mode != .cleaning, .wrongState), (!s.queued l, .wrongState) ]

/-- A field's checks count only when it is selected (R16). -/
def ifSelected (selection i : Nat) (checks : List (Bool × Status)) : List (Bool × Status) :=
  if selected selection i then checks else []

/-- No other line is bound to the slot (R16). -/
def State.slotFree (s : State) (l : Line) (b : Binding) : Bool := s.bound b == none || s.bound b == some l

/-- The checks of the selected fields, in the table's order (R16). -/
def State.lineSetChecks (s : State) (l : Line) (a : LineSetArgs) : List (Bool × Status) :=
  let sel := a.selection
  ifSelected sel 0 [(within 0 65535 a.account, .badArg)] ++
  ifSelected sel 1 [((readSet a.portionSet).isSome, .badArg)] ++
  ifSelected sel 2 [(within 100 200 a.primePercent, .badArg)] ++
  ifSelected sel 3 ((((readTrunk a.trunk).isSome), .badArg) :: s.structureChecks l) ++
  ifSelected sel 4
    (((readBinding a.loop a.slot).any (fun b => decide (b.slot.val < (s.loop b.loop).slotCount)), .badArg) ::
      s.structureChecks l ++ [((readBinding a.loop a.slot).any (s.slotFree l), .duplicate)]) ++
  ifSelected sel 5 ((within 100 20000 a.fill, .badArg) :: s.structureChecks l) ++
  ifSelected sel 6
    ((within 20000 400000 a.k, .badArg) :: s.structureChecks l ++
      [(!s.lineTable.calLock || (look s.lineTable.storedK l != 0 && look s.lineTable.storedK l == a.k), .locked)]) ++
  ifSelected sel 7
    [(within 1 65535 a.product, .badArg), ((s.line l).mode == .water, .wrongState),
     ((s.keg l .A).isNone && (s.keg l .B).isNone, .wrongState)] ++
  ifSelected sel 8 [(within 0 40000000 a.tailReseed, .badArg), (s.pourIdle l, .pourActive)]

/-- The configuration with every selected field written (R16). -/
def writeSelected (a : LineSetArgs) (c : LineCfg) : LineCfg :=
  let sel := a.selection
  { product := if selected sel 7 then a.product else c.product
    trunk := if selected sel 3 then (readTrunk a.trunk).getD c.trunk else c.trunk
    fill := if selected sel 5 then a.fill else c.fill
    k := if selected sel 6 then a.k else c.k
    tail := if selected sel 8 then a.tailReseed else c.tail
    binding := if selected sel 4 then (readBinding a.loop a.slot).getD c.binding else c.binding
    account := if selected sel 0 then a.account else c.account
    portionSet := if selected sel 1 then (readSet a.portionSet).getD c.portionSet else c.portionSet
    primePercent := if selected sel 2 then a.primePercent else c.primePercent }

/-- A moved binding leaves its slot and enters the other; the present one changes nothing (R15, R16). -/
def State.rebind (s : State) (l : Line) (old new : Binding) : State :=
  if new = old then s else (s.unbind old).bind new l

/-- LINE_SET (R16). -/
def takeLineSet (a : LineSetArgs) (s : State) : State :=
  match readLine a.line with
  | none => s.refuse .badArg
  | some l =>
    match (s.line l).mode, (s.line l).cfg with
    | .offline, _ => s.refuse .wrongState
    | _, none => s.refuse .wrongState
    | _, some c =>
      match firstFail (s.lineSetChecks l a) with
      | some st => s.refuse st
      | none =>
        let c1 := writeSelected a c
        let s1 := (s.rebind l c.binding c1.binding).setLine l { s.line l with cfg := some c1 }
        let s2 := if selected a.selection 6 then s1.storeK l c1.k else s1
        s2.ok (s2.line l).payload

/-! ### LINE_HOLD, LINE_RELEASE, LINE_PRIME, LINE_RETIRE, LINE_READ -/

/-- The first failing check of LINE_HOLD (R10). -/
def State.holdRefusal (s : State) (l : Line) : Option Status :=
  let m := (s.line l).mode
  if m = .offline ∨ m = .held ∨ m = .cleaning ∨ m = .foul then some .wrongState
  else if m = .priming ∧ s.pourIdle l = false then some .pourActive
  else none

/-- LINE_HOLD: the valve requests stay as they were (R10), and the changed mode of a queued line is an occasion of group
formation (R143). -/
def takeLineHold (line : Nat) (s : State) : State :=
  match readLine line with
  | none => s.refuse .badArg
  | some l =>
    match s.holdRefusal l with
    | some st => s.refuse st
    | none =>
      let s1 := (s.setLine l { s.line l with mode := .held, heldFrom := some (s.line l).mode }).ok []
      if s.queued l then s1.considerFormation else s1

/-- LINE_RELEASE; the Line Table then asks for formation to be reconsidered (R11). -/
def takeLineRelease (line : Nat) (s : State) : State :=
  match readLine line with
  | none => s.refuse .badArg
  | some l =>
    match (s.line l).mode, (s.line l).heldFrom with
    | .held, some m => ((s.changeLine l { s.line l with mode := m, heldFrom := none }).ok (byte m.code)).considerFormation
    | _, _ => s.refuse .wrongState

/-- LINE_PRIME (R5). -/
def takeLinePrime (line : Nat) (s : State) : State :=
  match readLine line with
  | none => s.refuse .badArg
  | some l =>
    match (s.line l).mode with
    | .water =>
      match s.startPriming l with
      | .ok s1 => s1.ok (byte Mode.priming.code)
      | .error r => s.reply r.status (byte r.code)
    | .dry =>
      match s.primeRefusal l false, s.chooseKeg l with
      | none, some p => (s.dryToReady l p).ok (byte Mode.ready.code)
      | some r, _ => s.reply r.status (byte r.code)
      | none, none => s.reply .notFound (byte PrimeReason.noKeg.code)
    | m => s.reply .wrongState (byte m.code)

/-- The first failing check of LINE_RETIRE (R4). -/
def State.retireRefusal (s : State) (l : Line) : Option Status :=
  let m := (s.line l).mode
  firstFail
    [ (m == .water || m == .foul || m == .dry, .wrongState), (!s.queued l, .wrongState),
      ((s.keg l .A).isNone && (s.keg l .B).isNone, .wrongState) ]

/-- A binding that a record has leaves the map (R4). -/
def State.unbindLine (s : State) (l : Line) : State :=
  match (s.line l).cfg with
  | some c => s.unbind c.binding
  | none => s

/-- LINE_RETIRE (R4, R36). -/
def takeLineRetire (line : Nat) (s : State) : State :=
  match readLine line with
  | none => s.refuse .badArg
  | some l =>
    match s.retireRefusal l with
    | some st => s.refuse st
    | none =>
      ((((s.unbindLine l).changeLine l LineRec.reset).setLastEnrol l none).setPour l
        { s.pour l with shown := none, last := none }).ok (s.line l).retirePayload

/-- LINE_READ (R17). -/
def takeLineRead (line : Nat) (s : State) : State :=
  match readLine line with
  | none => s.refuse .badArg
  | some l =>
    s.ok ((s.line l).payload ++ bytesBE 4 (look s.lineTable.storedK l) ++ flag s.lineTable.calLock)

/-! ### PORTION_SET, CAL_LOCK, CAL_UNLOCK -/

/-- The values that a PORTION_SET puts into effect (R18). -/
def clampPortions (a : PortionSetArgs) : PortionSet :=
  { size1 := clampNat 50 2000 a.size1, size2 := clampNat 50 2000 a.size2, size3 := clampNat 50 2000 a.size3,
    size4 := clampNat 50 2000 a.size4, cap := clampNat 100 2000 a.cap }

/-- A portion set in an answer (R18). -/
def PortionSet.payload (p : PortionSet) : List Byte :=
  bytesBE 2 p.size1 ++ bytesBE 2 p.size2 ++ bytesBE 2 p.size3 ++ bytesBE 2 p.size4 ++ bytesBE 2 p.cap

/-- PORTION_SET (R18). -/
def takePortionSet (a : PortionSetArgs) (s : State) : State :=
  match readSet a.set with
  | none => s.refuse .badArg
  | some n =>
    ({ s with lineTable := { s.lineTable with portions := put s.lineTable.portions n (clampPortions a) } }).ok (clampPortions a).payload

/-- CAL_LOCK (R19). -/
def takeCalLock (s : State) : State :=
  ({ s with lineTable := { s.lineTable with calLock := true } }).ok (flag true)

/-- CAL_UNLOCK, with the level of SERVICE (R19). -/
def takeCalUnlock (service : Bool) (s : State) : State :=
  if s.lineTable.calLock && !service then s.reply .locked (flag true)
  else ({ s with lineTable := { s.lineTable with calLock := false } }).ok (flag false)

/-! ### The meanings -/

def execLineConfig (a : LineConfigArgs) (s : State) : Host.Outcome State Fault Refusal := s.running (takeLineConfig a)
def execLineSet (a : LineSetArgs) (s : State) : Host.Outcome State Fault Refusal := s.running (takeLineSet a)
def execLineHold (line : Nat) (s : State) : Host.Outcome State Fault Refusal := s.running (takeLineHold line)
def execLineRelease (line : Nat) (s : State) : Host.Outcome State Fault Refusal := s.running (takeLineRelease line)
def execLinePrime (line : Nat) (s : State) : Host.Outcome State Fault Refusal := s.running (takeLinePrime line)
def execLineRetire (line : Nat) (s : State) : Host.Outcome State Fault Refusal := s.running (takeLineRetire line)
def execLineRead (line : Nat) (s : State) : Host.Outcome State Fault Refusal := s.running (takeLineRead line)
def execPortionSet (a : PortionSetArgs) (s : State) : Host.Outcome State Fault Refusal := s.running (takePortionSet a)
def execCalLock (s : State) : Host.Outcome State Fault Refusal := s.running takeCalLock
def execCalUnlock (service : Bool) (s : State) : Host.Outcome State Fault Refusal := s.running (takeCalUnlock service)

end Sys2Proof.Machine
end

