-- ==== Sys2Proof/Machine/Loops.lean ====
section
/-! DEFINITION. The loop commands (Chapter 6) with their answers, the frame sync, the end of a slot and the loss of a faucet. -/

namespace Sys2Proof.Machine

/-! ### LOOP_SET -/

/-- No slot at or above `n` is bound (R106, check 3). -/
def State.noneBoundFrom (s : State) (i : LoopId) (n : Nat) : Bool :=
  (indices 24).all fun k => decide (k.val < n) || (s.bound ⟨i, k⟩).isNone

/-- LOOP_SET (R106). -/
def takeLoopSet (loop slots : Nat) (s : State) : State :=
  match readLoop loop with
  | none => s.refuse .badArg
  | some i =>
    match firstFail
      [ (within 2 24 slots, .badArg), (!(s.loop i).isRunning, .wrongState), (s.noneBoundFrom i slots, .wrongState) ] with
    | some st => s.refuse st
    | none => (s.setLoop i { s.loop i with slotCount := slots }).ok (byte slots)

/-! ### LOOP_START -/

/-- A STOPPED loop starts: rate, outbound words, then RUNNING with its first frame sync (R107). -/
def State.startLoop (s : State) (i : LoopId) : State :=
  (s.setLoop i { s.loop i with state := .running s.timing.frameRate }).frameSync i

/-- LOOP_START (R107). -/
def takeLoopStart (loop : Nat) (s : State) : State :=
  match readLoop loop with
  | none => s.refuse .badArg
  | some i =>
    if (s.loop i).isRunning then s.refuse .wrongState
    else (s.startLoop i).ok (bytesBE 2 s.timing.frameRate ++ byte (s.loop i).slotCount)

/-! ### LOOP_STOP and LOOP_RESET -/

/-- The number of pours a stop withdraws and the number it settles (R116). -/
def State.stopCounts (s : State) (i : LoopId) : List Byte :=
  bytesBE 4 (s.waitingOn (s.loopLines i)) ++ bytesBE 4 (s.meteringOn (s.loopLines i))

/-- LOOP_STOP (R116). -/
def takeLoopStop (loop : Nat) (s : State) : State :=
  match readLoop loop with
  | none => s.refuse .badArg
  | some i =>
    if (s.loop i).isRunning then ((s.stopLoop i).ok (s.stopCounts i)).follow else s.refuse .wrongState

/-- LOOP_RESET (R117). -/
def takeLoopReset (loop : Nat) (s : State) : State :=
  match readLoop loop with
  | none => s.refuse .badArg
  | some i =>
    let s1 := if (s.loop i).isRunning then s.stopLoop i else s
    let counts := if (s.loop i).isRunning then s.stopCounts i else bytesBE 4 0 ++ bytesBE 4 0
    ((s1.setLoop i (s1.loop i).cleared).ok counts).follow

/-! ### LOOP_READ -/

/-- The rate that LOOP_READ shows: in effect, or the parameter that the next start will latch (R118). -/
def State.shownRate (s : State) (i : LoopId) : Nat :=
  match (s.loop i).state with
  | .running r => r
  | .stopped => s.timing.frameRate

/-- The loop record (R118). -/
def State.loopPayload (s : State) (i : LoopId) : List Byte :=
  let r := s.loop i
  flag r.isRunning ++ byte r.slotCount ++ bytesBE 2 (s.shownRate i) ++ bytesBE 4 r.frames ++ bytesBE 4 r.checkErrors ++
  bytesBE 4 r.stales

/-- The fields of a latched outbound word (R118), portion and value in 1 byte each (DESIGN CHOICE, log entry 25). -/
def OutCommand.payload (c : OutCommand) : List Byte := flag c.valve ++ byte c.lamp.code ++ byte c.portion ++ byte c.value

/-- The receive state of a slot (R118), zeros and absences for an unbound slot, the miss run in 2 bytes (DESIGN CHOICE, log entry
20), the last sequence and the accepted code in 1 byte each (DESIGN CHOICE, log entry 25). -/
def recvPayload (r : Option RecvState) : List Byte :=
  match r with
  | some r => bytesBE 2 r.missRun ++ flag r.lost ++ optNat 1 (r.lastSeq.map BitVec.toNat) ++
      optNat 1 (r.code.map BitVec.toNat)
  | none => bytesBE 2 0 ++ flag false ++ optNat 1 none ++ optNat 1 none

/-- One slot in a response (R118). -/
def State.slotPayload (s : State) (i : LoopId) (k : Slot) : List Byte :=
  optNat 1 ((s.bound ⟨i, k⟩).map fun l => l.val) ++ recvPayload (s.recv ⟨i, k⟩) ++
  optBytes 4 ((look (s.loop i).latched k).map OutCommand.payload)

/-- The slots of one page: 8p − 8 to 8p − 1, those below the slot count (R118, section 11.2). -/
def State.slotPage (s : State) (i : LoopId) (page : Nat) : List Byte :=
  (indices 24).flatMap fun k =>
    if k.val / 8 + 1 = page ∧ k.val < (s.loop i).slotCount then s.slotPayload i k else []

/-- LOOP_READ (R118). -/
def takeLoopRead (loop page : Nat) (s : State) : State :=
  match readLoop loop with
  | none => s.refuse .badArg
  | some i => s.ok (if page = 0 then s.loopPayload i else s.slotPage i page)

/-! ### Events of a loop -/

/-- FRAME_SYNC of a RUNNING loop whose last slot has ended (R108); a sync cannot fall inside a frame (DESIGN CHOICE, log entry
14). -/
def takeFrameSync (i : LoopId) (s : State) : State :=
  if (s.loop i).isRunning && (s.loop i).slot.isNone then s.frameSync i else s

/-- SLOT_END (R110). -/
def takeSlotEnd (i : LoopId) (k : Slot) (word : SlotWord) (s : State) : State := (s.slotEnd ⟨i, k⟩ word).follow

/-- FAUCET_LOST, on a RUNNING loop (R113). -/
def takeFaucetLost (i : LoopId) (k : Slot) (s : State) : State :=
  if (s.loop i).isRunning then (s.declareLost ⟨i, k⟩).follow else s

/-! ### The meanings -/

def execLoopSet (loop slots : Nat) (s : State) : Host.Outcome State Fault Refusal := s.running (takeLoopSet loop slots)
def execLoopStart (loop : Nat) (s : State) : Host.Outcome State Fault Refusal := s.running (takeLoopStart loop)
def execLoopStop (loop : Nat) (s : State) : Host.Outcome State Fault Refusal := s.running (takeLoopStop loop)
def execLoopReset (loop : Nat) (s : State) : Host.Outcome State Fault Refusal := s.running (takeLoopReset loop)
def execLoopRead (loop page : Nat) (s : State) : Host.Outcome State Fault Refusal := s.running (takeLoopRead loop page)
def execFrameSync (i : LoopId) (s : State) : Host.Outcome State Fault Refusal := s.running (takeFrameSync i)
def execSlotEnd (i : LoopId) (k : Slot) (word : SlotWord) (s : State) : Host.Outcome State Fault Refusal :=
  s.running (takeSlotEnd i k word)
def execFaucetLost (i : LoopId) (k : Slot) (s : State) : Host.Outcome State Fault Refusal :=
  s.running (takeFaucetLost i k)

end Sys2Proof.Machine
end

