-- ==== Sys2Proof/Machine/Outputs.lean ====
section
/-! DEFINITION. The commands of the Valve Output Unit and the Cellar Timebase (Chapter 9) with their answers, the two timebase
events, the pump-flow pulse and the two ends of a shift of the Valve Chain. -/

namespace Sys2Proof.Machine

/-! ### TIMEBASE_SET and TIMEBASE_SYNC -/

/-- A channel TB0 to TB3. -/
def readChannel (n : Nat) : Option Channel := if h : n < 4 then some ⟨n, h⟩ else none

/-- The clamped period, and the margin clamped by it (R162). -/
def pendingOf (period margin : Nat) : Nat × Nat :=
  (clampNat 2 65535 period, clampNat 1 (clampNat 2 65535 period - 1) margin)

/-- TIMEBASE_SET (R162). -/
def takeTimebaseSet (channel period margin : Nat) (s : State) : State :=
  match readChannel channel with
  | none => s.refuse .badArg
  | some c =>
    let p := pendingOf period margin
    let x := s.channel c
    (s.setChannel c { x with pending := some p }).ok
      (bytesBE 2 p.1 ++ bytesBE 2 p.2 ++ bytesBE 2 x.period ++ bytesBE 2 x.margin)

/-- A chosen channel restarts at 0 (R163). -/
def State.restartChannel (mask : Byte) (s : State) (c : Channel) : State :=
  if mask.getLsbD c.val then s.setChannel c { s.channel c with counter := 0 } else s

/-- TIMEBASE_SYNC (R163). -/
def takeTimebaseSync (mask : Byte) (s : State) : State :=
  if mask.toNat > 15 then s.refuse .badArg else ((indices 4).foldl (State.restartChannel mask) s).ok []

/-! ### VALVE_CLEAR -/

/-- The fault flag cleared and the first mismatch absent, the count kept (R171). -/
def State.clearFault (s : State) : State :=
  { s with valves := { s.valves with fault := false, firstMismatch := none } }

/-- VALVE_CLEAR; a flag that was set is an occasion of group formation (R171). -/
def takeValveClear (s : State) : State :=
  let s1 := s.clearFault.ok (bytesBE 4 s.valves.mismatches)
  if s.valves.fault then s1.considerFormation else s1

/-! ### VALVE_READ -/

/-- The patterns of a group, 1 byte each (DESIGN CHOICE, log entry 25), and its turn-on pending flag where it has one (R172). -/
def State.groupPayload (s : State) (g : ValveGroup) : List Byte :=
  let x := s.valve g
  bytesBE 1 x.current.toNat ++ bytesBE 1 x.next.toNat ++ bytesBE 1 x.snapshot.toNat ++
  if g = 16 then [] else flag x.turnOn

/-- A timebase channel in a response (R172), the counter in 2 bytes (DESIGN CHOICE, log entry 25). -/
def TimeChannel.payload (x : TimeChannel) : List Byte :=
  bytesBE 2 x.period ++ bytesBE 2 x.margin ++ bytesBE 2 x.counter ++
  optBytes 4 (x.pending.map fun p => bytesBE 2 p.1 ++ bytesBE 2 p.2)

/-- The shift state, IDLE 0 and SHIFTING 1, and the fault record (R172), the group and the bit of a mismatch in 1 byte each (DESIGN
CHOICE, log entry 25). -/
def Valves.payload (v : Valves) : List Byte :=
  flag v.shifting.isSome ++ flag v.wanted ++ flag v.fault ++ bytesBE 4 v.mismatches ++
  optBytes 2 (v.firstMismatch.map fun x => byte x.1.val ++ byte x.2.val)

/-- The pages of VALVE_READ (R172, section 11.2). -/
def State.valvePage (s : State) (page : Nat) : List Byte :=
  match page with
  | 0 => (indices 18).flatMap s.groupPayload
  | 1 => s.valves.payload ++ ((indices 4).flatMap fun c => (s.channel c).payload) ++ bytesBE 4 s.timebase.pump ++
      bytesBE 4 s.timebase.latchedPump
  | _ => []

/-- VALVE_READ (R172). -/
def takeValveRead (page : Nat) (s : State) : State := s.ok (s.valvePage page)

/-! ### Events -/

/-- TIMEBASE_PERIOD_EVENT (R161). -/
def takeTimebasePeriodEvent (c : Channel) (s : State) : State := (s.periodEvent c).follow
/-- TIMEBASE_MARGIN_EVENT (R161). -/
def takeTimebaseMarginEvent (c : Channel) (s : State) : State := s.marginEvent c
/-- PUMP_FLOW_PULSE (R164). -/
def takePumpFlowPulse (s : State) : State := s.countPump
/-- CHAIN_SHIFT_START (R169). -/
def takeChainShiftStart (s : State) : State := s.startShift
/-- CHAIN_SHIFT_END (R169, R170). -/
def takeChainShiftEnd (echo : Image) (s : State) : State := (s.endShift echo).follow

/-! ### The meanings -/

def execTimebaseSet (channel period margin : Nat) (s : State) : Host.Outcome State Fault Refusal :=
  s.running (takeTimebaseSet channel period margin)
def execTimebaseSync (mask : Byte) (s : State) : Host.Outcome State Fault Refusal := s.running (takeTimebaseSync mask)
def execValveClear (s : State) : Host.Outcome State Fault Refusal := s.running takeValveClear
def execValveRead (page : Nat) (s : State) : Host.Outcome State Fault Refusal := s.running (takeValveRead page)
def execTimebasePeriodEvent (c : Channel) (s : State) : Host.Outcome State Fault Refusal :=
  s.running (takeTimebasePeriodEvent c)
def execTimebaseMarginEvent (c : Channel) (s : State) : Host.Outcome State Fault Refusal :=
  s.running (takeTimebaseMarginEvent c)
def execPumpFlowPulse (s : State) : Host.Outcome State Fault Refusal := s.running takePumpFlowPulse
def execChainShiftStart (s : State) : Host.Outcome State Fault Refusal := s.running takeChainShiftStart
def execChainShiftEnd (echo : Image) (s : State) : Host.Outcome State Fault Refusal := s.running (takeChainShiftEnd echo)

end Sys2Proof.Machine
end

