-- ==== Sys2Proof/Machine/Pours.lean ====
section
/-! DEFINITION. The commands of Pour Control (sections 3.4 and 3.12) and the consequences of a frame that the table lists as
steps of their own: overtime, the end of a low-flow block, the wait timeout, promotion and the two ends of a tail. -/

namespace Sys2Proof.Machine

/-! ### POUR_ABORT -/

/-- The outcomes of POUR_ABORT, with the codes of section 11.1. -/
inductive AbortOutcome where
  | withdrawn
  | closed
  | alreadyClosed
  deriving DecidableEq, Repr

/-- The code of a POUR_ABORT outcome. -/
def AbortOutcome.code (o : AbortOutcome) : Nat := o.ctorIdx

/-- A pour that POUR_ABORT refuses: a CLEAN draw in any state (R65). -/
def PourRec.isClean (r : PourRec) : Bool := r.pour.any fun p => p.kind == .clean

/-- POUR_ABORT (R65). -/
def takePourAbort (line : Nat) (s : State) : State :=
  match readLine line with
  | none => s.refuse .badArg
  | some l =>
    if (s.pour l).record.isClean then s.refuse .wrongState
    else match (s.pour l).record with
      | .idle => s.refuse .notFound
      | .waiting _ _ => ((s.withdraw l).ok (byte AbortOutcome.withdrawn.code)).follow
      | .pouring _ _ _ _ => ((s.closePour l .abort).ok (byte AbortOutcome.closed.code)).follow
      | .tailing _ _ _ _ _ _ => s.ok (byte AbortOutcome.alreadyClosed.code)

/-! ### POUR_READ -/

/-- The metering fields of a pour that every state but IDLE has, as POUR_READ answers them; the target takes 4 bytes (DESIGN CHOICE,
log entry 25). -/
def pourFields (p : Option Pour) (vClose : Option Nat) : List Byte :=
  optNat 1 (p.map fun p => p.kind.code) ++ optNat 4 (p.map Pour.target) ++ optNat 2 (p.map Pour.hold) ++
  optNat 2 (p.bind Pour.account) ++ optNat 4 (p.map Pour.v) ++ optNat 4 vClose ++
  optNat 1 (p.map fun p => p.clamp.toNat) ++ optNat 1 (p.map fun p => p.warm.toNat)

/-- A block count as it is answered: present once the frames of the start grace have passed (section 3.1; at the frame that
completes the grace, by the grace in force when the command is taken, and in a CLEAN draw too, DEDUCED, log entry 22). -/
def blockField (grace framesOpen count : Nat) : List Byte := optNat 4 (if grace ≤ framesOpen then some count else none)

/-- The counts of a pour record and its close reason, in the order of section 3.1; `grace` is the start grace. -/
def PourRec.countFields (r : PourRec) (grace : Nat) : List Byte :=
  match r with
  | .idle => optNat 1 none ++ optNat 4 none ++ optNat 4 none ++ optNat 4 none ++ optNat 4 none ++ optNat 4 none ++
      optNat 4 none
  | .waiting _ w => optNat 1 none ++ optNat 4 (some w) ++ optNat 4 none ++ optNat 4 none ++ optNat 4 none ++
      optNat 4 none ++ optNat 4 none
  | .pouring _ n bf bp => optNat 1 none ++ optNat 4 none ++ optNat 4 (some n) ++ blockField grace n bf ++
      blockField grace n bp ++ optNat 4 none ++ optNat 4 none
  | .tailing _ n _ c q k => optNat 1 (some c.code) ++ optNat 4 none ++ optNat 4 (some n) ++ optNat 4 none ++
      optNat 4 none ++ optNat 4 (some q) ++ optNat 4 (some k)

/-- V_close of a pour record, present in TAILING. -/
def PourRec.vClose : PourRec → Option Nat
  | .tailing _ _ v _ _ _ => some v
  | _ => none

/-- The last-settlement summary in a response (R59, R66). -/
def Settlement.payload (x : Settlement) : List Byte :=
  byte x.kind.code ++ byte x.reason.code ++ byte x.ending.code ++ bytesBE 2 x.vml ++ bytesBE 4 x.measured ++
  bytesBE 2 x.billed ++ bytesBE 2 x.unbilled ++ bytesBE 4 x.tail

/-- The place of a WAITING line in its trunk's queue, 0 for the head (R66). -/
def State.queuePlace (s : State) (l : Line) (t : Trunk) : Option Nat :=
  match (s.pour l).record with
  | .waiting _ _ => some ((s.trunk t).queue.findIdx fun x => x == l)
  | _ => none

/-- What POUR_READ answers (R66). -/
def State.pourPayload (s : State) (l : Line) : List Byte :=
  let x := s.pour l
  let t := (s.line l).cfg.map LineCfg.trunk
  byte x.record.code ++ pourFields x.record.pour x.record.vClose ++ x.record.countFields s.timing.startGrace ++
  optNat 1 (x.shown.map RefusalReason.code) ++ optBytes 17 (x.last.map Settlement.payload) ++
  optNat 1 (t.map fun t => t.val) ++ optNat 1 (t.map fun t => (s.trunk t).limit) ++
  optNat 1 (t.bind fun t => s.queuePlace l t)

/-- POUR_READ (R66). -/
def takePourRead (line : Nat) (s : State) : State :=
  match readLine line with
  | none => s.refuse .badArg
  | some l => s.ok (s.pourPayload l)

/-! ### TRUNK_DRAW -/

/-- The limit, the POURING count and the queue length of a trunk, as TRUNK_DRAW answers them (R51). -/
def State.drawPayload (s : State) (t : Trunk) : List Byte :=
  byte (s.trunk t).limit ++ bytesBE 4 (s.trunkPouring t) ++ byte (s.trunk t).queue.length

/-- TRUNK_DRAW: a raised limit is an occasion for promotion, a lowered one promotes nothing (R51). -/
def takeTrunkDraw (trunk limit : Nat) (s : State) : State :=
  match readTrunk trunk with
  | none => s.refuse .badArg
  | some t =>
    let new := clampNat 1 32 limit
    let s1 := s.setTrunk t { s.trunk t with limit := new }
    let s2 := if new > (s.trunk t).limit then s1.promote t else s1
    s2.ok (s2.drawPayload t)

/-! ### PART_SET -/

/-- The loop frame rate that a value becomes: the smallest rate at or above it, and 1,000 above them all (R67). -/
def rateOf (n : Nat) : Nat := if n ≤ 250 then 250 else if n ≤ 500 then 500 else 1000

/-- A selected value written over the present one. -/
def pick (selection i : Nat) (value present : Nat) : Nat := if selected selection i then value else present

/-- The timing parameters after a PART_SET (R67, section 3.12). -/
def partTiming (a : PartSetArgs) (t : Timing) : Timing :=
  let sel := a.selection
  { frameRate := pick sel 0 (rateOf a.frameRate) t.frameRate
    settle := pick sel 1 (clampNat 4 64 a.settle) t.settle
    tailWindow := pick sel 2 (clampNat 32 1000 a.tailWindow) t.tailWindow
    startGrace := pick sel 3 (clampNat 0 2000 a.startGrace) t.startGrace
    lowFlowBlock := pick sel 4 (clampNat 16 1000 a.lowFlowBlock) t.lowFlowBlock
    lowFlowMin := pick sel 5 (clampNat 1 255 a.lowFlowMin) t.lowFlowMin
    lostThreshold := pick sel 6 (clampNat 8 255 a.lostThreshold) t.lostThreshold
    waitTimeout := pick sel 7 (clampNat 50 8000 a.waitTimeout) t.waitTimeout
    maxPour := pick sel 8 (clampNat 1000 60000 a.maxPour) t.maxPour
    emptyMargin := pick sel 9 (clampNat 0 20000 a.emptyMargin) t.emptyMargin }

/-- The ten values in effect, in the table's order (R67). -/
def Timing.payload (t : Timing) : List Byte :=
  bytesBE 2 t.frameRate ++ bytesBE 2 t.settle ++ bytesBE 2 t.tailWindow ++ bytesBE 2 t.startGrace ++
  bytesBE 2 t.lowFlowBlock ++ bytesBE 2 t.lowFlowMin ++ bytesBE 2 t.lostThreshold ++ bytesBE 2 t.waitTimeout ++
  bytesBE 2 t.maxPour ++ bytesBE 2 t.emptyMargin

/-- Writes the timing parameters. -/
def State.setTiming (s : State) (t : Timing) : State := { s with pourControl := { s.pourControl with timing := t } }

/-- PART_SET (R67). -/
def takePartSet (a : PartSetArgs) (s : State) : State :=
  (s.setTiming (partTiming a s.timing)).ok (partTiming a s.timing).payload

/-! ### Consequences of a frame, as steps of their own -/

/-- POUR_OVERTIME (R53). -/
def takePourOvertime (l : Line) (s : State) : State := (s.overtime l).follow
/-- LOW_FLOW_BLOCK_END (R54). -/
def takeLowFlowBlockEnd (l : Line) (s : State) : State := (s.judgeBlock l).follow
/-- Whether a WAITING pour has reached the wait timeout (R49). -/
def State.timedOut (s : State) (l : Line) : Bool :=
  match (s.pour l).record with
  | .waiting _ n => decide (n ≥ s.timing.waitTimeout)
  | _ => false

/-- WAIT_TIMEOUT (R49): no occasion for promotion, but one of group formation (R143). -/
def takeWaitTimeout (l : Line) (s : State) : State :=
  if s.timedOut l then (s.waitTimeout l).considerFormation else s
/-- PROMOTION (R48). -/
def takePromotion (t : Trunk) (s : State) : State := s.promote t
/-- TAIL_QUIET_SETTLE (R56, R58). -/
def takeTailQuietSettle (l : Line) (s : State) : State := (s.quietSettle l).follow
/-- TAIL_WINDOW (R56, R58). -/
def takeTailWindow (l : Line) (s : State) : State := (s.tailWindow l).follow

/-! ### The meanings -/

def execPourAbort (line : Nat) (s : State) : Host.Outcome State Fault Refusal := s.running (takePourAbort line)
def execPourRead (line : Nat) (s : State) : Host.Outcome State Fault Refusal := s.running (takePourRead line)
def execTrunkDraw (trunk limit : Nat) (s : State) : Host.Outcome State Fault Refusal :=
  s.running (takeTrunkDraw trunk limit)
def execPartSet (a : PartSetArgs) (s : State) : Host.Outcome State Fault Refusal := s.running (takePartSet a)
def execPourOvertime (l : Line) (s : State) : Host.Outcome State Fault Refusal := s.running (takePourOvertime l)
def execLowFlowBlockEnd (l : Line) (s : State) : Host.Outcome State Fault Refusal := s.running (takeLowFlowBlockEnd l)
def execWaitTimeout (l : Line) (s : State) : Host.Outcome State Fault Refusal := s.running (takeWaitTimeout l)
def execPromotion (t : Trunk) (s : State) : Host.Outcome State Fault Refusal := s.running (takePromotion t)
def execTailQuietSettle (l : Line) (s : State) : Host.Outcome State Fault Refusal := s.running (takeTailQuietSettle l)
def execTailWindow (l : Line) (s : State) : Host.Outcome State Fault Refusal := s.running (takeTailWindow l)

end Sys2Proof.Machine
end

