-- ==== Sys2Proof/Machine/Link.lean ====
section
/-! DEFINITION. The Venue Link (Chapter 10): its four transactions, the execution of a command frame, attention, PART_RESET and
the pin reset. -/

namespace Sys2Proof.Machine

def State.setLink (s : State) (x : Link) : State := { s with link := x }
def State.setLinkState (s : State) (x : LinkState) : State := s.setLink { s.link with state := x }
/-- The bytes sent on MISO after the first byte of a transaction: `bs`, then 0x00, `n` bytes in all. -/
def State.sendMiso (s : State) (bs : List Byte) (n : Nat) : State :=
  s.setLink { s.link with miso := (bs ++ List.replicate n 0).take n }

/-! ### Attention commands -/

/-- ATTN_READ (R180). -/
def takeAttnRead (s : State) : State := (s.setAttention Attention.empty).ok s.link.attention.payload

/-- ATTN_MASK (R181). -/
def takeAttnMask (kinds : BitVec 16) (s : State) : State :=
  if kinds.toNat < 2 ^ 14 then
    (s.setLink { s.link with mask := kinds.setWidth 14 }).ok (bytesBE 2 kinds.toNat)
  else s.refuse .badArg

/-! ### Resets -/

/-- Every block but the Venue Link at its reset values; the Line Table's stored K table and lock are given (R1, R182). -/
def State.resetBlocks (s : State) (storedK : Vector Nat 32) (calLock : Bool) : State :=
  { s with lineTable := { LineTable.reset with storedK := storedK, calLock := calLock },
           pourControl := PourControl.reset, kegRegister := KegRegister.reset, accounts := Vector.replicate 48 none,
           tapLoops := TapLoops.reset, climate := Climate.reset, cleaning := Cleaning.reset, valves := Valves.reset,
           timebase := Timebase.reset }

/-- PART_RESET: the blocks reset, the attention set is emptied, and the link stays EXECUTING with the frame's tag (R182). All
blocks are reset at once, and from then on take events and count milliseconds while the link is EXECUTING (R161; DESIGN CHOICE, log
entry 29). Taken directly, it does the same whatever the link state, and a waiting response is lost (DESIGN CHOICE, log entry 5). -/
def takePartReset (tag : Byte) (s : State) : State :=
  { ((s.resetBlocks s.lineTable.storedK s.lineTable.calLock).setAttention Attention.empty).setLinkState
      (.executing tag Config.partResetCode) with answer := none }

/-- The pin reset: every block and the link at their pin-reset values, held there until RESET_N is high (R183). -/
def State.pinReset (s : State) : State :=
  { (s.resetBlocks LineTable.reset.storedK LineTable.reset.calLock).setLink Link.reset with
    resetHeld := true, answer := none }

/-- RESET_N returns high: the timebase runs from 0, and the shift of the all-off image begins (R183, R161, R173). -/
def State.releaseReset (s : State) : State :=
  if s.resetHeld then { s with resetHeld := false, timebase := Timebase.reset, valves := Valves.reset } else s

/-! ### Posting a response -/

/-- The response frame of the block's answer is placed in the slot, with the tag and code of the command frame (R176). -/
def State.post (s : State) (tag code : Byte) : State :=
  match s.answer with
  | some a => s.setLinkState (.respReady (responseFrame a.status tag code a.payload))
  | none => s

/-- PART_RESET_COMPLETE: the OK response of the PART_RESET that the link is executing (R182). -/
def takePartResetComplete (s : State) : State :=
  match s.link.state with
  | .executing tag code => (s.ok []).post tag code
  | _ => s

/-! ### Taking a command -/

/-- A command is handed to its owning block, which takes it as one event and forms its answer (R176, step 3). The other rows
of the table have no command code and are never handed over. -/
def takeCommand (i : Instr) (s : State) : State :=
  match i with
  | .lineConfig a => takeLineConfig a s
  | .lineSet a => takeLineSet a s
  | .lineHold l => takeLineHold l s
  | .lineRelease l => takeLineRelease l s
  | .linePrime l => takeLinePrime l s
  | .lineRetire l => takeLineRetire l s
  | .lineRead l => takeLineRead l s
  | .portionSet a => takePortionSet a s
  | .calLock => takeCalLock s
  | .calUnlock b => takeCalUnlock b s
  | .pourAbort l => takePourAbort l s
  | .pourRead l => takePourRead l s
  | .trunkDraw t n => takeTrunkDraw t n s
  | .partSet a => takePartSet a s
  | .kegEnrol a => takeKegEnrol a s
  | .kegCheck l p => takeKegCheck l p s
  | .kegConfirm l p v => takeKegConfirm l p v s
  | .kegRetire l p => takeKegRetire l p s
  | .kegRead l p => takeKegRead l p s
  | .kegFind t => takeKegFind t s
  | .accountOpen id f c => takeAccountOpen id f c s
  | .accountCredit id n => takeAccountCredit id n s
  | .accountFloat id f => takeAccountFloat id f s
  | .accountClose id => takeAccountClose id s
  | .accountRead sel key page => takeAccountRead sel key page s
  | .loopSet i n => takeLoopSet i n s
  | .loopStart i => takeLoopStart i s
  | .loopStop i => takeLoopStop i s
  | .loopReset i => takeLoopReset i s
  | .loopRead i page => takeLoopRead i page s
  | .scanSet r m => takeScanSet r m s
  | .channelSet i r b n => takeChannelSet i r b n s
  | .scanStart => takeScanStart s
  | .scanStop => takeScanStop s
  | .trunkClimate a => takeTrunkClimate a s
  | .chillerSet a => takeChillerSet a s
  | .boost o c => takeBoost o c s
  | .climateRead page => takeClimateRead page s
  | .recipeSet a => takeRecipeSet a s
  | .cleanSet n m => takeCleanSet n m s
  | .cleanSubmit ls r => takeCleanSubmit ls r s
  | .cleanAbort ls => takeCleanAbort ls s
  | .cleanHalt => takeCleanHalt s
  | .cleanRead page => takeCleanRead page s
  | .timebaseSet c p m => takeTimebaseSet c p m s
  | .timebaseSync m => takeTimebaseSync m s
  | .valveClear => takeValveClear s
  | .valveRead page => takeValveRead page s
  | .attnRead => takeAttnRead s
  | .attnMask k => takeAttnMask k s
  | .partReset t => takePartReset t s
  | .pinReset | .commandWrite _ _ | .responseRead _ | .statusRead _ | .unknownTransaction _ _ | .partResetComplete
  | .frameSync _ | .slotEnd _ _ _ | .faucetLost _ _ | .pourOvertime _ | .lowFlowBlockEnd _ | .waitTimeout _
  | .promotion _ | .tailQuietSettle _ | .tailWindow _ | .couplerReadStart | .couplerCopyRead _ _
  | .conversionComplete _ | .probeFailed _ | .timebasePeriodEvent _ | .timebaseMarginEvent _ | .cycleStart | .boostEnd
  | .stageSwitch _ | .pumpFlowPulse | .pumpFault | .phaseTimeout | .soakEnd | .groupFormation | .groupRelease
  | .chainShiftStart | .chainShiftEnd _ | .resetNRelease => s

/-! ### COMMAND_WRITE -/

/-- The judgement of the bytes of a command write (R175, steps 2 and 3). -/
inductive Judgement where
  | bad
  | good (code tag : Byte) (payload : List Byte)
  deriving DecidableEq, Repr

/-- Length, then CRC (R175). -/
def judgeFrame (bytes : List Byte) : Judgement :=
  match bytes with
  | code :: tag :: len :: rest =>
    if len.toNat > Config.maxPayload ∨ rest.length ≠ len.toNat + 2 then .bad
    else if bytes = closeFrame (code :: tag :: len :: rest.take len.toNat) then .good code tag (rest.take len.toNat)
    else .bad
  | _ => .bad

/-- A bad frame: FRAME_BAD, and a FRAME_ERROR response with what was received of tag and code (R175). -/
def State.frameError (s : State) (bytes : List Byte) : State :=
  ((s.setLink { s.link with frameBad := true }).refuse .frameError).post (bytes.getD 1 0) (bytes.getD 0 0)

/-- An accepted frame: EXECUTING, then the code, the length and the dispatch (R176). The response is posted once the block
has taken the command; a PART_RESET leaves the link EXECUTING (R182). -/
def State.acceptFrame (s : State) (service : Bool) (code tag : Byte) (payload : List Byte) : State :=
  let s1 := s.setLinkState (.executing tag code)
  match requestLength code, readCommand service tag code payload with
  | some n, some i =>
    if payload.length ≠ n then (s1.refuse .badLength).post tag code
    else if code = Config.partResetCode then takeCommand i s1
    else (takeCommand i s1).post tag code
  | _, _ => (s1.refuse .unknownCommand).post tag code

/-- COMMAND_WRITE; the part sends 0x00 throughout (R175, section 11.1). -/
def takeCommandWrite (service : Bool) (bytes : List Byte) (s : State) : State :=
  let s1 := s.sendMiso [] bytes.length
  match s1.link.state with
  | .idle =>
    match judgeFrame bytes with
    | .bad => s1.frameError bytes
    | .good code tag payload => s1.acceptFrame service code tag payload
  | _ => s1.setLink { s1.link with collision := true }

/-! ### The other transactions -/

/-- RESPONSE_READ (R177). -/
def takeResponseRead (n : Nat) (s : State) : State :=
  match s.link.state with
  | .respReady frame =>
    let s1 := s.sendMiso frame n
    if n ≥ frame.length then s1.setLinkState .idle else s1
  | _ => s.sendMiso [s.link.statusByte] n

/-- STATUS_READ. The two latched flags are cleared however few bytes are clocked after the first (R178; DEDUCED, log entry 30). -/
def takeStatusRead (n : Nat) (s : State) : State :=
  let s1 := s.sendMiso [s.link.statusByte] n
  s1.setLink { s1.link with collision := false, frameBad := false }

/-- UNKNOWN_TRANSACTION; one with the first byte of another transaction, which `readTransaction` never reads, has no effect (R174;
DESIGN CHOICE, log entry 14). -/
def takeUnknownTransaction (first : Byte) (n : Nat) (s : State) : State :=
  if Config.transactions.contains first then s
  else
    let s1 := s.sendMiso [] n
    s1.setLink { s1.link with frameBad := true }

/-! ### The meanings -/

def execPinReset (s : State) : Host.Outcome State Fault Refusal := .next s.pinReset
def execCommandWrite (service : Bool) (bytes : List Byte) (s : State) : Host.Outcome State Fault Refusal :=
  s.running (takeCommandWrite service bytes)
def execResponseRead (n : Nat) (s : State) : Host.Outcome State Fault Refusal := s.running (takeResponseRead n)
def execStatusRead (n : Nat) (s : State) : Host.Outcome State Fault Refusal := s.running (takeStatusRead n)
def execUnknownTransaction (first : Byte) (n : Nat) (s : State) : Host.Outcome State Fault Refusal :=
  s.running (takeUnknownTransaction first n)
def execAttnRead (s : State) : Host.Outcome State Fault Refusal := s.running takeAttnRead
def execAttnMask (kinds : BitVec 16) (s : State) : Host.Outcome State Fault Refusal := s.running (takeAttnMask kinds)
def execPartReset (tag : Byte) (s : State) : Host.Outcome State Fault Refusal := s.running (takePartReset tag)
def execPartResetComplete (s : State) : Host.Outcome State Fault Refusal := s.running takePartResetComplete
def execResetNRelease (s : State) : Host.Outcome State Fault Refusal := .next s.releaseReset

end Sys2Proof.Machine
end

