-- ==== Sys2Proof/Machine/Dispatch.lean ====
section
/-! DEFINITION. One arm per command: each is one direct call of the meaning of its row of spec/opcode_table.json. -/

namespace Sys2Proof.Machine

def exec (i : Instr) (s : State) : Host.Outcome State Fault Refusal :=
  match i with
  | .pinReset => Sys2Proof.Machine.execPinReset s
  | .commandWrite service bytes => Sys2Proof.Machine.execCommandWrite service bytes s
  | .responseRead n => Sys2Proof.Machine.execResponseRead n s
  | .statusRead n => Sys2Proof.Machine.execStatusRead n s
  | .unknownTransaction first n => Sys2Proof.Machine.execUnknownTransaction first n s
  | .lineConfig args => Sys2Proof.Machine.execLineConfig args s
  | .lineSet args => Sys2Proof.Machine.execLineSet args s
  | .lineHold line => Sys2Proof.Machine.execLineHold line s
  | .lineRelease line => Sys2Proof.Machine.execLineRelease line s
  | .linePrime line => Sys2Proof.Machine.execLinePrime line s
  | .lineRetire line => Sys2Proof.Machine.execLineRetire line s
  | .lineRead line => Sys2Proof.Machine.execLineRead line s
  | .portionSet args => Sys2Proof.Machine.execPortionSet args s
  | .calLock => Sys2Proof.Machine.execCalLock s
  | .calUnlock service => Sys2Proof.Machine.execCalUnlock service s
  | .pourAbort line => Sys2Proof.Machine.execPourAbort line s
  | .pourRead line => Sys2Proof.Machine.execPourRead line s
  | .trunkDraw trunk limit => Sys2Proof.Machine.execTrunkDraw trunk limit s
  | .partSet args => Sys2Proof.Machine.execPartSet args s
  | .kegEnrol args => Sys2Proof.Machine.execKegEnrol args s
  | .kegCheck line position => Sys2Proof.Machine.execKegCheck line position s
  | .kegConfirm line position verdict => Sys2Proof.Machine.execKegConfirm line position verdict s
  | .kegRetire line position => Sys2Proof.Machine.execKegRetire line position s
  | .kegRead line position => Sys2Proof.Machine.execKegRead line position s
  | .kegFind tag => Sys2Proof.Machine.execKegFind tag s
  | .accountOpen id float credit => Sys2Proof.Machine.execAccountOpen id float credit s
  | .accountCredit id amount => Sys2Proof.Machine.execAccountCredit id amount s
  | .accountFloat id float => Sys2Proof.Machine.execAccountFloat id float s
  | .accountClose id => Sys2Proof.Machine.execAccountClose id s
  | .accountRead selector key page => Sys2Proof.Machine.execAccountRead selector key page s
  | .loopSet loop slots => Sys2Proof.Machine.execLoopSet loop slots s
  | .loopStart loop => Sys2Proof.Machine.execLoopStart loop s
  | .loopStop loop => Sys2Proof.Machine.execLoopStop loop s
  | .loopReset loop => Sys2Proof.Machine.execLoopReset loop s
  | .loopRead loop page => Sys2Proof.Machine.execLoopRead loop page s
  | .scanSet resolution mask => Sys2Proof.Machine.execScanSet resolution mask s
  | .channelSet input role base span => Sys2Proof.Machine.execChannelSet input role base span s
  | .scanStart => Sys2Proof.Machine.execScanStart s
  | .scanStop => Sys2Proof.Machine.execScanStop s
  | .trunkClimate args => Sys2Proof.Machine.execTrunkClimate args s
  | .chillerSet args => Sys2Proof.Machine.execChillerSet args s
  | .boost offset cycles => Sys2Proof.Machine.execBoost offset cycles s
  | .climateRead page => Sys2Proof.Machine.execClimateRead page s
  | .recipeSet args => Sys2Proof.Machine.execRecipeSet args s
  | .cleanSet groupSize pumpMin => Sys2Proof.Machine.execCleanSet groupSize pumpMin s
  | .cleanSubmit lines recipe => Sys2Proof.Machine.execCleanSubmit lines recipe s
  | .cleanAbort lines => Sys2Proof.Machine.execCleanAbort lines s
  | .cleanHalt => Sys2Proof.Machine.execCleanHalt s
  | .cleanRead page => Sys2Proof.Machine.execCleanRead page s
  | .timebaseSet channel period margin => Sys2Proof.Machine.execTimebaseSet channel period margin s
  | .timebaseSync mask => Sys2Proof.Machine.execTimebaseSync mask s
  | .valveClear => Sys2Proof.Machine.execValveClear s
  | .valveRead page => Sys2Proof.Machine.execValveRead page s
  | .attnRead => Sys2Proof.Machine.execAttnRead s
  | .attnMask kinds => Sys2Proof.Machine.execAttnMask kinds s
  | .partReset tag => Sys2Proof.Machine.execPartReset tag s
  | .partResetComplete => Sys2Proof.Machine.execPartResetComplete s
  | .frameSync loop => Sys2Proof.Machine.execFrameSync loop s
  | .slotEnd loop slot word => Sys2Proof.Machine.execSlotEnd loop slot word s
  | .faucetLost loop slot => Sys2Proof.Machine.execFaucetLost loop slot s
  | .pourOvertime line => Sys2Proof.Machine.execPourOvertime line s
  | .lowFlowBlockEnd line => Sys2Proof.Machine.execLowFlowBlockEnd line s
  | .waitTimeout line => Sys2Proof.Machine.execWaitTimeout line s
  | .promotion trunk => Sys2Proof.Machine.execPromotion trunk s
  | .tailQuietSettle line => Sys2Proof.Machine.execTailQuietSettle line s
  | .tailWindow line => Sys2Proof.Machine.execTailWindow line s
  | .couplerReadStart => Sys2Proof.Machine.execCouplerReadStart s
  | .couplerCopyRead status block => Sys2Proof.Machine.execCouplerCopyRead status block s
  | .conversionComplete code => Sys2Proof.Machine.execConversionComplete code s
  | .probeFailed input => Sys2Proof.Machine.execProbeFailed input s
  | .timebasePeriodEvent channel => Sys2Proof.Machine.execTimebasePeriodEvent channel s
  | .timebaseMarginEvent channel => Sys2Proof.Machine.execTimebaseMarginEvent channel s
  | .cycleStart => Sys2Proof.Machine.execCycleStart s
  | .boostEnd => Sys2Proof.Machine.execBoostEnd s
  | .stageSwitch second => Sys2Proof.Machine.execStageSwitch second s
  | .pumpFlowPulse => Sys2Proof.Machine.execPumpFlowPulse s
  | .pumpFault => Sys2Proof.Machine.execPumpFault s
  | .phaseTimeout => Sys2Proof.Machine.execPhaseTimeout s
  | .soakEnd => Sys2Proof.Machine.execSoakEnd s
  | .groupFormation => Sys2Proof.Machine.execGroupFormation s
  | .groupRelease => Sys2Proof.Machine.execGroupRelease s
  | .chainShiftStart => Sys2Proof.Machine.execChainShiftStart s
  | .chainShiftEnd echo => Sys2Proof.Machine.execChainShiftEnd echo s
  | .resetNRelease => Sys2Proof.Machine.execResetNRelease s

end Sys2Proof.Machine
end

