-- ==== Sys2Proof/Safety.lean ====
section
/-! DEFINITION. What counts as a sound state of the KD32: the relations that the manual says every record keeps, each over
one block's records. Every one is decidable on a concrete state. -/

namespace Sys2Proof.Machine

/-! ### Tables -/

/-- Two tables agree but for the record at one index. -/
abbrev SameBut {α : Type} {n : Nat} (v w : Vector α n) (i : Fin n) : Prop := ∀ j, j ≠ i → look w j = look v j

/-! ### Requests to the valves -/

/-- Two members of a pair as a group's next pattern has them, every other bit and both other patterns as before. -/
abbrev AskedPair (s t : State) (g : ValveGroup) (b c : Fin 8) (vb vc : Bool) : Prop :=
  t.valve g = { s.valve g with next := (t.valve g).next } ∧
  (t.valve g).next.getLsbD b.val = vb ∧ (t.valve g).next.getLsbD c.val = vc ∧
  ∀ d : Fin 8, d ≠ b → d ≠ c → (t.valve g).next.getLsbD d.val = (s.valve g).next.getLsbD d.val

/-- The product and cleaning valves of a line as they are asked (R14). -/
abbrev AskedLine (s t : State) (l : Line) (product cleaning : Bool) : Prop :=
  AskedPair s t (lineGroup l) (lineBit l) (lineBit' l) product cleaning

/-- The selectors of a line as they are asked (R70). -/
abbrev AskedSelectors (s t : State) (l : Line) (a b : Bool) : Prop :=
  AskedPair s t (selectorGroup l) (lineBit l) (lineBit' l) a b

/-- A keg that leaves ON_TAP at a position is changed over: an eligible keg across, and the chain fault clear (R84). -/
def State.changesOver (s : State) (l : Line) (p : Position) : Bool := s.eligible l p.other && !s.valves.fault

/-- What a keg's leaving ON_TAP at a position does to its line, on a line in PRIMING or READY or HELD from one of them: the
keg across goes ON_TAP with its selector asked open and the line record takes its position, or the line goes DRY (a HELD
line's held_from does) with its valves asked as in DRY and the selector asked closed (R84, R8, R14, R70). -/
abbrev ChangedOver (s t : State) (l : Line) (p : Position) : Prop :=
  SameBut s.lineTable.lines t.lineTable.lines l ∧
  (∀ g : ValveGroup, g ≠ lineGroup l → g ≠ selectorGroup l → t.valve g = s.valve g) ∧
  if s.changesOver l p = true then
    t.keg l p.other = (s.keg l p.other).map (fun k => { k with state := .onTap }) ∧
    t.line l = { s.line l with lastKeg := some p.other } ∧
    t.valve (lineGroup l) = s.valve (lineGroup l) ∧
    AskedSelectors s t l (p == .B) (p == .A)
  else
    t.keg l p.other = s.keg l p.other ∧
    t.line l = (if (s.line l).mode = .held then { s.line l with heldFrom := some .dry, primed := none }
      else { s.line l with mode := .dry, primed := none }) ∧
    AskedLine s t l true false ∧
    AskedSelectors s t l (p == .B && (s.valve (selectorGroup l)).next.getLsbD (lineBit l).val)
      (p == .A && (s.valve (selectorGroup l)).next.getLsbD (lineBit' l).val)

/-- A keg after an addition of four amounts: the buckets take them in the order billed, unbilled, house, loss, each within the
headroom of drawn that is left (R69). -/
def KegRec.withShares (k : KegRec) (billed unbilled house loss : Nat) : KegRec :=
  { k with
    billed := k.billed + min billed (maxTotal - k.drawn)
    unbilled := k.unbilled + min unbilled (maxTotal - k.drawn - billed)
    house := k.house + min house (maxTotal - k.drawn - billed - unbilled)
    loss := k.loss + min loss (maxTotal - k.drawn - billed - unbilled - house)
    drawn := k.drawn + min (billed + unbilled + house + loss) (maxTotal - k.drawn) }

/-! ### Words of a loop -/

/-- What runs when slot `k` of a loop has ended: the next slot of the frame, or none after the last (R108). -/
abbrev NextSlot (r : LoopRec) (k : Slot) (next : Option Slot) : Prop :=
  r.slotCount ≤ k.val + 1 ∧ next = none ∨ ∃ m : Slot, next = some m ∧ m.val = k.val + 1 ∧ m.val < r.slotCount

/-- The end of the slot in progress of a RUNNING loop brings its bound line a good new word: its effective code and its
pulses (R108, R110, R111, R24). -/
abbrev State.Hears (s : State) (b : Binding) (word : SlotWord) (l : Line) (r : RecvState) (c : LineCfg) (next : Option Slot)
    (code : BitVec 3) (d : Nat) : Prop :=
  s.resetHeld = false ∧ (s.loop b.loop).state ≠ .stopped ∧ (s.loop b.loop).slot = some b.slot ∧
  NextSlot (s.loop b.loop) b.slot next ∧ s.bound b = some l ∧ s.recv b = some r ∧ (s.line l).cfg = some c ∧
  word.extractLsb' 0 8 = ~~~(word.extractLsb' 16 8 ^^^ word.extractLsb' 8 8) ∧
  r.lastSeq ≠ some (word.extractLsb' 8 3) ∧
  code = (if word.getLsbD 11 then 6#3 else word.extractLsb' 12 3) ∧
  d = (if word.getLsbD 15 then 255 else (word.extractLsb' 16 8).toNat)

/-- What an arrival leaves in the loops: the next slot in progress and the receive state with the word's sequence and
effective code, and nothing else (R108, R111, R114). -/
abbrev Heard (s t : State) (b : Binding) (word : SlotWord) (code : BitVec 3) (next : Option Slot) : Prop :=
  t.recv b = some { missRun := 0, lost := false, lastSeq := some (word.extractLsb' 8 3), code := some code } ∧
  (∀ e : Binding, e ≠ b → t.recv e = s.recv e) ∧
  t.loop b.loop = { s.loop b.loop with slot := next, recv := (t.loop b.loop).recv } ∧
  ∀ j : LoopId, j ≠ b.loop → t.loop j = s.loop j

/-- A word that asks for a pour: effective code 1 to 5 or 7 after an accepted NONE (R38). -/
abbrev Asks (r : RecvState) (code : BitVec 3) : Prop := code ≠ 0#3 ∧ code ≠ 6#3 ∧ r.code = some 0#3

/-- The refusal that the first two checks of admission show for a request on a line in a mode, PRIME on a WATER line apart:
by the mode, then CLEAN_PENDING for a queued line (R41, R43). `before` is what the faucet showed. -/
def Mode.refusal (m : Mode) (prime queued : Bool) (before : Option RefusalReason) : Option RefusalReason :=
  match m, prime with
  | .held, _ => some .held
  | .cleaning, _ => some .cleaning
  | .ready, false => if queued then some .cleanPending else before
  | .priming, true => if queued then some .cleanPending else before
  | _, _ => some .notReady

/-- What a request with a code latches from a line's configuration: its kind, its target in nL and its hold in mL; `primed` is
the volume primed before it (R26, R32, R41). -/
abbrev State.Latches (s : State) (c : LineCfg) (primed : Nat) (code : BitVec 3) (kind : PourKind) (target hold : Nat) : Prop :=
  (∃ m : Fin 4, ∃ size : Nat, code.toNat = m.val + 1 ∧ kind = .portion m ∧
    size = (look s.lineTable.portions c.portionSet).size m ∧ target = size * 1000000 ∧
    hold = if c.account = 0 then 0 else size + (size + 15) / 16) ∨
  (code = 5#3 ∧ kind = .free ∧ target = (look s.lineTable.portions c.portionSet).cap * 1000000 ∧
    hold = if c.account = 0 then 0 else (look s.lineTable.portions c.portionSet).cap) ∨
  (code = 7#3 ∧ kind = .prime ∧ hold = 0 ∧
    target = max 1 (min 2000 ((c.fill * c.primePercent + 99) / 100 - primed)) * 1000000)

/-- The loop record and the receive states as a LOOP_RESET leaves them (R117). -/
abbrev LoopCleared (s t : State) (i : LoopId) : Prop :=
  (t.loop i).state = .stopped ∧ (t.loop i).slotCount = (s.loop i).slotCount ∧ (t.loop i).frames = 0 ∧
  (t.loop i).checkErrors = 0 ∧ (t.loop i).stales = 0 ∧
  (∀ k : Slot, look (t.loop i).latched k = none ∧
    look (t.loop i).recv k = (look (s.loop i).recv k).map fun _ => ⟨0, false, none, none⟩) ∧
  ∀ j : LoopId, j ≠ i → t.loop j = s.loop j

/-! ### The climate of a window -/

/-- The duty that window 0 fixes for a trunk (R131). -/
def State.dutyDue (s : State) (t : Trunk) : Nat :=
  if (s.zone t).override = true then 0
  else match (s.climate.gateValue t).2 with
    | none => (s.zone t).bias
    | some g => (max 0 (min 16 ((g - ((s.zone t).setpoint - (s.climate.boost.map Boost.offset).getD 0)) *
        (s.zone t).gain / 16 + (s.zone t).bias))).toNat

/-- One of the two stages of the chiller. -/
def Chiller.stage (c : Chiller) (second : Bool) : Stage := if second then c.stage2 else c.stage1

/-- A stage is wanted on: by the bath and the stage's own state, by a failed bath probe for stage 1, and by a surge for stage 2
(R135). -/
abbrev State.Wants (s : State) (second : Bool) : Prop :=
  match s.climate.reading .bath, second with
  | some f, false =>
    if s.climate.chiller.stage1.on then s.climate.chiller.sp < f else s.climate.chiller.sp + s.climate.chiller.h1 < f
  | some f, true =>
    (if s.climate.chiller.stage2.on then s.climate.chiller.sp + s.climate.chiller.h1 < f
      else s.climate.chiller.sp + s.climate.chiller.h2 < f) ∨
    (0 < s.climate.chiller.surge ∧ s.climate.chiller.surge ≤ s.partPouring)
  | none, false => (∃ i, (s.input i).role = .bath) ∧ (s.role 12).failed = true
  | none, true => 0 < s.climate.chiller.surge ∧ s.climate.chiller.surge ≤ s.partPouring

/-- A stage switches where it is wanted otherwise than it stands and its run count has reached the minimum, and counts from 0
then (R136). -/
def Chiller.switched (c : Chiller) (x : Stage) (wanted : Bool) : Stage :=
  if x.on ≠ wanted ∧ (if wanted then c.minOff else c.minOn) ≤ x.run then ⟨wanted, 0⟩ else x

/-! ### The active group -/

/-- The group lines as a metered run starts: a line that takes part owes its fill times the percentage, rounded up (R146). -/
def State.owing (s : State) (percent : Nat) (xs : List GroupLine) : List GroupLine :=
  xs.map fun x => { x with
    owed := if x.result.takesPart then (s.fillOf x.line * percent + 99) / 100 else x.owed
    delivered := if x.result.takesPart then 0 else x.delivered }

/-- The five skid bits of VG17 as they are asked, and every other group as before (R145). -/
abbrev AskedSkid (s t : State) (skid : Pattern) : Prop :=
  (t.valve 17).next &&& 0x1F#8 = skid ∧ (∀ g : ValveGroup, t.valve g = { s.valve g with next := (t.valve g).next }) ∧
  SameBut s.valves.groups t.valves.groups 17

/-- The purge loss of the group lines that held product, on their lines and on their last product kegs, charged once (R150,
R88, R69). -/
abbrev LossCharged (s t : State) (g : Group) : Prop :=
  (∀ x ∈ g.lines, ∀ c ∈ (s.line x.line).cfg, g.lossReported = false → x.heldProduct = true →
    t.line x.line = { s.line x.line with
      totals := { (s.line x.line).totals with loss := satAdd (s.line x.line).totals.loss c.fill } } ∧
    (t.kegSlots x.line).lastEnrol = (s.kegSlots x.line).lastEnrol ∧
    ∀ o : Position, t.keg x.line o = (s.keg x.line o).map fun k =>
      if (s.line x.line).lastKeg = some o ∧ k.state ≠ .verifying then k.withShares 0 0 0 c.fill else k) ∧
  (∀ x ∈ g.lines, g.lossReported = true ∨ x.heldProduct = false →
    t.line x.line = s.line x.line ∧ t.kegSlots x.line = s.kegSlots x.line) ∧
  ∀ l : Line, (∀ x ∈ g.lines, x.line ≠ l) → t.line l = s.line l ∧ t.kegSlots l = s.kegSlots l

/-- How the end of a metered run in which some line `z` of `ls` still takes part leaves the group `h`, its skid, its purge loss
and its overrides: PURGE goes to CAUSTIC, CAUSTIC by the strength of the solution to SOAK, to its second run or to RINSE, and
RINSE to VERIFY (R150, R151, R152, R153). The low-pump run of SOAK and VERIFY starts at 0 by log entry 24. -/
abbrev RunEnds (s t : State) (g : Group) (ls : List GroupLine) (h : Group) : Prop :=
  (g.phase = .purge → AskedSkid s t 0x15#8 ∧ h = { g with
    phase := .caustic, run := 1, steps := 0, lowPump := 0, heater := false, lossReported := true
    lines := s.owing g.recipe.caustic ls }) ∧
  (g.phase = .rinse → AskedSkid s t 0x10#8 ∧
    h = { g with phase := .verify, steps := 0, lowPump := 0, heater := false, lines := ls }) ∧
  (∀ strong : Prop, g.phase = .caustic →
    (strong ↔ ∃ f : Int, s.climate.reading .solutionCond = some f ∧ (g.recipe.condMin : Int) ≤ f) →
    (strong → h = { g with
        phase := .soak, run := 1, steps := 0, lowPump := 0, heater := h.heater, lines := ls } ∧
      (h.heater = true ↔ g.recipe.warm = true ∧
        ∃ f : Int, s.climate.reading .solutionTemp = some f ∧ f < g.recipe.target - 16) ∧
      (t.valve 17).next &&& 0x1F#8 = (if h.heater then 0x18#8 else 0x10#8) ∧
      (g.recipe.warm = true → ∀ z ∈ ls, ∀ c : LineCfg, (s.line z.line).cfg = some c →
        (t.zone c.trunk).override = true ∧ (t.valve 16).next.getLsbD c.trunk.val = false) ∧
      (g.recipe.warm = false → t.climate = s.climate ∧ t.valve 16 = s.valve 16)) ∧
    (¬strong → g.run = 1 → AskedSkid s t 0x15#8 ∧ t.climate = s.climate ∧ h = { g with
      phase := .caustic, run := 2, steps := 0, lowPump := 0, heater := false
      lines := s.owing g.recipe.caustic ls }) ∧
    (¬strong → g.run ≠ 1 → AskedSkid s t 0x13#8 ∧ t.climate = s.climate ∧ h = { g with
      phase := .rinse, run := 1, steps := 0, lowPump := 0, heater := false
      lines := s.owing g.recipe.rinse (ls.map fun z => { z with
        result := if z.result = .pending ∨ z.result = .aborted then .failWeak else z.result }) })) ∧
  (g.phase ≠ .purge → t.lineTable = s.lineTable ∧ t.kegRegister = s.kegRegister) ∧
  (g.phase ≠ .caustic → t.climate = s.climate)

/-! ### Stand accounts -/

/-- The balance and the floor of one account record (R93). -/
abbrev Account.sound (a : Account) : Prop :=
  a.credited = a.available + a.held + a.spent ∧ -(a.float : Int) ≤ a.available

/-- Balance and floor of every account record (R93). -/
abbrev State.accountsSound (s : State) : Prop := ∀ i : AccountIx, ∀ a ∈ s.account i, a.sound

/-- What the pour of a line holds on an account, in mL. -/
def State.holdOn (s : State) (id : Nat) (l : Line) : Nat :=
  match (s.pour l).record.heldOn with
  | some (k, h) => if k = id then h else 0
  | none => 0

/-- Whether the pour of a line holds on an account. -/
def State.holdsOn (s : State) (id : Nat) (l : Line) : Bool := (s.pour l).record.heldOn.any fun x => x.1 == id

/-- Each account ID is held by at most one record (R92), held and the hold count of every record are those of the pours
in flight that charge it (R100), a CLOSED record has no holds (R101), and the account of every holding pour exists. -/
abbrev State.holdsMatch (s : State) : Prop :=
  (∀ i j : AccountIx, ∀ a ∈ s.account i, ∀ b ∈ s.account j, a.id = b.id → i = j) ∧
  (∀ i : AccountIx, ∀ a ∈ s.account i,
    a.held = (((indices 32).map (s.holdOn a.id)).sum : Nat) ∧ a.holds = (indices 32).countP (s.holdsOn a.id) ∧
    (a.state = .closed → a.holds = 0)) ∧
  (∀ l : Line, ∀ x ∈ (s.pour l).record.heldOn, ∃ i : AccountIx, ∃ a ∈ s.account i, a.id = x.1)

/-! ### Kegs -/

/-- drawn is the sum of the four buckets and stays within its width (R69). -/
abbrev KegRec.sound (k : KegRec) : Prop :=
  k.drawn = k.billed + k.unbilled + k.house + k.loss ∧ k.drawn ≤ maxTotal

/-- Every keg record is sound (R69), no two share a tag (R72), and the Coupler Read Queue has at most 8 entries, at most one
for each position, with its head in progress (R73). -/
abbrev State.kegsSound (s : State) : Prop :=
  (∀ l : Line, (∀ k ∈ s.keg l .A, k.sound) ∧ (∀ k ∈ s.keg l .B, k.sound)) ∧
  (∀ l m : Line, (∀ k ∈ s.keg l .A, ∀ k' ∈ s.keg m .B, k.tag ≠ k'.tag) ∧
    (l ≠ m → (∀ k ∈ s.keg l .A, ∀ k' ∈ s.keg m .A, k.tag ≠ k'.tag) ∧
      (∀ k ∈ s.keg l .B, ∀ k' ∈ s.keg m .B, k.tag ≠ k'.tag))) ∧
  s.kegRegister.queue.length ≤ 8 ∧
  (s.kegRegister.queue.map fun e => (e.line, e.position)).Nodup ∧
  (s.kegRegister.bus = none ↔ s.kegRegister.queue = [])

/-! ### Lines -/

/-- The modes a line may be held from (section 1.1). -/
def Mode.holdable : Mode → Bool
  | .priming => true
  | .ready => true
  | .dry => true
  | .water => true
  | _ => false

/-- The mode of a line, or the mode a HELD line returns to. -/
def LineRec.under (r : LineRec) : Mode :=
  match r.mode, r.heldFrom with
  | .held, some m => m
  | m, _ => m

/-- The presence column of section 1.1, and the range of T (R31). -/
abbrev LineRec.sound (r : LineRec) : Prop :=
  (r.mode = .offline ↔ r.cfg = none) ∧ (r.mode = .held ↔ r.heldFrom.isSome = true) ∧
  (∀ m ∈ r.heldFrom, m.holdable = true) ∧ (r.primed.isSome = true ↔ r.under = .priming) ∧
  (∀ c ∈ r.cfg, c.tail ≤ 40000000)

/-- The binding map names exactly the slots of the configured lines, each below its loop's slot count, and the bound slots
are those with a receive state (section 1.9, R15, R106, R115). -/
abbrev State.mapSound (s : State) : Prop :=
  (∀ l : Line, ∀ c ∈ (s.line l).cfg, s.bound c.binding = some l ∧
    c.binding.slot.val < (s.loop c.binding.loop).slotCount) ∧
  (∀ k : Slot, (∀ l ∈ s.bound ⟨.A, k⟩, (s.line l).cfg.map LineCfg.binding = some ⟨.A, k⟩) ∧
    (∀ l ∈ s.bound ⟨.B, k⟩, (s.line l).cfg.map LineCfg.binding = some ⟨.B, k⟩) ∧
    ((s.recv ⟨.A, k⟩).isSome = (s.bound ⟨.A, k⟩).isSome) ∧ ((s.recv ⟨.B, k⟩).isSome = (s.bound ⟨.B, k⟩).isSome))

/-- Every line record is sound, and so is the binding map. -/
abbrev State.linesSound (s : State) : Prop := (∀ l : Line, (s.line l).sound) ∧ s.mapSound

/-- The keg at a position is ON_TAP. -/
def State.tapped (s : State) (l : Line) (p : Position) : Bool := (s.keg l p).any fun k => k.state == .onTap

/-- Whether the entry of the Coupler Read Queue at a place will have its outcome applied: every entry but a head that carries
the discard mark (R76). -/
def KegRegister.live (k : KegRegister) (i : Nat) : Bool :=
  match i, k.bus with
  | 0, some t => !t.discard
  | _, _ => true

/-- Exactly one keg is ON_TAP on a line in PRIMING or READY, or HELD from one of them, and none on any other line (R70); a
live entry of the Coupler Read Queue has its record, VERIFYING for an ENROL entry alone (R73, R81); a discarded head has
none. -/
abbrev State.tapsSound (s : State) : Prop :=
  (∀ l : Line, ¬(s.tapped l .A = true ∧ s.tapped l .B = true) ∧
    ((s.tapped l .A = true ∨ s.tapped l .B = true) ↔ (s.line l).under = .priming ∨ (s.line l).under = .ready)) ∧
  (∀ i : Fin s.kegRegister.queue.length,
    if s.kegRegister.live i.val then
      (s.keg s.kegRegister.queue[i].line s.kegRegister.queue[i].position).any (fun k =>
        (k.state == .verifying) == (s.kegRegister.queue[i].purpose == .enrol)) = true
    else s.keg s.kegRegister.queue[i].line s.kegRegister.queue[i].position = none)

/-! ### Queues -/

/-- Each wait queue has at most 8 entries, each once, the WAITING lines of its trunk; every WAITING line is in the queue of its
own trunk, in READY or PRIMING or HELD from one of them (R48, R41); and the Cleaning Queue holds each line at most once and
never a line in CLEANING or OFFLINE (R142). -/
abbrev State.queuesSound (s : State) : Prop :=
  (∀ t : Trunk, (s.trunk t).queue.length ≤ 8 ∧ (s.trunk t).queue.Nodup ∧
    ∀ l ∈ (s.trunk t).queue, (s.pour l).record.code = 1 ∧ (s.line l).inTrunk t = true) ∧
  (∀ l : Line, (s.pour l).record.code = 1 →
    ((s.line l).cfg.any fun c => (s.trunk c.trunk).queue.contains l) = true ∧
    ((s.line l).under = .ready ∨ (s.line l).under = .priming)) ∧
  (s.cleaning.queue.map CleanEntry.line).Nodup ∧
  (∀ e ∈ s.cleaning.queue, (s.line e.line).mode ≠ .cleaning ∧ (s.line e.line).mode ≠ .offline)

/-! ### Valves -/

/-- No pair of a group has both members on in a pattern (R165). -/
abbrev pairSafe (g : ValveGroup) (p : Pattern) : Prop :=
  ∀ b : Fin 8, ∀ c ∈ partner g b, ¬(p.getLsbD b.val = true ∧ p.getLsbD c.val = true)

/-- The patterns of one group: no pair both on, and while turn-ons are pending nothing is on that the snapshot has off, so
that phase 2 turns on no partner of a bit that is still on (R165 to R167). -/
abbrev GroupPatterns.sound (g : ValveGroup) (x : GroupPatterns) : Prop :=
  pairSafe g x.next ∧ pairSafe g x.snapshot ∧ pairSafe g x.current ∧
  (x.turnOn = true → x.current &&& ~~~x.snapshot = 0#8)

/-- Every group is sound, VG16 never has turn-ons pending, and bits 5 to 7 of VG17 stay clear (section 9.2, R165). -/
abbrev State.valvesSound (s : State) : Prop :=
  (∀ g : ValveGroup, (s.valve g).sound g) ∧ (s.valve 16).turnOn = false ∧
  (s.valve 17).next &&& 0xE0#8 = 0#8 ∧ (s.valve 17).snapshot &&& 0xE0#8 = 0#8 ∧ (s.valve 17).current &&& 0xE0#8 = 0#8

/-! ### Timebase and climate -/

/-- The ranges of a timebase channel (section 9.1). -/
abbrev TimeChannel.sound (c : TimeChannel) : Prop :=
  2 ≤ c.period ∧ c.period ≤ 65535 ∧ 1 ≤ c.margin ∧ c.margin < c.period ∧ c.counter < c.period ∧
  (∀ x ∈ c.pending, 2 ≤ x.1 ∧ x.1 ≤ 65535 ∧ 1 ≤ x.2 ∧ x.2 < x.1)

/-- A loop record's slot count, and the slot in progress: none in STOPPED, and below the slot count (R105, R106, R108). -/
abbrev LoopRec.sound (r : LoopRec) : Prop :=
  2 ≤ r.slotCount ∧ r.slotCount ≤ 24 ∧ (r.state = .stopped → r.slot = none) ∧ ∀ k ∈ r.slot, k.val < r.slotCount

/-- The ranges of the timebase and of Cellar Climate that their readers rely on: the channels and the pump counts (R161,
R164), the window and the zones (sections 7.1 and 7.5, R129), the boost (R137), and a role on at most one input; and the
two loop records. -/
abbrev State.clocksSound (s : State) : Prop :=
  (∀ c : Channel, (s.channel c).sound) ∧ s.timebase.pump ≤ 65535 ∧ s.timebase.latchedPump ≤ 65535 ∧
  s.climate.window < 16 ∧
  (∀ t : Trunk, (s.zone t).duty ≤ 16 ∧ (s.zone t).bias ≤ 16 ∧ (s.zone t).warn ≤ (s.zone t).stop) ∧
  (∀ b ∈ s.climate.boost, 1 ≤ b.offset ∧ b.offset ≤ 64 ∧ 1 ≤ b.remaining ∧ b.remaining ≤ 255) ∧
  (∀ i j : SenseInput, i ≠ j → (s.input i).role = (s.input j).role → (s.input i).role = .unused) ∧
  (s.loop .A).sound ∧ (s.loop .B).sound

/-! ### All of it -/

/-- A sound state: what every state of a run from reset is to be. -/
abbrev State.sound (s : State) : Prop :=
  s.accountsSound ∧ s.holdsMatch ∧ s.kegsSound ∧ s.linesSound ∧ s.tapsSound ∧ s.queuesSound ∧ s.valvesSound ∧
  s.clocksSound

end Sys2Proof.Machine
end

