-- ==== Sys2Proof/Certificates/Slice0/Obligations.lean ====
section
/-! DEFINITION. The statements for the provers, chapter by chapter. A statement about an accepted command gives the next state
as the records it writes and, in its last clause, everything it leaves; `u.follow` is the promotion, group release and group
formation that a command may be followed by (when it is taken is the model's reading, log entry 12), and
`FollowChangesOnlyWhatFollows` says what that can do. -/

open Sys2Proof Sys2Proof.Machine

/-! ### The queue of commands -/

/-- One step takes the command at the front of the queue (the model's own queue, log entry 1). -/
def Obligations.StepTakesTheFrontCommand : Prop :=
  ∀ (c : Instr) (rest : List Instr) (s : State),
    step { s with pending := c :: rest } = exec c { s with pending := rest }

/-- No command stops the part or touches the queue (the model's own, log entry 1), and a part held in reset takes none but the two of
RESET_N (the model's choice, log entry 3). -/
def Obligations.EveryCommandAnswersANextState : Prop :=
  ∀ (i : Instr) (s : State),
    (∃ t : State, exec i s = .next t ∧ t.pending = s.pending) ∧
    (s.resetHeld = true → i ≠ .pinReset → i ≠ .resetNRelease → exec i s = .next s)

/-- What follows a command writes pour records, wait queues, line records, kegs, the cleaning group and queue, next patterns
and attention only; with nothing to promote, release or form it does nothing (R48, R155, R143). That these are considered at the end of a command is the
model's reading (log entry 12). -/
def Obligations.FollowChangesOnlyWhatFollows : Prop :=
  ∀ s : State,
    (∃ lines pours trunks kegs queue group groups attention,
      s.follow = { s with
        lineTable := { s.lineTable with lines := lines }
        pourControl := { s.pourControl with pours := pours, trunks := trunks }
        kegRegister := { s.kegRegister with kegs := kegs }
        cleaning := { s.cleaning with queue := queue, group := group }
        valves := { s.valves with groups := groups }
        link := { s.link with attention := attention } } ∧
      (∀ g : ValveGroup, look groups g = { s.valve g with next := (look groups g).next })) ∧
    ((∀ t : Trunk, (s.trunk t).queue = [] ∨ s.mayPromote t = false) →
      (∀ g, s.cleaning.group = some g → g.phase ≠ .release ∨ (g.lines.any fun x => x.draw.isSome) = true) →
      (s.cleaning.group = none → s.valves.fault = true ∨ ∀ e ∈ s.cleaning.queue, s.takeableEntry e = false) →
      s.follow = s)

/-! ### Resets -/

/-- PIN_RESET puts every block at its pin-reset values, and RESET_N_RELEASE starts the timebase and the all-off shift
(R183, R161, R173); that the part stands held in between is the model's choice (log entry 3). -/
def Obligations.PinResetAndReleaseStandAtTheResetValues : Prop :=
  ∀ s : State,
    exec .pinReset s = .next { State.reset with resetHeld := true, pending := s.pending } ∧
    exec .resetNRelease { State.reset with resetHeld := true, pending := s.pending } =
      .next { State.reset with pending := s.pending } ∧
    (s.resetHeld = true → exec .resetNRelease s =
      .next { s with resetHeld := false, timebase := Timebase.reset, valves := Valves.reset }) ∧
    (s.resetHeld = false → exec .resetNRelease s = .next s)

/-- PART_RESET resets every block, keeps the stored K table, the lock, the mask and the latched flags, empties the attention set
and leaves the link EXECUTING; PART_RESET_COMPLETE posts its OK response (R1, R182). That the second changes nothing while the
link is not EXECUTING is the model's choice for an event that cannot occur then (log entry 14), and so is that the blocks are all reset
at the first (log entry 29), and that a PART_RESET taken directly does the same on a link that is not IDLE (log entry 5). -/
def Obligations.PartResetKeepsTheCalibration : Prop :=
  ∀ s : State, s.resetHeld = false →
    (∀ tag : Byte, exec (.partReset tag) s =
      .next { State.reset with
        lineTable := { LineTable.reset with storedK := s.lineTable.storedK, calLock := s.lineTable.calLock }
        link := { s.link with state := .executing tag 0xFF#8, attention := Attention.empty }
        pending := s.pending }) ∧
    (∀ tag code : Byte, s.link.state = .executing tag code → exec .partResetComplete s =
      .next { s with
        answer := some ⟨.ok, []⟩
        link := { s.link with state := .respReady (responseFrame .ok tag code []) } }) ∧
    ((∀ tag code : Byte, s.link.state ≠ .executing tag code) → exec .partResetComplete s = .next s)

/-- The state after reset keeps every relation of the manual and holds the values its chapters give (R1, R36, R68, R91, R105,
R119, R139, R161, R173, R183). -/
def Obligations.ResetStateIsSoundWithTheManualsValues : Prop :=
  State.reset.sound ∧
  (∀ l : Line, State.reset.line l = LineRec.reset ∧ State.reset.pour l = PourSlot.reset ∧
    look State.reset.lineTable.storedK l = 0 ∧ State.reset.kegSlots l = { a := none, b := none, lastEnrol := none }) ∧
  (∀ n : Fin 4, look State.reset.lineTable.portions n = ⟨300, 400, 500, 568, 1000⟩) ∧
  State.reset.lineTable.calLock = false ∧
  (∀ t : Trunk, State.reset.trunk t = { limit := 8, queue := [] }) ∧
  State.reset.timing = ⟨250, 16, 250, 250, 125, 4, 32, 750, 15000, 1500⟩ ∧
  (∀ i : AccountIx, State.reset.account i = none) ∧
  (∀ i : LoopId, (State.reset.loop i).state = .stopped ∧ (State.reset.loop i).slotCount = 16) ∧
  State.reset.climate.window = 15 ∧ State.reset.climate.scanner = ⟨false, 12, 0#16, none⟩ ∧
  State.reset.cleaning.groupSize = 4 ∧ State.reset.cleaning.pumpMin = 10 ∧
  (∀ n : Fin 4, look State.reset.cleaning.recipes n = none) ∧
  (∀ g : ValveGroup, State.reset.valve g = ⟨0#8, 0#8, 0#8, false⟩) ∧ State.reset.valves.shifting = some 0#144 ∧
  (State.reset.channel 0 = ⟨0, 20, 10, none⟩ ∧ State.reset.channel 1 = ⟨0, 1000, 500, none⟩ ∧
    State.reset.channel 2 = ⟨0, 1000, 500, none⟩ ∧ State.reset.channel 3 = ⟨0, 100, 50, none⟩) ∧
  State.reset.link.state = .idle ∧ State.reset.link.mask = BitVec.allOnes 14 ∧
  State.reset.link.attention.kinds = 0#14 ∧ State.reset.link.statusByte = 0#8

/-! ### The Venue Link -/

/-- Every well-formed command of the Venue Link is read back from its code and payload, of the length of its row
(sections 10.6 and 11.2). -/
def Obligations.CommandPayloadsReadBack : Prop :=
  ∀ (i : Instr) (code : Byte) (payload : List Byte), i.wf = true → encodeCommand i = some (code, payload) →
    requestLength code = some payload.length ∧ readCommand i.service i.tag code payload = some i

/-- A good frame on an IDLE link is the command it spells, taken while the link is EXECUTING, and its response is posted with
the frame's tag and code; a PART_RESET stays EXECUTING (R175, R176, R182). -/
def Obligations.CommandFrameCarriesOutItsCommand : Prop :=
  ∀ (s : State) (tag : Byte), s.resetHeld = false → s.link.state = .idle →
    (∀ (i : Instr) (code : Byte) (payload frame : List Byte), i.wf = true → encodeCommand i = some (code, payload) →
      code ≠ 0xFF#8 → frame = closeFrame ([code, tag] ++ byte payload.length ++ payload) →
      ∃ (u : State) (a : Answer), exec i { s with link := { s.link with
          state := .executing tag code, miso := List.replicate frame.length 0#8 } } = .next u ∧
        u.answer = some a ∧
        exec (.commandWrite i.service frame) s = .next { u with link := { u.link with
          state := .respReady (responseFrame a.status tag code a.payload) } }) ∧
    (∀ service : Bool, exec (.commandWrite service (closeFrame [0xFF#8, tag, 0#8])) s =
      exec (.partReset tag) { s with link := { s.link with
        state := .executing tag 0xFF#8, miso := List.replicate 5 0#8 } })

/-- A frame that collides, is bad, has an unknown code or a wrong length reaches no block: COLLISION is set, or the response
says which (R175, R176). -/
def Obligations.DiscardedFramesReachNoBlock : Prop :=
  ∀ (s : State) (service : Bool) (bytes : List Byte), s.resetHeld = false →
    (s.link.state ≠ .idle → exec (.commandWrite service bytes) s =
      .next { s with link := { s.link with collision := true, miso := List.replicate bytes.length 0#8 } }) ∧
    (s.link.state = .idle →
      (bytes.length < 3 ∨ 56 < (bytes.getD 2 0#8).toNat ∨ bytes.length ≠ 5 + (bytes.getD 2 0#8).toNat ∨
        bytes.drop (bytes.length - 2) ≠ bytesBE 2 (crc (bytes.take (bytes.length - 2))).toNat) →
      exec (.commandWrite service bytes) s =
        .next { s with
          answer := some ⟨.frameError, []⟩
          link := { s.link with
            frameBad := true, miso := List.replicate bytes.length 0#8
            state := .respReady (responseFrame .frameError (bytes.getD 1 0#8) (bytes.getD 0 0#8) []) } }) ∧
    (s.link.state = .idle → ∀ (code tag : Byte) (payload : List Byte) (status : Status), payload.length ≤ 56 →
      bytes = closeFrame ([code, tag] ++ byte payload.length ++ payload) →
      (requestLength code = none ∧ status = .unknownCommand ∨
        (∃ n, requestLength code = some n ∧ payload.length ≠ n) ∧ status = .badLength) →
      exec (.commandWrite service bytes) s =
        .next { s with
          answer := some ⟨status, []⟩
          link := { s.link with
            miso := List.replicate bytes.length 0#8
            state := .respReady (responseFrame status tag code []) } })

/-- The first byte of a transaction picks its command, and a partial byte is discarded; what the three transactions beside the command
write send and change, and the bits of the link status byte (R174, R177, R178). That a status read clears its flags however few bytes
follow its first is the model's reading (log entry 30). -/
def Obligations.ResponseAndStatusReadsSendAndClear : Prop :=
  ∀ (s : State) (n : Nat), s.resetHeld = false →
    (∀ frame, s.link.state = .respReady frame → exec (.responseRead n) s =
      .next { s with link := { s.link with
        miso := (frame ++ List.replicate n 0#8).take n
        state := if frame.length ≤ n then .idle else .respReady frame } }) ∧
    ((∀ frame, s.link.state ≠ .respReady frame) → exec (.responseRead n) s =
      .next { s with link := { s.link with miso := (s.link.statusByte :: List.replicate n 0#8).take n } }) ∧
    exec (.statusRead n) s =
      .next { s with link := { s.link with
        miso := (s.link.statusByte :: List.replicate n 0#8).take n, collision := false, frameBad := false } } ∧
    (∀ first : Byte, first ≠ 0x01#8 → first ≠ 0x02#8 → first ≠ 0x03#8 → exec (.unknownTransaction first n) s =
      .next { s with link := { s.link with miso := List.replicate n 0#8, frameBad := true } }) ∧
    (s.link.statusByte.getLsbD 0 = true ↔ ∃ frame, s.link.state = .respReady frame) ∧
    (s.link.statusByte.getLsbD 1 = true ↔ ∃ tag code, s.link.state = .executing tag code) ∧
    s.link.statusByte.getLsbD 2 = s.link.collision ∧ s.link.statusByte.getLsbD 3 = s.link.frameBad ∧
    s.link.statusByte.getLsbD 4 = s.link.attnPending ∧
    (∀ (service : Bool) (first : Byte) (rest : List Byte) (tail : List Bool), tail.length < 8 →
      readTransaction service tail = none ∧
      readTransaction service ((first :: rest).flatMap byteBits ++ tail) = some (
        if first = 0x01#8 then .commandWrite service rest
        else if first = 0x02#8 then .responseRead rest.length
        else if first = 0x03#8 then .statusRead rest.length
        else .unknownTransaction first rest.length))

/-- ATTN_READ returns the attention set and removes it; ATTN_MASK changes the mask, which decides ATTN_N and nothing else, and
refuses a set with a bit at 14 or above (R180, R181). -/
def Obligations.AttentionIsReadWholeAndMaskedOnTheLine : Prop :=
  ∀ s : State, s.resetHeld = false →
    (∃ t : State, exec .attnRead s = .next t ∧ t.link.attnLow = false ∧ t.link.attnPending = false ∧
      t = { s with
        link := { s.link with attention := Attention.empty }
        answer := some ⟨.ok, s.link.attention.payload⟩ }) ∧
    (∀ kinds : BitVec 16, kinds.toNat < 2 ^ 14 →
      ∃ t : State, exec (.attnMask kinds) s = .next t ∧
        t = { s with
          link := { s.link with mask := kinds.setWidth 14 }
          answer := some ⟨.ok, bytesBE 2 kinds.toNat⟩ } ∧
        (t.link.attnLow = true ↔ ∃ k : Fin 14, s.link.attention.kinds.getLsbD k.val = true ∧ kinds.getLsbD k.val = true) ∧
        t.link.attnPending = s.link.attnPending) ∧
    (∀ kinds : BitVec 16, 2 ^ 14 ≤ kinds.toNat →
      exec (.attnMask kinds) s = .next { s with answer := some ⟨.badArg, []⟩ })

/-- A command of the Venue Link answered with a status other than OK changes no state, CLEAN_ABORT apart (section 10.5). -/
def Obligations.RefusedCommandsChangeNothing : Prop :=
  ∀ (i : Instr) (code : Byte) (payload : List Byte) (s t : State) (a : Answer), s.resetHeld = false →
    encodeCommand i = some (code, payload) → (∀ ls, i ≠ .cleanAbort ls) → exec i s = .next t → t.answer = some a →
    a.status ≠ .ok → t = { s with answer := some a }

/-- The read commands answer from the records as they stand and change no state (R17, R66, R89, R90, R104, R118, R138, R160,
R172). The layout of the bytes where the manual leaves it open, and that a page no table names is answered OK with no payload, are
the model's (log entries 8, 18 and 20 to 25). -/
def Obligations.ReadCommandsChangeNothing : Prop :=
  ∀ (s : State) (page : Nat), s.resetHeld = false →
    (∀ l : Line,
      exec (.lineRead l.val) s = .next { s with answer := some ⟨.ok, ((s.line l).payload ++ bytesBE 4 (look s.lineTable.storedK l)) ++ flag s.lineTable.calLock⟩ } ∧
      exec (.pourRead l.val) s = .next { s with answer := some ⟨.ok, s.pourPayload l⟩ } ∧
      (∀ p : Position, exec (.kegRead l.val (positionCode p)) s =
        .next { s with answer := some ⟨.ok, s.kegPayload l p⟩ }) ∧
      (∀ (p : Position) (k : KegRec), s.keg l p = some k →
        (∀ m q k', s.keg m q = some k' → k'.tag = k.tag → m = l ∧ q = p) →
        exec (.kegFind k.tag) s = .next { s with answer := some ⟨.ok, byte l.val ++ byte (positionCode p) ++ byte k.state.code⟩ })) ∧
    (∀ tag : Tag, (∀ m q k, s.keg m q = some k → k.tag ≠ tag) →
      exec (.kegFind tag) s = .next { s with answer := some ⟨.notFound, []⟩ }) ∧
    (∀ i : LoopId, exec (.loopRead (loopCode i) page) s = .next { s with answer := some ⟨.ok, if page = 0 then s.loopPayload i else s.slotPage i page⟩ }) ∧
    (∀ id : Nat, id = 0 ∨ 65535 < id → exec (.accountRead 0 id page) s = .next { s with answer := some ⟨.badArg, []⟩ }) ∧
    (∀ (i : AccountIx) (a : Account), s.account i = some a → 1 ≤ a.id → a.id ≤ 65535 →
      (∀ j b, s.account j = some b → b.id = a.id → j = i) →
      exec (.accountRead 0 a.id page) s = .next { s with answer := some ⟨.ok, s.accountPage i a page⟩ }) ∧
    (∀ id : Nat, 1 ≤ id → id ≤ 65535 → (∀ j b, s.account j = some b → b.id ≠ id) →
      exec (.accountRead 0 id page) s = .next { s with answer := some ⟨.notFound, []⟩ }) ∧
    (∀ n : Nat, 48 ≤ n → exec (.accountRead 1 n page) s = .next { s with answer := some ⟨.badArg, []⟩ }) ∧
    (∀ (i : AccountIx) (a : Account), s.account i = some a →
      exec (.accountRead 1 i.val page) s = .next { s with answer := some ⟨.ok, s.accountPage i a page⟩ }) ∧
    (∀ i : AccountIx, s.account i = none →
      exec (.accountRead 1 i.val page) s = .next { s with answer := some ⟨.notFound, []⟩ }) ∧
    exec (.climateRead page) s = .next { s with answer := some ⟨.ok, s.climatePage page⟩ } ∧
    exec (.cleanRead page) s = .next { s with answer := some ⟨.ok, s.cleanPage page⟩ } ∧
    exec (.valveRead page) s = .next { s with answer := some ⟨.ok, s.valvePage page⟩ }

/-! ### Lines and faucets -/

/-- LINE_CONFIG gives an OFFLINE line its whole configuration, binds its faucet, stores its K and asks its valves (R3, R14, R15,
R20). -/
def Obligations.LineConfigGivesTheWholeRecord : Prop :=
  ∀ (s : State) (a : LineConfigArgs) (l : Line) (trunk : Trunk) (b : Binding) (set : Fin 4) (mode : Mode),
    s.resetHeld = false → a.line = l.val → (s.line l).mode = .offline →
    (a.content = 0 ∧ mode = .water ∨ a.content = 1 ∧ mode = .dry) → 1 ≤ a.product → a.product ≤ 65535 →
    a.trunk = trunk.val → 100 ≤ a.fill → a.fill ≤ 20000 → 20000 ≤ a.k → a.k ≤ 400000 → a.tailSeed ≤ 40000000 →
    a.loop = loopCode b.loop → a.slot = b.slot.val → a.account ≤ 65535 → a.portionSet = set.val →
    (a.primePercent = 0 ∨ 100 ≤ a.primePercent ∧ a.primePercent ≤ 200) →
    b.slot.val < (s.loop b.loop).slotCount → s.bound b = none →
    (s.lineTable.calLock = true → a.k = look s.lineTable.storedK l) →
    ∃ t : State, exec (.lineConfig a) s = .next t ∧
      t.line l = { LineRec.reset with
        mode := mode
        cfg := some {
          product := a.product, trunk := trunk, fill := a.fill, k := a.k, tail := a.tailSeed, binding := b
          account := a.account, portionSet := set
          primePercent := if a.primePercent = 0 then 125 else a.primePercent } } ∧
      SameBut s.lineTable.lines t.lineTable.lines l ∧ t.bound b = some l ∧ t.recv b = some RecvState.fresh ∧
      (∀ c : Binding, c ≠ b → t.bound c = s.bound c ∧ t.recv c = s.recv c) ∧
      look t.lineTable.storedK l = a.k ∧ SameBut s.lineTable.storedK t.lineTable.storedK l ∧
      AskedLine s t l (mode == .dry) false ∧ SameBut s.valves.groups t.valves.groups (lineGroup l) ∧
      t = { s with
        lineTable := { s.lineTable with
          lines := t.lineTable.lines, mapA := t.lineTable.mapA, mapB := t.lineTable.mapB
          storedK := t.lineTable.storedK }
        tapLoops := {
          a := { s.tapLoops.a with recv := t.tapLoops.a.recv }, b := { s.tapLoops.b with recv := t.tapLoops.b.recv } }
        valves := { s.valves with groups := t.valves.groups }
        answer := some ⟨.ok, byte mode.code⟩ }

/-- An accepted LINE_SET writes every selected field and no other, moves a binding with its receive state, and stores a selected
K (R16, R15, R20). That a set selection bit at 9 or above selects nothing and is accepted (log entry 9), and
that the record is answered in the order of LINE_READ (log entry 20) with primed_mL in 4 bytes (log entry 25), are the model's choice. -/
def Obligations.LineSetWritesTheSelectedFields : Prop :=
  ∀ (s : State) (a : LineSetArgs) (l : Line) (c : LineCfg) (trunk : Trunk) (b : Binding) (set : Fin 4),
    s.resetHeld = false → a.line = l.val → (s.line l).mode ≠ .offline → (s.line l).cfg = some c →
    firstFail (s.lineSetChecks l a) = none →
    (if selected a.selection 1 then a.portionSet = set.val else set = c.portionSet) →
    (if selected a.selection 3 then a.trunk = trunk.val else trunk = c.trunk) →
    (if selected a.selection 4 then a.loop = loopCode b.loop ∧ a.slot = b.slot.val else b = c.binding) →
    ∃ t : State, exec (.lineSet a) s = .next t ∧
      t.line l = { s.line l with
        cfg := some {
          product := if selected a.selection 7 then a.product else c.product
          trunk := trunk
          fill := if selected a.selection 5 then a.fill else c.fill
          k := if selected a.selection 6 then a.k else c.k
          tail := if selected a.selection 8 then a.tailReseed else c.tail
          binding := b
          account := if selected a.selection 0 then a.account else c.account
          portionSet := set
          primePercent := if selected a.selection 2 then a.primePercent else c.primePercent } } ∧
      SameBut s.lineTable.lines t.lineTable.lines l ∧
      look t.lineTable.storedK l = (if selected a.selection 6 then a.k else look s.lineTable.storedK l) ∧
      SameBut s.lineTable.storedK t.lineTable.storedK l ∧
      (b = c.binding → (∀ d : Binding, t.bound d = s.bound d ∧ t.recv d = s.recv d)) ∧
      (b ≠ c.binding → t.bound b = some l ∧ t.recv b = some RecvState.fresh ∧ t.bound c.binding = none ∧
        t.recv c.binding = none ∧
        ∀ d : Binding, d ≠ b → d ≠ c.binding → t.bound d = s.bound d ∧ t.recv d = s.recv d) ∧
      t = { s with
        lineTable := { s.lineTable with
          lines := t.lineTable.lines, mapA := t.lineTable.mapA, mapB := t.lineTable.mapB
          storedK := t.lineTable.storedK }
        tapLoops := {
          a := { s.tapLoops.a with recv := t.tapLoops.a.recv }, b := { s.tapLoops.b with recv := t.tapLoops.b.recv } }
        answer := some ⟨.ok, (t.line l).payload⟩ }

/-- LINE_HOLD keeps the mode in held_from and asks no valve, and has group formation considered for a queued line; LINE_RELEASE
returns to it, asks its valves and has group formation considered (R10, R11, R14, R143). -/
def Obligations.LineHoldAndReleaseGoThereAndBack : Prop :=
  ∀ (s : State) (l : Line), s.resetHeld = false →
    (((s.line l).mode = .water ∨ (s.line l).mode = .ready ∨ (s.line l).mode = .dry ∨
        (s.line l).mode = .priming ∧ (s.pour l).record = .idle) →
      ∃ u : State, exec (.lineHold l.val) s = .next (if s.queued l = true then u.considerFormation else u) ∧
        u = { s with
          lineTable := { s.lineTable with
            lines := put s.lineTable.lines l { s.line l with mode := .held, heldFrom := some (s.line l).mode } }
          answer := some ⟨.ok, []⟩ }) ∧
    ((s.line l).mode = .priming → (s.pour l).record ≠ .idle →
      exec (.lineHold l.val) s = .next { s with answer := some ⟨.pourActive, []⟩ }) ∧
    (((s.line l).mode = .offline ∨ (s.line l).mode = .held ∨ (s.line l).mode = .cleaning ∨ (s.line l).mode = .foul) →
      exec (.lineHold l.val) s = .next { s with answer := some ⟨.wrongState, []⟩ }) ∧
    (∀ m : Mode, (s.line l).mode = .held → (s.line l).heldFrom = some m → m.holdable = true →
      ∃ u : State, exec (.lineRelease l.val) s = .next u.considerFormation ∧
        AskedLine s u l (m != .water) false ∧ SameBut s.valves.groups u.valves.groups (lineGroup l) ∧
        u = { s with
          lineTable := { s.lineTable with
            lines := put s.lineTable.lines l { s.line l with mode := m, heldFrom := none } }
          valves := { s.valves with groups := u.valves.groups }
          answer := some ⟨.ok, byte m.code⟩ }) ∧
    ((s.line l).mode ≠ .held → exec (.lineRelease l.val) s = .next { s with answer := some ⟨.wrongState, []⟩ })

/-- LINE_PRIME puts the eligible keg at A, or else at B, ON_TAP with its selector asked open: a WATER line starts PRIMING at
0 mL with its product valve asked open, a DRY line is READY with LINE_READY (R5, R70). -/
def Obligations.LinePrimePutsAnEligibleKegOnTap : Prop :=
  ∀ (s : State) (l : Line) (p : Position), s.resetHeld = false → s.queued l = false → s.valves.fault = false →
    s.eligible l p = true → (p = .B → s.eligible l .A = false) → s.onTap l = none →
    ((s.line l).mode = .water ∧ s.lineGate l ≠ .hot ∨ (s.line l).mode = .dry) →
    ∃ t : State, exec (.linePrime l.val) s = .next t ∧
      t.line l = (if (s.line l).mode = .water then
          { s.line l with mode := .priming, primed := some 0, lastKeg := some p }
        else { s.line l with mode := .ready, lastKeg := some p }) ∧
      SameBut s.lineTable.lines t.lineTable.lines l ∧
      t.kegSlots l = (s.kegSlots l).set p ((s.keg l p).map fun k => { k with state := .onTap }) ∧
      SameBut s.kegRegister.kegs t.kegRegister.kegs l ∧
      AskedLine s t l true false ∧ AskedSelectors s t l (p == .A) (p == .B) ∧
      (∀ g : ValveGroup, g ≠ lineGroup l → g ≠ selectorGroup l → t.valve g = s.valve g) ∧
      t = { s with
        lineTable := { s.lineTable with lines := t.lineTable.lines }
        kegRegister := { s.kegRegister with kegs := t.kegRegister.kegs }
        valves := { s.valves with groups := t.valves.groups }
        link := (if (s.line l).mode = .water then s.link
          else { s.link with attention := s.link.attention.raiseLine .lineReady l })
        answer := some ⟨.ok, byte (if (s.line l).mode = .water then Mode.priming.code else Mode.ready.code)⟩ }

/-- LINE_RETIRE answers the totals as they stood, returns the record to its reset values, unbinds the faucet, asks both valves
closed, makes the last enrol outcome, the shown refusal and the last settlement absent, and keeps the stored K (R4, R36). -/
def Obligations.LineRetireReturnsTheLineToOffline : Prop :=
  ∀ (s : State) (l : Line) (c : LineCfg), s.resetHeld = false → (s.line l).cfg = some c →
    ((s.line l).mode = .water ∨ (s.line l).mode = .foul ∨ (s.line l).mode = .dry) → s.queued l = false →
    s.keg l .A = none → s.keg l .B = none →
    ∃ t : State, exec (.lineRetire l.val) s = .next t ∧
      t.line l = LineRec.reset ∧ SameBut s.lineTable.lines t.lineTable.lines l ∧
      t.bound c.binding = none ∧ t.recv c.binding = none ∧
      (∀ d : Binding, d ≠ c.binding → t.bound d = s.bound d ∧ t.recv d = s.recv d) ∧
      AskedLine s t l false false ∧ SameBut s.valves.groups t.valves.groups (lineGroup l) ∧
      t = { s with
        lineTable := { s.lineTable with
          lines := t.lineTable.lines, mapA := t.lineTable.mapA, mapB := t.lineTable.mapB }
        pourControl := { s.pourControl with
          pours := put s.pourControl.pours l { s.pour l with shown := none, last := none } }
        kegRegister := { s.kegRegister with
          kegs := put s.kegRegister.kegs l { s.kegSlots l with lastEnrol := none } }
        tapLoops := {
          a := { s.tapLoops.a with recv := t.tapLoops.a.recv }, b := { s.tapLoops.b with recv := t.tapLoops.b.recv } }
        valves := { s.valves with groups := t.valves.groups }
        answer := some ⟨.ok,
          bytesBE 4 (s.line l).totals.billed ++ bytesBE 4 (s.line l).totals.unbilled ++
          bytesBE 4 (s.line l).totals.house ++ bytesBE 4 (s.line l).totals.loss ++
          bytesBE 4 (s.line l).totals.warm ++ bytesBE 4 (s.line l).totals.pours ++
          bytesBE 4 (s.line l).saturation ++ bytesBE 4 (s.line l).cleanCount ++ byte (s.line l).cleanResult.code⟩ }

/-- PORTION_SET and PART_SET write their clamped values, CAL_LOCK sets the lock, and CAL_UNLOCK clears it unless it is set with
SERVICE low (R18, R19, R67). That a set selection bit of PART_SET at 10 or above selects nothing and is accepted (log entry 9), and
that the lock is answered as 1 for set and 0 for clear (log entry 25), are the model's choice. -/
def Obligations.SettingsTakeTheirClampedValues : Prop :=
  ∀ s : State, s.resetHeld = false →
    (∀ (a : PortionSetArgs) (n : Fin 4) (x : PortionSet), a.set = n.val →
      x = { size1 := max 50 (min 2000 a.size1), size2 := max 50 (min 2000 a.size2), size3 := max 50 (min 2000 a.size3)
            size4 := max 50 (min 2000 a.size4), cap := max 100 (min 2000 a.cap) } →
      exec (.portionSet a) s = .next { s with
        lineTable := { s.lineTable with portions := put s.lineTable.portions n x }
        answer := some ⟨.ok, bytesBE 2 x.size1 ++ bytesBE 2 x.size2 ++ bytesBE 2 x.size3 ++ bytesBE 2 x.size4 ++
          bytesBE 2 x.cap⟩ }) ∧
    (∀ a : PortionSetArgs, 4 ≤ a.set → exec (.portionSet a) s = .next { s with answer := some ⟨.badArg, []⟩ }) ∧
    exec .calLock s = .next { s with lineTable := { s.lineTable with calLock := true }, answer := some ⟨.ok, byte 1⟩ } ∧
    (∀ service : Bool, exec (.calUnlock service) s =
      .next (if s.lineTable.calLock = true ∧ service = false then { s with answer := some ⟨.locked, byte 1⟩ }
        else { s with lineTable := { s.lineTable with calLock := false }, answer := some ⟨.ok, byte 0⟩ })) ∧
    (∀ (a : PartSetArgs) (x : Timing),
      x = { frameRate := if a.selection.testBit 0 then (if a.frameRate ≤ 250 then 250 else if a.frameRate ≤ 500 then 500
              else 1000) else s.timing.frameRate
            settle := if a.selection.testBit 1 then max 4 (min 64 a.settle) else s.timing.settle
            tailWindow := if a.selection.testBit 2 then max 32 (min 1000 a.tailWindow) else s.timing.tailWindow
            startGrace := if a.selection.testBit 3 then min 2000 a.startGrace else s.timing.startGrace
            lowFlowBlock := if a.selection.testBit 4 then max 16 (min 1000 a.lowFlowBlock) else s.timing.lowFlowBlock
            lowFlowMin := if a.selection.testBit 5 then max 1 (min 255 a.lowFlowMin) else s.timing.lowFlowMin
            lostThreshold := if a.selection.testBit 6 then max 8 (min 255 a.lostThreshold) else s.timing.lostThreshold
            waitTimeout := if a.selection.testBit 7 then max 50 (min 8000 a.waitTimeout) else s.timing.waitTimeout
            maxPour := if a.selection.testBit 8 then max 1000 (min 60000 a.maxPour) else s.timing.maxPour
            emptyMargin := if a.selection.testBit 9 then min 20000 a.emptyMargin else s.timing.emptyMargin } →
      exec (.partSet a) s = .next { s with
        pourControl := { s.pourControl with timing := x }, answer := some ⟨.ok, x.payload⟩ })

/-! ### Pour Control -/

/-- POUR_ABORT by the state of the pour record: withdrawn, closed with reason ABORT, left as it is, or refused (R65, R50, R55). -/
def Obligations.PourAbortActsByThePourState : Prop :=
  ∀ (s : State) (l : Line), s.resetHeld = false →
    (∀ n : Nat, 32 ≤ n → exec (.pourAbort n) s = .next { s with answer := some ⟨.badArg, []⟩ }) ∧
    ((s.pour l).record = .idle → exec (.pourAbort l.val) s = .next { s with answer := some ⟨.notFound, []⟩ }) ∧
    ((∃ p, (s.pour l).record.pour = some p ∧ p.kind = .clean) →
      exec (.pourAbort l.val) s = .next { s with answer := some ⟨.wrongState, []⟩ }) ∧
    (∀ (p : Pour) (n : Nat) (c : LineCfg), (s.pour l).record = .waiting p n → p.kind ≠ .clean →
      (s.line l).cfg = some c →
      ∃ u : State, exec (.pourAbort l.val) s = .next u.follow ∧
        u = { s with
          pourControl := { s.pourControl with
            pours := put s.pourControl.pours l { s.pour l with record := .idle }
            trunks := put s.pourControl.trunks c.trunk { s.trunk c.trunk with
              queue := (s.trunk c.trunk).queue.filter fun m => m != l } }
          accounts := (s.releasePour p).accounts
          link := (s.releasePour p).link
          answer := some ⟨.ok, byte 0⟩ }) ∧
    (∀ (p : Pour) (n bf bp : Nat), (s.pour l).record = .pouring p n bf bp → p.kind ≠ .clean →
      ∃ u : State, exec (.pourAbort l.val) s = .next u.follow ∧
        u = { s with
          pourControl := { s.pourControl with
            pours := put s.pourControl.pours l { s.pour l with record := .tailing p n p.v .abort 0 0 } }
          answer := some ⟨.ok, byte 1⟩ }) ∧
    (∀ (p : Pour) (n v : Nat) (r : CloseReason) (q k : Nat), (s.pour l).record = .tailing p n v r q k →
      p.kind ≠ .clean → exec (.pourAbort l.val) s = .next { s with answer := some ⟨.ok, byte 2⟩ })

/-- TRUNK_DRAW clamps and stores a trunk's limit, and a raised one promotes; a promotion lets the head of the wait queue pour,
and goes on while the gate is not HOT and the trunk has room (R51, R48). That the queue length is answered in one byte (log entry
8), that the promotion is considered for this trunk alone (log entry 12), and that PROMOTION is a command of its own without effect
where none is due (log entry 4), are the model's reading. -/
def Obligations.TrunkDrawAndPromotionFillTheTrunk : Prop :=
  ∀ (s : State) (t : Trunk), s.resetHeld = false →
    (∀ trunk limit : Nat, 6 ≤ trunk → exec (.trunkDraw trunk limit) s = .next { s with answer := some ⟨.badArg, []⟩ }) ∧
    (∀ limit new : Nat, new = max 1 (min 32 limit) →
      (new ≤ (s.trunk t).limit → exec (.trunkDraw t.val limit) s = .next { s with
        pourControl := { s.pourControl with
          trunks := put s.pourControl.trunks t { s.trunk t with limit := new } }
        answer := some ⟨.ok, byte new ++ bytesBE 4 (s.trunkPouring t) ++ byte (s.trunk t).queue.length⟩ }) ∧
      ((s.trunk t).limit < new → ∃ u,
        exec (.promotion t) { s with pourControl := { s.pourControl with
          trunks := put s.pourControl.trunks t { s.trunk t with limit := new } } } = .next u ∧
        exec (.trunkDraw t.val limit) s = .next { u with
          answer := some ⟨.ok, byte new ++ bytesBE 4 (u.trunkPouring t) ++ byte (u.trunk t).queue.length⟩ })) ∧
    ((s.zone t).gate = .hot ∨ (s.trunk t).limit ≤ s.trunkPouring t ∨ (s.trunk t).queue = [] →
      exec (.promotion t) s = .next s) ∧
    (∀ (l : Line) (rest : List Line) (p : Pour) (n : Nat), (s.zone t).gate ≠ .hot →
      s.trunkPouring t < (s.trunk t).limit → (s.trunk t).queue = l :: rest → (s.pour l).record = .waiting p n →
      ∃ u : State, exec (.promotion t) s = .next u ∧
        u.pour l = { s.pour l with record := .pouring p 0 0 0 } ∧
        (∃ k : Nat, (u.trunk t).queue = rest.drop k) ∧
        ((u.trunk t).queue = [] ∨ (u.trunk t).limit ≤ u.trunkPouring t) ∧
        (u.trunk t).limit = (s.trunk t).limit ∧ SameBut s.pourControl.trunks u.pourControl.trunks t ∧
        (∀ m : Line, m ∉ (s.trunk t).queue → u.pour m = s.pour m) ∧
        u = { s with pourControl := { s.pourControl with
          pours := u.pourControl.pours, trunks := u.pourControl.trunks } })

/-- The tests of a frame as events of their own: OVERTIME and LOW_FLOW close a pour whose count is due, a block that passes
restarts, and a WAITING pour at the wait timeout is refused TIMEOUT with its hold released (R53, R54, R49, R55). That each is a
command that changes nothing while its count is not due (log entry 4), and that WAIT_TIMEOUT has group formation alone considered
after it (log entry 12), are the model's reading. -/
def Obligations.FrameTestsCloseAndTimeOut : Prop :=
  ∀ (s : State) (l : Line), s.resetHeld = false →
    (∀ (p : Pour) (n bf bp : Nat), (s.pour l).record = .pouring p n bf bp →
      (exec (.pourOvertime l) s = .next (State.follow
        (if (p.kind.isSale = true ∧ s.timing.maxPour ≤ n) then { s with pourControl := { s.pourControl with
          pours := put s.pourControl.pours l { s.pour l with record := .tailing p n p.v .overtime 0 0 } } } else s))) ∧
      (exec (.lowFlowBlockEnd l) s = .next (State.follow
        (if (p.kind = .clean ∨ bf < s.timing.lowFlowBlock) then s else { s with pourControl := { s.pourControl with
          pours := put s.pourControl.pours l { s.pour l with
            record := if bp < s.timing.lowFlowMin then .tailing p n p.v .lowFlow 0 0 else .pouring p n 0 0 } } })))) ∧
    (∀ (p : Pour) (n : Nat) (c : LineCfg), (s.pour l).record = .waiting p n → (s.line l).cfg = some c →
      (n < s.timing.waitTimeout → exec (.waitTimeout l) s = .next s) ∧
      (s.timing.waitTimeout ≤ n → ∃ u : State, exec (.waitTimeout l) s = .next u.considerFormation ∧
        u = { s with
          pourControl := { s.pourControl with
            pours := put s.pourControl.pours l { s.pour l with record := .idle, shown := some .timeout }
            trunks := put s.pourControl.trunks c.trunk { s.trunk c.trunk with
              queue := (s.trunk c.trunk).queue.filter fun m => m != l } }
          accounts := (s.releasePour p).accounts
          link := (s.releasePour p).link }))

/-- A tail that ends quiet, or at its window, settles: the record is IDLE with its summary (R56, R58, R28, R59). A sale is billed
and reaches the account, the totals and the keg (R29, R33, R21, R82). A PRIME draw adds to the primed volume, its loss goes to line
and keg, and at the prime target the line is READY (R7, R34). A CLEAN draw of the run in progress is counted to its line, and the
last one ends the run, or in RELEASE releases the group (R147, R150, R151, R152, R153, R155). That SOAK and VERIFY begin with a
low-pump run of 0 is the model's reading, and that owed and delivered stay as they were there its choice (log entry 24). -/
def Obligations.TailEndSettlesThePour : Prop :=
  ∀ (s : State) (l : Line) (p : Pour) (n vClose q k vml : Nat) (r : CloseReason) (i : Instr) (e : Ending),
    s.resetHeld = false → (s.pour l).record = .tailing p n vClose r q k →
    (i = .tailQuietSettle l ∧ e = .quiet ∧ s.timing.settle ≤ q ∨
      i = .tailWindow l ∧ e = .window ∧ s.timing.tailWindow ≤ k) →
    vml = (p.v + 500000) / 1000000 →
    ∃ u : State, exec i s = .next u.follow ∧ u = s.settle l p vClose r e ∧
      (u.pour l).record = .idle ∧ (u.pour l).shown = (s.pour l).shown ∧
      SameBut s.pourControl.pours u.pourControl.pours l ∧
      (∃ x : Settlement, (u.pour l).last = some x ∧ x.kind = p.kind ∧ x.reason = r ∧ x.ending = e ∧ x.vml = vml ∧
        x.measured = p.v - vClose) ∧
      (∀ id billed : Nat, p.kind.isSale = true → p.account = some id → billed = (if id = 0 then 0 else min vml p.hold) →
        (u.pour l).last = some {
          kind := p.kind, reason := r, ending := e, vml := vml, measured := p.v - vClose, billed := billed
          unbilled := if id = 0 then 0 else vml - billed, tail := ((u.line l).cfg.map LineCfg.tail).getD 0 } ∧
        u.accounts = (if id = 0 then s.accounts else (s.settleHold id p.hold billed).accounts) ∧
        (u.line l).totals = { (s.line l).totals with
          house := if id = 0 then satAdd (s.line l).totals.house vml else (s.line l).totals.house
          billed := if id = 0 then (s.line l).totals.billed else satAdd (s.line l).totals.billed billed
          unbilled := if id = 0 then (s.line l).totals.unbilled else satAdd (s.line l).totals.unbilled (vml - billed)
          warm := if p.warm then satAdd (s.line l).totals.warm vml else (s.line l).totals.warm
          pours := satAdd (s.line l).totals.pours 1 } ∧
        SameBut s.lineTable.lines u.lineTable.lines l ∧
        (∀ (o : Position) (x : KegRec), s.onTap l = some o → s.keg l o = some x → r ≠ .lowFlow →
          u.keg l o = some { x.withShares billed (if id = 0 then 0 else vml - billed) (if id = 0 then vml else 0) 0 with
            suspect := if 50 ≤ vml then false else x.suspect }) ∧
        SameBut s.kegRegister.kegs u.kegRegister.kegs l ∧
        (∀ g : ValveGroup, u.valve g = { s.valve g with next := (u.valve g).next }) ∧
        (r ≠ .lowFlow → u.valves = s.valves ∧ (u.line l).mode = (s.line l).mode ∧
          (∀ o : Position, s.onTap l ≠ some o → u.keg l o = s.keg l o) ∧
          u.link.attention = (if id = 0 then s else s.settleHold id p.hold billed).link.attention) ∧
        u = { s with
          lineTable := { s.lineTable with lines := u.lineTable.lines }
          pourControl := { s.pourControl with pours := u.pourControl.pours }
          kegRegister := { s.kegRegister with kegs := u.kegRegister.kegs }
          accounts := u.accounts
          valves := { s.valves with groups := u.valves.groups }
          link := { s.link with attention := u.link.attention } }) ∧
      (∀ (c : LineCfg) (before loss : Nat) (full : Prop), p.kind = .prime → r ≠ .lowFlow → (s.line l).mode = .priming →
        (s.line l).cfg = some c → (s.line l).primed = some before → loss = before + vml - max before c.fill →
        (full ↔ (c.fill * c.primePercent + 99) / 100 ≤ before + vml) →
        (u.pour l).last = some {
          kind := .prime, reason := r, ending := e, vml := vml, measured := p.v - vClose, billed := 0, unbilled := 0
          tail := c.tail } ∧
        (u.line l).totals = { (s.line l).totals with loss := satAdd (s.line l).totals.loss loss } ∧
        (full → u.line l = { s.line l with mode := .ready, primed := none, totals := (u.line l).totals } ∧
          AskedLine s u l true false ∧ SameBut s.valves.groups u.valves.groups (lineGroup l) ∧
          u.link.attention = s.link.attention.raiseLine .lineReady l) ∧
        (¬full → u.line l = { s.line l with primed := some (before + vml), totals := (u.line l).totals } ∧
          u.valves = s.valves ∧ u.link = s.link) ∧
        SameBut s.lineTable.lines u.lineTable.lines l ∧
        (∀ (o : Position) (x : KegRec), s.onTap l = some o → s.keg l o = some x →
          u.keg l o = some { x.withShares 0 0 0 loss with suspect := if 50 ≤ vml then false else x.suspect } ∧
          u.keg l o.other = s.keg l o.other) ∧
        SameBut s.kegRegister.kegs u.kegRegister.kegs l ∧
        u = { s with
          lineTable := { s.lineTable with lines := u.lineTable.lines }
          pourControl := { s.pourControl with pours := u.pourControl.pours }
          kegRegister := { s.kegRegister with kegs := u.kegRegister.kegs }
          valves := { s.valves with groups := u.valves.groups }
          link := { s.link with attention := u.link.attention } }) ∧
      (∀ (g : Group) (x : GroupLine) (ls : List GroupLine) (counts : Prop), p.kind = .clean → s.cleaning.group = some g →
        (g.lines.map GroupLine.line).Nodup → x ∈ g.lines → x.line = l →
        (counts ↔ x.draw = some (g.phase, g.run) ∧ x.result.takesPart = true) →
        (counts ∧ ls = (g.lines.map fun z => if z.line = l then
            { z with draw := none, delivered := z.delivered + vml, owed := z.owed - vml } else z) ∨
          ¬counts ∧ ls = g.lines.map fun z => if z.line = l then { z with draw := none } else z) →
        (g.phase = .release ∧ (∃ z ∈ ls, z.draw ≠ none) ∨
            g.phase ≠ .release ∧ (g.phase.metered = false ∨ ∃ z ∈ ls, z.owing = true) →
          u = { s with
            pourControl := { s.pourControl with pours := u.pourControl.pours }
            cleaning := { s.cleaning with group := some { g with lines := ls } } }) ∧
        (g.phase = .release → (∀ z ∈ ls, z.draw = none) → (∀ z ∈ ls, (s.line z.line).mode = .cleaning) →
          u.cleaning = { s.cleaning with group := none } ∧
          ∀ z ∈ ls, u.line z.line = { s.line z.line with
            mode := if z.result = .pass ∨ z.result = .aborted then .water else .foul
            lastKeg := none, cleanResult := z.result.toClean, cleanCount := satAdd (s.line z.line).cleanCount 1 }) ∧
        (g.phase.metered = true → (∀ z ∈ ls, z.owing = false) → (∃ z ∈ ls, z.result.takesPart = true) →
          ∃ h : Group, u.cleaning = { s.cleaning with group := some h } ∧ RunEnds s u g ls h ∧
            (g.phase = .purge → LossCharged s u g) ∧
            u = { s with
              lineTable := { s.lineTable with lines := u.lineTable.lines }
              pourControl := { s.pourControl with pours := u.pourControl.pours }
              kegRegister := { s.kegRegister with kegs := u.kegRegister.kegs }
              climate := { s.climate with zones := u.climate.zones }
              cleaning := u.cleaning
              valves := { s.valves with groups := u.valves.groups } }))

/-- Tail learning at a tail's quiet end or window: an eligible pour moves T by floor((M - T) / 8), clamped into 0 to 40,000,000 nL;
any other leaves it (R30, R31). -/
def Obligations.EligiblePoursTeachTheTail : Prop :=
  ∀ (s : State) (l : Line) (p : Pour) (n vClose q k : Nat) (r : CloseReason) (c : LineCfg) (i : Instr),
    s.resetHeld = false → (s.pour l).record = .tailing p n vClose r q k → (s.line l).cfg = some c →
    p.kind ≠ .clean →
    (i = .tailQuietSettle l ∧ s.timing.settle ≤ q ∨ i = .tailWindow l ∧ s.timing.tailWindow ≤ k) →
    ∃ u : State, exec i s = .next u.follow ∧
      (u.line l).cfg = some { c with
        tail := if (∃ m, p.kind = .portion m) ∧ r = .target ∧ i = .tailQuietSettle l ∧ p.clamp = false then
            (max 0 (min 40000000 ((c.tail : Int) + (((p.v - vClose : Nat) : Int) - (c.tail : Int)) / 8))).toNat
          else c.tail }

/-- The tail end of a sale or PRIME draw that closed LOW_FLOW, quiet or at its window: its shares reach the keg, the line and the
account as at any tail end, a PRIME draw that reached its target having made the line READY (R82, R21, R99, R7). Then the low flow is
counted on the ON_TAP keg: with more than the empty margin left and no suspicion the keg becomes suspect, otherwise it is SPENT and
the line is changed over or goes DRY (R83, R84, R8). -/
def Obligations.LowFlowSuspectsOrSpendsTheKeg : Prop :=
  ∀ (s : State) (l : Line) (p : Pour) (n vClose q k vml : Nat) (i : Instr) (e : Ending) (o : Position) (x : KegRec),
    s.resetHeld = false → (s.pour l).record = .tailing p n vClose .lowFlow q k →
    (i = .tailQuietSettle l ∧ e = .quiet ∧ s.timing.settle ≤ q ∨
      i = .tailWindow l ∧ e = .window ∧ s.timing.tailWindow ≤ k) →
    s.onTap l = some o → s.keg l o = some x → vml = (p.v + 500000) / 1000000 →
    (p.kind.isSale = true ∧ p.account ≠ none ∧ ((s.line l).under = .ready ∨ (s.line l).under = .priming) ∨
      p.kind = .prime ∧ (s.line l).mode = .priming ∧ (s.line l).cfg ≠ none ∧ (s.line l).primed ≠ none) →
    ∃ (m u : State) (y : KegRec), exec i s = .next u.follow ∧
      (∀ id billed : Nat, p.kind.isSale = true → p.account = some id → billed = (if id = 0 then 0 else min vml p.hold) →
        y = x.withShares billed (if id = 0 then 0 else vml - billed) (if id = 0 then vml else 0) 0 ∧
        m.line l = { s.line l with totals := { (s.line l).totals with
          house := if id = 0 then satAdd (s.line l).totals.house vml else (s.line l).totals.house
          billed := if id = 0 then (s.line l).totals.billed else satAdd (s.line l).totals.billed billed
          unbilled := if id = 0 then (s.line l).totals.unbilled else satAdd (s.line l).totals.unbilled (vml - billed)
          warm := if p.warm then satAdd (s.line l).totals.warm vml else (s.line l).totals.warm
          pours := satAdd (s.line l).totals.pours 1 } } ∧
        m = { (if id = 0 then s else s.settleHold id p.hold billed) with
          lineTable := { s.lineTable with lines := m.lineTable.lines } }) ∧
      (∀ (c : LineCfg) (before loss : Nat) (full : Prop), p.kind = .prime → (s.line l).cfg = some c →
        (s.line l).primed = some before → loss = before + vml - max before c.fill →
        (full ↔ (c.fill * c.primePercent + 99) / 100 ≤ before + vml) →
        y = x.withShares 0 0 0 loss ∧
        (full → m.line l = { s.line l with
            mode := .ready, primed := none
            totals := { (s.line l).totals with loss := satAdd (s.line l).totals.loss loss } } ∧
          AskedLine s m l true false ∧ SameBut s.valves.groups m.valves.groups (lineGroup l) ∧
          m = { s with
            lineTable := { s.lineTable with lines := m.lineTable.lines }
            valves := { s.valves with groups := m.valves.groups }
            link := { s.link with attention := s.link.attention.raiseLine .lineReady l } }) ∧
        (¬full → m.line l = { s.line l with
            primed := some (before + vml)
            totals := { (s.line l).totals with loss := satAdd (s.line l).totals.loss loss } } ∧
          m = { s with lineTable := { s.lineTable with lines := m.lineTable.lines } })) ∧
      SameBut s.lineTable.lines m.lineTable.lines l ∧
      (s.timing.emptyMargin < y.nominal - y.drawn → x.suspect = false →
        u.keg l o = some { y with lowFlows := satAdd x.lowFlows 1, suspect := true } ∧
        u.keg l o.other = s.keg l o.other ∧
        u = { m with
          pourControl := { s.pourControl with pours := u.pourControl.pours }
          kegRegister := { s.kegRegister with kegs := u.kegRegister.kegs } }) ∧
      (y.nominal - y.drawn ≤ s.timing.emptyMargin ∨ x.suspect = true →
        u.keg l o = some { y with lowFlows := satAdd x.lowFlows 1, state := .spent } ∧ ChangedOver m u l o ∧
        u = { m with
          lineTable := { s.lineTable with lines := u.lineTable.lines }
          pourControl := { s.pourControl with pours := u.pourControl.pours }
          kegRegister := { s.kegRegister with kegs := u.kegRegister.kegs }
          valves := { s.valves with groups := u.valves.groups }
          link := { s.link with
            attention := if s.changesOver l o = true then m.link.attention.raiseLine .kegSpent l
              else (m.link.attention.raiseLine .kegSpent l).raiseLine .lineDry l } }) ∧
      SameBut s.kegRegister.kegs u.kegRegister.kegs l ∧ (u.kegSlots l).lastEnrol = (s.kegSlots l).lastEnrol ∧
      SameBut s.pourControl.pours u.pourControl.pours l ∧
      ∃ z : Settlement, u.pour l = { s.pour l with record := .idle, last := some z } ∧ z.kind = p.kind ∧
        z.reason = .lowFlow ∧ z.ending = e ∧ z.vml = vml ∧ z.measured = p.v - vClose

/-! ### Kegs -/

/-- KEG_ENROL creates a VERIFYING record and both it and KEG_CHECK append a read entry, which goes into progress on an idle bus;
a read that does not end its transaction is followed by the retry of its copy or by the next copy, and each read of a copy runs through
the five stages of the bus (R72 to R75, R79, R186). That COUPLER_READ_START is a command of its own, without effect on a busy bus or an
empty queue, is the model's reading (log entry 4). -/
def Obligations.CouplerReadsAreQueuedAndTriedAgain : Prop :=
  (∀ (s : State) (l : Line) (p : Position), s.resetHeld = false → s.kegRegister.queue.length < 8 →
    (∀ e ∈ s.kegRegister.queue, ¬(e.line = l ∧ e.position = p)) →
    (∀ (a : KegEnrolArgs) (c : LineCfg), a.line = l.val → a.position = positionCode p → 5000 ≤ a.nominal →
      a.nominal ≤ 100000 → (s.line l).mode ≠ .offline → s.keg l p = none → (s.line l).cfg = some c →
      c.product = a.product → (∀ m q k, s.keg m q = some k → k.tag ≠ a.tag) →
      exec (.kegEnrol a) s = .next { s with
        kegRegister := {
          kegs := put s.kegRegister.kegs l ((s.kegSlots l).set p (some {
            tag := a.tag, product := a.product, nominal := a.nominal, state := .verifying, drawn := 0, billed := 0
            unbilled := 0, house := 0, loss := 0, lowFlows := 0, suspect := false, checkFailed := false
            lastCheck := none }))
          queue := s.kegRegister.queue ++ [⟨l, p, .enrol, a.tag⟩]
          bus := if s.kegRegister.bus = none then some ⟨0, false, false⟩ else s.kegRegister.bus }
        answer := some ⟨.ok, byte l.val ++ byte (positionCode p) ++ byte 0 ++ byte s.kegRegister.queue.length ++
          bytesBE 2 a.product⟩ }) ∧
    (∀ k : KegRec, s.keg l p = some k → k.state ≠ .verifying →
      exec (.kegCheck l.val (positionCode p)) s = .next { s with
        kegRegister := { s.kegRegister with
          queue := s.kegRegister.queue ++ [⟨l, p, .check, k.tag⟩]
          bus := if s.kegRegister.bus = none then some ⟨0, false, false⟩ else s.kegRegister.bus }
        answer := some ⟨.ok, byte s.kegRegister.queue.length⟩ })) ∧
  (∀ s : State, s.resetHeld = false →
    exec .couplerReadStart s = .next { s with kegRegister := { s.kegRegister with
      bus := if s.kegRegister.bus = none ∧ s.kegRegister.queue ≠ [] then some ⟨0, false, false⟩
        else s.kegRegister.bus } } ∧
    (∀ (t : Transaction) (e : ReadEntry) (rest : List ReadEntry) (status : Byte) (block : BitVec 128),
      s.kegRegister.bus = some t → s.kegRegister.queue = e :: rest →
      (status ≠ 0xA5#8 → status ≠ 0#8 → t.retry = false → exec (.couplerCopyRead status block) s = .next (State.follow
        { s with kegRegister := { s.kegRegister with bus := some { t with retry := true } } })) ∧
      (status = 0xA5#8 → block.extractLsb' 0 64 ≠ ~~~(block.extractLsb' 64 64) → t.copy < 3 →
        exec (.couplerCopyRead status block) s = .next (State.follow
          { s with kegRegister := { s.kegRegister with
            bus := some { t with copy := t.copy + 1, retry := false } } })))) ∧
  (∀ k : KegRegister, (k.bus = none → k.busStages = [⟨0, false, [], 0⟩]) ∧
    ∀ (t : Transaction) (e : ReadEntry) (rest : List ReadEntry) (r : BitVec 6), k.bus = some t → k.queue = e :: rest →
      t.copy ≤ 3 → r = BitVec.ofNat 6 (2 * e.line.val + if e.position = .A then 0 else 1) →
      k.busStages = [⟨r, false, [], 0⟩, ⟨r, true, [], 0⟩,
        ⟨r, true, [true, true, false, false, false, false, t.copy.testBit 1, t.copy.testBit 0], 0⟩,
        ⟨r, true, [], 17⟩, ⟨0, false, [], 0⟩])

/-- KEG_CONFIRM: EMPTY makes a STANDBY keg SPENT, and an ON_TAP keg SPENT with its changeover once the pour is IDLE; NOT_EMPTY
clears the suspect flag (R86). That DRY is answered as an absent position, in two zero bytes, is the model's choice (log
entry 20). -/
def Obligations.KegConfirmActsOnTheVerdict : Prop :=
  ∀ (s : State) (l : Line) (p : Position) (k : KegRec), s.resetHeld = false → s.keg l p = some k →
    (k.state = .verifying ∨ k.state = .spent → ∀ verdict : Nat, verdict ≤ 1 →
      exec (.kegConfirm l.val (positionCode p) verdict) s = .next { s with answer := some ⟨.wrongState, []⟩ }) ∧
    (k.state = .standby ∨ k.state = .onTap → exec (.kegConfirm l.val (positionCode p) 1) s = .next { s with
      kegRegister := { s.kegRegister with
        kegs := put s.kegRegister.kegs l ((s.kegSlots l).set p (some { k with suspect := false })) }
      answer := some ⟨.ok, byte k.state.code⟩ }) ∧
    (k.state = .standby → exec (.kegConfirm l.val (positionCode p) 0) s = .next { s with
      kegRegister := { s.kegRegister with
        kegs := put s.kegRegister.kegs l ((s.kegSlots l).set p (some { k with state := .spent })) }
      link := { s.link with attention := s.link.attention.raiseLine .kegSpent l }
      answer := some ⟨.ok, byte KegState.spent.code⟩ }) ∧
    (k.state = .onTap → (s.pour l).record ≠ .idle →
      exec (.kegConfirm l.val (positionCode p) 0) s = .next { s with answer := some ⟨.pourActive, []⟩ }) ∧
    (k.state = .onTap → (s.pour l).record = .idle → ((s.line l).under = .ready ∨ (s.line l).under = .priming) →
      ∃ u : State, exec (.kegConfirm l.val (positionCode p) 0) s = .next u.follow ∧
        u.keg l p = some { k with state := .spent } ∧ SameBut s.kegRegister.kegs u.kegRegister.kegs l ∧
        (u.kegSlots l).lastEnrol = (s.kegSlots l).lastEnrol ∧ ChangedOver s u l p ∧
        u = { s with
          lineTable := { s.lineTable with lines := u.lineTable.lines }
          kegRegister := { s.kegRegister with kegs := u.kegRegister.kegs }
          valves := { s.valves with groups := u.valves.groups }
          link := { s.link with
            attention := if s.changesOver l p = true then s.link.attention.raiseLine .kegSpent l
              else (s.link.attention.raiseLine .kegSpent l).raiseLine .lineDry l }
          answer := some ⟨.ok, if s.changesOver l p = true then byte 1 ++ byte (positionCode p.other)
            else byte 0 ++ byte 0⟩ })

/-- KEG_RETIRE removes the record with its read entry deleted, or marked for discard while in progress; a VERIFYING keg is
WITHDRAWN, and an ON_TAP keg is changed over (R81, R87, R84). The bytes of the remaining volume and of the two flags in the answer
are the model's choice (log entry 25). -/
def Obligations.KegRetireRemovesTheRecord : Prop :=
  ∀ (s : State) (l : Line) (p : Position) (k : KegRec), s.resetHeld = false → s.keg l p = some k →
    (k.state = .onTap → (s.pour l).record ≠ .idle →
      exec (.kegRetire l.val (positionCode p)) s = .next { s with answer := some ⟨.pourActive, []⟩ }) ∧
    ((k.state = .onTap → (s.pour l).record = .idle ∧ ((s.line l).under = .ready ∨ (s.line l).under = .priming)) →
      ∃ u : State, exec (.kegRetire l.val (positionCode p)) s = .next u.follow ∧
        u.keg l p = none ∧ SameBut s.kegRegister.kegs u.kegRegister.kegs l ∧
        (u.kegSlots l).lastEnrol = (if k.state = .verifying then some ⟨p, k.tag, .withdrawn, none⟩
          else (s.kegSlots l).lastEnrol) ∧
        (s.readInProgress l p = true → u.kegRegister.queue = s.kegRegister.queue ∧
          u.kegRegister.bus = s.kegRegister.bus.map fun t => { t with discard := true }) ∧
        (s.readInProgress l p = false → u.kegRegister.bus = s.kegRegister.bus ∧
          u.kegRegister.queue = s.kegRegister.queue.filter fun e => !(e.line == l && e.position == p)) ∧
        (k.state = .onTap → ChangedOver s u l p) ∧
        (k.state ≠ .onTap → u.keg l p.other = s.keg l p.other ∧ u.lineTable = s.lineTable ∧ u.valves = s.valves) ∧
        u = { s with
          lineTable := { s.lineTable with lines := u.lineTable.lines }
          kegRegister := u.kegRegister
          valves := { s.valves with groups := u.valves.groups }
          link := { s.link with
            attention := if k.state = .onTap ∧ s.changesOver l p = false then s.link.attention.raiseLine .lineDry l
              else s.link.attention }
          answer := some ⟨.ok,
            bytesBE 8 k.tag.toNat ++ bytesBE 2 k.product ++ bytesBE 4 k.nominal ++ byte k.state.code ++
            bytesBE 4 k.drawn ++ bytesBE 4 k.billed ++ bytesBE 4 k.unbilled ++ bytesBE 4 k.house ++ bytesBE 4 k.loss ++
            bytesBE 4 (k.nominal - k.drawn) ++ bytesBE 4 k.lowFlows ++ flag k.suspect ++ flag k.checkFailed⟩ })

/-- The read that ends a transaction: the entry leaves, the next goes into progress, and the outcome is applied to the enrolment
or to the check, or thrown away under the discard mark (R74 to R78, R80, R9). -/
def Obligations.CouplerReadAppliesItsOutcome : Prop :=
  ∀ (s : State) (t : Transaction) (e : ReadEntry) (rest : List ReadEntry) (status : Byte) (block : BitVec 128)
    (o : TagOutcome) (read : Option Tag), s.resetHeld = false → s.kegRegister.bus = some t →
    s.kegRegister.queue = e :: rest →
    (o = .isMatch ∧ read = none ∧ status = 0xA5#8 ∧ block.extractLsb' 0 64 = ~~~e.expected ∧
        block.extractLsb' 64 64 = e.expected ∨
      o = .mismatch ∧ read = some (block.extractLsb' 64 64) ∧ status = 0xA5#8 ∧
        block.extractLsb' 0 64 = ~~~(block.extractLsb' 64 64) ∧ block.extractLsb' 64 64 ≠ e.expected ∨
      o = .tagBad ∧ read = none ∧ status = 0xA5#8 ∧ block.extractLsb' 0 64 ≠ ~~~(block.extractLsb' 64 64) ∧
        3 ≤ t.copy ∨
      o = .noCoupler ∧ read = none ∧ status = 0#8 ∨
      o = .readerFault ∧ read = none ∧ status ≠ 0xA5#8 ∧ status ≠ 0#8 ∧ t.retry = true) →
    ∃ u : State, exec (.couplerCopyRead status block) s = .next u.follow ∧ u.kegRegister.queue = rest ∧
      u.kegRegister.bus = (if rest = [] then none else some ⟨0, false, false⟩) ∧
      SameBut s.kegRegister.kegs u.kegRegister.kegs e.line ∧ SameBut s.lineTable.lines u.lineTable.lines e.line ∧
      u.keg e.line e.position.other = s.keg e.line e.position.other ∧
      (∀ g : ValveGroup, g ≠ lineGroup e.line → g ≠ selectorGroup e.line → u.valve g = s.valve g) ∧
      (t.discard = true → u = { s with kegRegister := { s.kegRegister with
        queue := rest, bus := u.kegRegister.bus } }) ∧
      (∀ k : KegRec, t.discard = false → s.keg e.line e.position = some k → e.purpose = .enrol → o ≠ .isMatch →
        u.keg e.line e.position = none ∧ (u.kegSlots e.line).lastEnrol = some ⟨e.position, k.tag, o, read⟩ ∧
        u.lineTable = s.lineTable ∧ u.valves = s.valves ∧
        u.link.attention = s.link.attention.raiseLine .kegRejected e.line) ∧
      (∀ k : KegRec, t.discard = false → s.keg e.line e.position = some k → e.purpose = .enrol → o = .isMatch →
        (u.kegSlots e.line).lastEnrol = some ⟨e.position, k.tag, .isMatch, none⟩ ∧
        ((s.line e.line).mode ≠ .dry ∨ s.queued e.line = true ∨ s.valves.fault = true →
          u.keg e.line e.position = some { k with state := .standby } ∧ u.lineTable = s.lineTable ∧
          u.valves = s.valves ∧ u.link.attention = s.link.attention.raiseLine .kegVerified e.line) ∧
        ((s.line e.line).mode = .dry → s.queued e.line = false → s.valves.fault = false → k.checkFailed = false →
          (∀ q x, s.keg e.line q = some x → x.state ≠ .onTap) →
          u.keg e.line e.position = some { k with state := .onTap } ∧
          u.line e.line = { s.line e.line with mode := .ready, lastKeg := some e.position } ∧
          AskedLine s u e.line true false ∧ AskedSelectors s u e.line (e.position == .A) (e.position == .B) ∧
          u.link.attention = (s.link.attention.raiseLine .kegVerified e.line).raiseLine .lineReady e.line)) ∧
      (∀ k : KegRec, t.discard = false → s.keg e.line e.position = some k → e.purpose = .check →
        u.keg e.line e.position = some { k with lastCheck := some o, checkFailed := !(o == .isMatch) } ∧
        (u.kegSlots e.line).lastEnrol = (s.kegSlots e.line).lastEnrol ∧ u.lineTable = s.lineTable ∧
        u.valves = s.valves ∧ u.link.attention = s.link.attention.raiseLine .kegCheckDone e.line) ∧
      u = { s with
        lineTable := { s.lineTable with lines := u.lineTable.lines }
        kegRegister := u.kegRegister
        valves := { s.valves with groups := u.valves.groups }
        link := { s.link with attention := u.link.attention } }

/-! ### Stand accounts -/

/-- ACCOUNT_OPEN: its three checks in order, and the new record at the lowest empty place (R94); that the record index is answered
in two bytes is the model's reading (log entry 8). -/
def Obligations.AccountOpenTakesTheLowestEmptyPlace : Prop :=
  ∀ (s : State) (id float : Nat) (credit : Int), s.resetHeld = false →
    (id = 0 ∨ 65535 < id ∨ 65535 < float ∨ credit < 0 ∨ 2147483647 < credit →
      exec (.accountOpen id float credit) s = .next { s with answer := some ⟨.badArg, []⟩ }) ∧
    (1 ≤ id → id ≤ 65535 → float ≤ 65535 → 0 ≤ credit → credit ≤ 2147483647 →
      ((∃ i a, s.account i = some a ∧ a.id = id) →
        exec (.accountOpen id float credit) s = .next { s with answer := some ⟨.duplicate, []⟩ }) ∧
      ((∀ i, ∃ a, s.account i = some a ∧ a.id ≠ id) →
        exec (.accountOpen id float credit) s = .next { s with answer := some ⟨.full, []⟩ }) ∧
      (∀ i : AccountIx, (∀ j a, s.account j = some a → a.id ≠ id) → s.account i = none →
        (∀ j, j < i → s.account j ≠ none) →
        exec (.accountOpen id float credit) s = .next { s with
          accounts := put s.accounts i (some {
            id := id, state := .opened, credited := credit, available := credit, held := 0, spent := 0, float := float
            holds := 0, settled := 0 })
          answer := some ⟨.ok, bytesBE 2 i.val⟩ }))

/-- ACCOUNT_CREDIT and ACCOUNT_FLOAT: their checks in order, the change of credited and available, and the new float (R95,
R96). That available is answered in 4 signed bytes is the model's choice (log entry 25). -/
def Obligations.CreditAndFloatMoveTheAccount : Prop :=
  ∀ (s : State) (id : Nat), s.resetHeld = false →
    (∀ n : Int, id = 0 ∨ 65535 < id → exec (.accountCredit id n) s = .next { s with answer := some ⟨.badArg, []⟩ }) ∧
    (∀ float : Nat, id = 0 ∨ 65535 < id ∨ 65535 < float →
      exec (.accountFloat id float) s = .next { s with answer := some ⟨.badArg, []⟩ }) ∧
    (1 ≤ id → id ≤ 65535 → (∀ j a, s.account j = some a → a.id ≠ id) →
      (∀ n : Int, exec (.accountCredit id n) s = .next { s with answer := some ⟨.notFound, []⟩ }) ∧
      (∀ float : Nat, float ≤ 65535 →
        exec (.accountFloat id float) s = .next { s with answer := some ⟨.notFound, []⟩ })) ∧
    (∀ (i : AccountIx) (a : Account), 1 ≤ id → id ≤ 65535 → s.account i = some a → a.id = id →
      (∀ j b, s.account j = some b → b.id = id → j = i) →
      (∀ n : Int, exec (.accountCredit id n) s = .next (
        if a.state = .closed then { s with answer := some ⟨.wrongState, []⟩ }
        else if a.credited + n < -2147483648 ∨ 2147483647 < a.credited + n then
          { s with answer := some ⟨.overflow, []⟩ }
        else if n < 0 ∧ a.available + n < -(a.float : Int) then { s with answer := some ⟨.noCredit, []⟩ }
        else { s with
          accounts := put s.accounts i (some { a with credited := a.credited + n, available := a.available + n })
          answer := some ⟨.ok, bytesInt 4 (a.credited + n) ++ bytesInt 4 (a.available + n) ++ bytesBE 2 a.float⟩ })) ∧
      (∀ float : Nat, float ≤ 65535 → exec (.accountFloat id float) s = .next (
        if a.state = .closed then { s with answer := some ⟨.wrongState, []⟩ }
        else if a.available < -(float : Int) then { s with answer := some ⟨.noCredit, []⟩ }
        else { s with
          accounts := put s.accounts i (some { a with float := float })
          answer := some ⟨.ok, bytesInt 4 a.available ++ bytesBE 2 float⟩ })))

/-- ACCOUNT_CLOSE decides by the record's state: CLOSED at once without holds, CLOSING with them, WRONG_STATE in CLOSING, and a
CLOSED record removed (R101). The widths of the volumes in the answered record are the model's choice (log entries 8 and 25). -/
def Obligations.AccountCloseActsByTheRecordsState : Prop :=
  ∀ (s : State) (id : Nat), s.resetHeld = false →
    (id = 0 ∨ 65535 < id → exec (.accountClose id) s = .next { s with answer := some ⟨.badArg, []⟩ }) ∧
    (1 ≤ id → id ≤ 65535 → (∀ j a, s.account j = some a → a.id ≠ id) →
      exec (.accountClose id) s = .next { s with answer := some ⟨.notFound, []⟩ }) ∧
    (∀ (i : AccountIx) (a : Account), 1 ≤ id → id ≤ 65535 → s.account i = some a → a.id = id →
      (∀ j b, s.account j = some b → b.id = id → j = i) →
      exec (.accountClose id) s = .next (match a.state with
        | .opened =>
          if a.holds = 0 then { s with
            accounts := put s.accounts i (some { a with state := .closed })
            answer := some ⟨.ok, byte AccountState.closed.code ++ Account.payload i { a with state := .closed }⟩ }
          else { s with
            accounts := put s.accounts i (some { a with state := .closing })
            answer := some ⟨.ok, byte AccountState.closing.code ++ bytesBE 4 a.holds⟩ }
        | .closing => { s with answer := some ⟨.wrongState, bytesBE 4 a.holds⟩ }
        | .closed => { s with
            accounts := put s.accounts i none, answer := some ⟨.ok, Account.payload i a⟩ }))

/-- A hold is placed when the account is OPEN with available + float at or above it, and released or settled with its own
volumes; the last hold of a CLOSING account closes it with ACCOUNT_CLOSED (R97, R98, R99, R102). -/
def Obligations.HoldsArePlacedReleasedAndSettled : Prop :=
  ∀ (s : State) (id h b : Nat),
    ((∀ j a, s.account j = some a → a.id ≠ id) → s.placeHold id h = .noAccount) ∧
    (∀ (i : AccountIx) (a : Account), s.account i = some a → a.id = id →
      (∀ j c, s.account j = some c → c.id = id → j = i) →
      (a.state ≠ .opened → s.placeHold id h = .noAccount) ∧
      (a.state = .opened → a.available + a.float < h → s.placeHold id h = .noCredit) ∧
      (a.state = .opened → (h : Int) ≤ a.available + a.float → s.placeHold id h = .placed { s with
        accounts := put s.accounts i (some { a with
          available := a.available - h, held := a.held + h, holds := a.holds + 1 }) }) ∧
      s.releaseHold id h = { s with
        accounts := put s.accounts i (some { a with
          available := a.available + h, held := a.held - h, holds := a.holds - 1
          state := if a.state = .closing ∧ a.holds - 1 = 0 then .closed else a.state })
        link := if a.state = .closing ∧ a.holds - 1 = 0 then (s.raiseAccount i).link else s.link } ∧
      s.settleHold id h b = { s with
        accounts := put s.accounts i (some { a with
          available := a.available + ((h : Int) - b), held := a.held - h, spent := a.spent + b, holds := a.holds - 1
          settled := min (a.settled + 1) 4294967295
          state := if a.state = .closing ∧ a.holds - 1 = 0 then .closed else a.state })
        link := if a.state = .closing ∧ a.holds - 1 = 0 then (s.raiseAccount i).link else s.link } ∧
      ∀ j : Fin 48, (s.raiseAccount i).link.attention.accountClosed.getLsbD j.val =
        (s.link.attention.accountClosed.getLsbD j.val || j == i))

/-! ### Tap Loops -/

/-- LOOP_SET sets the slot count of a STOPPED loop; LOOP_START latches the rate and the outbound words and sends the first frame
sync; FRAME_SYNC of a RUNNING loop between two frames counts the frame, latches the words again and begins slot 0, the word of an
unbound slot being valve closed and lamp OFF; the outputs clock the latched word of the slot in progress, and a STOPPED loop holds
them low (R105 to R109, R116, R185). That a FRAME_SYNC of a STOPPED loop or inside a frame has no effect is the model's choice (log
entry 14), and that a slot outside the frame has no latched word is its reading (log entry 23). -/
def Obligations.LoopsAreSetStartedAndSynced : Prop :=
  (∀ (r : LoopRec) (bit : Fin 24),
    (r.state = .stopped → r.pins bit = ⟨false, false, false⟩) ∧
    (∀ (rate : Nat) (k : Slot) (c : OutCommand), r.state = .running rate → r.slot = some k →
      look r.latched k = some c →
      r.pins bit = ⟨true, decide (k = 0 ∧ bit = 0), c.word.getLsbD (23 - bit.val)⟩)) ∧
  ∀ (s : State) (i : LoopId), s.resetHeld = false →
    (∀ loop n : Nat, 2 ≤ loop → exec (.loopSet loop n) s = .next { s with answer := some ⟨.badArg, []⟩ } ∧
      exec (.loopStart loop) s = .next { s with answer := some ⟨.badArg, []⟩ }) ∧
    (∀ n : Nat, n < 2 ∨ 24 < n → exec (.loopSet (loopCode i) n) s = .next { s with answer := some ⟨.badArg, []⟩ }) ∧
    (∀ n : Nat, 2 ≤ n → n ≤ 24 → ((s.loop i).state ≠ .stopped ∨ (∃ k : Slot, n ≤ k.val ∧ s.bound ⟨i, k⟩ ≠ none)) →
      exec (.loopSet (loopCode i) n) s = .next { s with answer := some ⟨.wrongState, []⟩ }) ∧
    (∀ n : Nat, 2 ≤ n → n ≤ 24 → (s.loop i).state = .stopped → (∀ k : Slot, n ≤ k.val → s.bound ⟨i, k⟩ = none) →
      ∃ t : State, exec (.loopSet (loopCode i) n) s = .next t ∧ t.loop i = { s.loop i with slotCount := n } ∧
        (∀ j : LoopId, j ≠ i → t.loop j = s.loop j) ∧
        t = { s with tapLoops := t.tapLoops, answer := some ⟨.ok, byte n⟩ }) ∧
    ((s.loop i).state ≠ .stopped →
      exec (.loopStart (loopCode i)) s = .next { s with answer := some ⟨.wrongState, []⟩ }) ∧
    ((s.loop i).state = .stopped ∨ (s.loop i).slot ≠ none → exec (.frameSync i) s = .next s) ∧
    (∀ (cmd : Instr) (state : LoopState) (answer : Option Answer),
      (cmd = .loopStart (loopCode i) ∧ (s.loop i).state = .stopped ∧ state = .running s.timing.frameRate ∧
          answer = some ⟨.ok, bytesBE 2 s.timing.frameRate ++ byte (s.loop i).slotCount⟩ ∨
        cmd = .frameSync i ∧ (s.loop i).state ≠ .stopped ∧ (s.loop i).slot = none ∧ state = (s.loop i).state ∧
          answer = s.answer) →
      ∃ t : State, exec cmd s = .next t ∧
        t.loop i = { s.loop i with
          state := state, slot := some 0, frames := satAdd (s.loop i).frames 1, latched := (t.loop i).latched } ∧
        (∀ k : Slot, look (t.loop i).latched k = if k.val < (s.loop i).slotCount then
            some (match s.bound ⟨i, k⟩ with | some l => s.outbound l | none => ⟨false, .off, 0, 0⟩)
          else none) ∧
        (∀ j : LoopId, j ≠ i → t.loop j = s.loop j) ∧ t = { s with tapLoops := t.tapLoops, answer := answer })

/-- The outbound command of a line: the valve, the lamp by the first row of its table that applies, the portion and the value;
and its word on the wire with its check byte (R63, R64, R185). -/
def Obligations.OutboundCommandShowsThePour : Prop :=
  (∀ (s : State) (l : Line),
    ((s.outbound l).valve = true ↔ ∃ p n bf bp, (s.pour l).record = .pouring p n bf bp) ∧
    (s.outbound l).lamp =
      (if (∃ p, (s.pour l).record.pour = some p ∧ p.kind = .clean) then .cleaning
      else if (s.pour l).record.code = 2 ∨ (s.pour l).record.code = 3 then .pouring
      else if (s.pour l).record.code = 1 then .waiting
      else if (s.pour l).shown ≠ none then .refused
      else if (s.line l).mode = .held then .held
      else if (s.line l).mode = .cleaning then .cleaning
      else if (s.line l).mode = .ready ∧ s.queued l = false ∧ s.lineGate l ≠ .hot then .ready
      else .notReady) ∧
    (∀ p : Pour, (s.pour l).record.pour = some p → (s.outbound l).portion =
      (match p.kind with | .portion n => n.val + 1 | .free => 5 | .prime => 7 | .clean => 0)) ∧
    ((s.pour l).record = .idle → (s.outbound l).portion = 0) ∧
    ((s.outbound l).lamp = .refused → ∀ r, (s.pour l).shown = some r → (s.outbound l).value = r.code) ∧
    ((s.outbound l).lamp ≠ .refused → (s.outbound l).value =
      match (s.pour l).record with
      | .pouring p _ _ _ => min 63 (64 * p.v / p.target)
      | .tailing p _ _ _ _ _ => min 63 (64 * p.v / p.target)
      | _ => 0)) ∧
  (∀ c : OutCommand, c.portion < 8 → c.value < 64 →
    c.word.getLsbD 23 = c.valve ∧ (c.word.extractLsb' 20 3).toNat = c.lamp.code ∧
    (c.word.extractLsb' 17 3).toNat = c.portion ∧ c.word.getLsbD 16 = false ∧ c.word.extractLsb' 14 2 = 0#2 ∧
    (c.word.extractLsb' 8 6).toNat = c.value ∧
    c.word.extractLsb' 0 8 = ~~~(c.word.extractLsb' 16 8 ^^^ c.word.extractLsb' 8 8))

/-- LOOP_STOP: the loop stops, every pour on it ends at once, a WAITING one withdrawn, a POURING or TAILING one settled with ending
IMMEDIATE; the lines of the active group on it fail FAIL_LOOP, a group that waits in RELEASE for their draws alone is released, and
the two counts are answered. LOOP_RESET does the same to a RUNNING loop, and clears the counters, the latched words and the receive
states of any; another loop's pours stay (R116, R117, R57, R159, R147). That no pour is promoted and no group formed before every pour
of the loop has ended, and that the release comes before the loop's report, is the model's reading (log entry 12). -/
def Obligations.LoopStopEndsThePoursOfTheLoop : Prop :=
  ∀ (s : State) (i : LoopId), s.resetHeld = false →
    ((s.loop i).state = .stopped →
      exec (.loopStop (loopCode i)) s = .next { s with answer := some ⟨.wrongState, []⟩ } ∧
      ∃ u : State, exec (.loopReset (loopCode i)) s = .next u.follow ∧ LoopCleared s u i ∧
        u = { s with tapLoops := u.tapLoops, answer := some ⟨.ok, bytesBE 4 0 ++ bytesBE 4 0⟩ }) ∧
    ((s.loop i).state ≠ .stopped → ∃ w u : State, exec (.loopStop (loopCode i)) s = .next w.follow ∧
      exec (.loopReset (loopCode i)) s = .next u.follow ∧ LoopCleared s u i ∧ u = { w with tapLoops := u.tapLoops } ∧
      w.loop i = { s.loop i with state := .stopped, slot := none } ∧ (∀ j : LoopId, j ≠ i → w.loop j = s.loop j) ∧
      (∀ k l, s.bound ⟨i, k⟩ = some l → (w.pour l).record = .idle ∧ (w.pour l).shown = (s.pour l).shown ∧
        ((s.pour l).record = .idle → (w.pour l).last = (s.pour l).last) ∧
        (∀ p n, (s.pour l).record = .waiting p n → (w.pour l).last = (s.pour l).last ∧
          ∀ c, (s.line l).cfg = some c → l ∉ (w.trunk c.trunk).queue) ∧
        (∀ p n bf bp, (s.pour l).record = .pouring p n bf bp → ∃ x : Settlement, (w.pour l).last = some x ∧
          x.kind = p.kind ∧ x.reason = .loopStopped ∧ x.ending = .immediate ∧ x.vml = (p.v + 500000) / 1000000 ∧
          x.measured = 0) ∧
        (∀ p n v r q m, (s.pour l).record = .tailing p n v r q m → ∃ x : Settlement, (w.pour l).last = some x ∧
          x.kind = p.kind ∧ x.reason = r ∧ x.ending = .immediate ∧ x.vml = (p.v + 500000) / 1000000 ∧
          x.measured = p.v - v)) ∧
      (∀ l : Line, (∀ k, s.bound ⟨i, k⟩ ≠ some l) →
        w.pour l = s.pour l ∧ (s.cleaning.group = none → w.line l = s.line l ∧ w.kegSlots l = s.kegSlots l)) ∧
      ((∀ k l, s.bound ⟨i, k⟩ = some l → (s.pour l).record = .idle) → s.cleaning.group = none →
        w = { s with tapLoops := w.tapLoops, answer := w.answer }) ∧
      (∀ (g : Group) (x : GroupLine) (k : Slot), s.cleaning.group = some g → g.phase ≠ .release → x ∈ g.lines →
        x.result.takesPart = true → s.bound ⟨i, k⟩ = some x.line →
        ∃ h : Group, w.cleaning.group = some h ∧ ∃ y ∈ h.lines, y.line = x.line ∧ y.result = .failLoop) ∧
      (∀ g : Group, s.cleaning.group = some g → g.phase = .release → (g.lines.map GroupLine.line).Nodup →
        (∀ x ∈ g.lines, (s.line x.line).mode = .cleaning) → (∃ x ∈ g.lines, x.draw ≠ none) →
        (∀ x ∈ g.lines, x.draw ≠ none → (∃ k, s.bound ⟨i, k⟩ = some x.line) ∧ 2 ≤ (s.pour x.line).record.code ∧
          ∃ p, (s.pour x.line).record.pour = some p ∧ p.kind = .clean) →
        w.cleaning.group = none ∧ ∀ x ∈ g.lines, (w.line x.line).cleanResult = x.result.toClean ∧
          (w.line x.line).mode = if x.result = .pass ∨ x.result = .aborted then .water else .foul) ∧
      w.answer = some ⟨.ok,
        bytesBE 4 ((s.loopLines i).countP fun l => (s.pour l).record.code == 1) ++
        bytesBE 4 ((s.loopLines i).countP fun l => 2 ≤ (s.pour l).record.code)⟩)

/-- The end of the slot in progress of a RUNNING loop begins the next slot; an unbound slot's word is discarded, and a word that
fails its check, or repeats the last sequence, is a miss: its counter, one frame of the pour and the miss run, the accepted code
and sequence kept (R108, R110, R112, R37). That the end of a slot that is not in progress changes nothing is the model's choice
(log entry 14), and that a start grace raised above the frames open keeps a block in progress (log entry 26); that the block counters
of a CLEAN draw stay as they are is its reading (log entry 31). -/
def Obligations.BadAndStaleWordsAreMisses : Prop :=
  ∀ (s : State) (b : Binding) (word : SlotWord) (next : Option Slot), s.resetHeld = false →
    ((s.loop b.loop).state = .stopped ∨ (s.loop b.loop).slot ≠ some b.slot →
      exec (.slotEnd b.loop b.slot word) s = .next s.follow) ∧
    ((s.loop b.loop).state ≠ .stopped → (s.loop b.loop).slot = some b.slot → NextSlot (s.loop b.loop) b.slot next →
      s.bound b = none → ∃ u : State, exec (.slotEnd b.loop b.slot word) s = .next u.follow ∧
        u.loop b.loop = { s.loop b.loop with slot := next } ∧ (∀ j : LoopId, j ≠ b.loop → u.loop j = s.loop j) ∧
        u = { s with tapLoops := u.tapLoops }) ∧
    (∀ (l : Line) (r : RecvState) (bad : Prop) (old new : PourRec), (s.loop b.loop).state ≠ .stopped →
      (s.loop b.loop).slot = some b.slot → NextSlot (s.loop b.loop) b.slot next → s.bound b = some l →
      s.recv b = some r → (bad ↔ word.extractLsb' 0 8 ≠ ~~~(word.extractLsb' 16 8 ^^^ word.extractLsb' 8 8)) →
      (bad ∨ r.lastSeq = some (word.extractLsb' 8 3)) →
      (r.lost = true ∨ r.missRun + 1 < s.timing.lostThreshold) → (s.pour l).record = old →
      (old = .idle ∧ new = .idle ∨
        (∃ p n, old = .waiting p n ∧ n + 1 < s.timing.waitTimeout ∧ new = .waiting p (n + 1)) ∨
        (∃ p n bf bp m, old = .pouring p n bf bp ∧ m = min (n + 1) 65535 ∧
          new = if p.kind = .clean then .pouring p m bf bp
            else if p.kind.isSale = true ∧ s.timing.maxPour ≤ m then .tailing p m p.v .overtime 0 0
            else if m ≤ s.timing.startGrace then .pouring p m bf bp
            else if bf + 1 < s.timing.lowFlowBlock then .pouring p m (bf + 1) bp
            else if bp < s.timing.lowFlowMin then .tailing p m p.v .lowFlow 0 0
            else .pouring p m 0 0) ∨
        (∃ p n v c q k, old = .tailing p n v c q k ∧ q < s.timing.settle ∧ k + 1 < s.timing.tailWindow ∧
          new = .tailing p (min (n + 1) 65535) v c q (k + 1))) →
      ∃ u : State, exec (.slotEnd b.loop b.slot word) s = .next u.follow ∧
        u.recv b = some { r with missRun := min (r.missRun + 1) 65535 } ∧
        (∀ c : Binding, c ≠ b → u.recv c = s.recv c) ∧ (∀ j : LoopId, j ≠ b.loop → u.loop j = s.loop j) ∧
        (bad → u.loop b.loop = { s.loop b.loop with
          slot := next, recv := (u.loop b.loop).recv, checkErrors := satAdd (s.loop b.loop).checkErrors 1 }) ∧
        (¬bad → u.loop b.loop = { s.loop b.loop with
          slot := next, recv := (u.loop b.loop).recv, stales := satAdd (s.loop b.loop).stales 1 }) ∧
        u = { s with
          pourControl := { s.pourControl with pours := put s.pourControl.pours l { s.pour l with record := new } }
          tapLoops := u.tapLoops })

/-- FAUCET_LOST on a slot whose miss run has reached the lost threshold: the flag is set, the code goes, FAUCET_LOST is raised,
and the pour ends at once, a WAITING one withdrawn and a metered one settled with ending IMMEDIATE (R113, R57). That it is a
command without effect on a stopped loop or before its count is the model's reading (log entry 4). -/
def Obligations.ALostFaucetEndsItsPour : Prop :=
  ∀ (s : State) (b : Binding) (l : Line) (r : RecvState), s.resetHeld = false → s.bound b = some l →
    s.recv b = some r →
    ((s.loop b.loop).state = .stopped → exec (.faucetLost b.loop b.slot) s = .next s) ∧
    ((s.loop b.loop).state ≠ .stopped → r.lost = true ∨ r.missRun < s.timing.lostThreshold →
      exec (.faucetLost b.loop b.slot) s = .next s.follow) ∧
    ((s.loop b.loop).state ≠ .stopped → r.lost = false → s.timing.lostThreshold ≤ r.missRun →
      ∃ u : State, exec (.faucetLost b.loop b.slot) s = .next u.follow ∧
        u.recv b = some { r with lost := true, code := none } ∧ (∀ c : Binding, c ≠ b → u.recv c = s.recv c) ∧
        (look u.link.attention.lines 8).getLsbD l.val = true ∧ (u.pour l).record = .idle ∧
        (u.pour l).shown = (s.pour l).shown ∧
        ((s.pour l).record = .idle ∨ (∃ p n, (s.pour l).record = .waiting p n) →
          (u.pour l).last = (s.pour l).last ∧ u.lineTable = s.lineTable) ∧
        (∀ (p : Pour) (n : Nat), (s.pour l).record = .waiting p n →
          (∀ c, (s.line l).cfg = some c → l ∉ (u.trunk c.trunk).queue) ∧ u.accounts = (s.releasePour p).accounts) ∧
        (∀ (p : Pour) (n bf bp : Nat), (s.pour l).record = .pouring p n bf bp →
          ∃ x : Settlement, (u.pour l).last = some x ∧ x.kind = p.kind ∧ x.reason = .lost ∧ x.ending = .immediate ∧
            x.vml = (p.v + 500000) / 1000000 ∧ x.measured = 0) ∧
        (∀ (p : Pour) (n v : Nat) (c : CloseReason) (q k : Nat), (s.pour l).record = .tailing p n v c q k →
          ∃ x : Settlement, (u.pour l).last = some x ∧ x.kind = p.kind ∧ x.reason = c ∧ x.ending = .immediate ∧
            x.vml = (p.v + 500000) / 1000000 ∧ x.measured = p.v - v))

/-- An accepted word restores the faucet and takes its place in the receive state, code NONE clears the shown refusal, and the pour
record as it stands decides. A WAITING pour is withdrawn by STOP or a handle let go, and else counts a wait frame to its timeout. A
POURING one is metered by K with the close test, and what the test left open is closed by STOP, a handle let go, overtime or a low
flow; a CLEAN draw by its test alone. A TAILING one is metered and ends quiet or at its window (R24 to R27, R37 to R40, R49, R50, R52
to R54, R56, R110, R111, R114). That the code of an arrival is read before its wait frame is counted (log entry 11), that a request in
it is judged before its frame acts on the pour (log entry 10), and that a CLEAN draw's block counters stay as they are
(log entry 31), are the model's reading, and that a start grace raised above the frames open keeps a block in progress is its choice
(log entry 26). -/
def Obligations.ArrivalsMeterThePour : Prop :=
  ∀ (s : State) (b : Binding) (word : SlotWord) (l : Line) (r : RecvState) (c : LineCfg) (next : Option Slot)
    (code : BitVec 3) (d : Nat) (shown : Option RefusalReason) (lines : Vector LineRec 32),
    s.Hears b word l r c next code d →
    (Asks r code → (s.pour l).record ≠ .idle ∧ ¬((s.line l).mode = .water ∧ code = 7#3)) →
    shown = (if code = 0#3 then none
      else if Asks r code then (s.line l).mode.refusal (code == 7#3) (s.queued l) (s.pour l).shown
      else (s.pour l).shown) →
    lines = put s.lineTable.lines l { s.line l with
      saturation := if word.getLsbD 15 then satAdd (s.line l).saturation 1 else (s.line l).saturation } →
    ((s.pour l).record = .idle → ∃ u : State, exec (.slotEnd b.loop b.slot word) s = .next u.follow ∧
      Heard s u b word code next ∧ u = { s with
        pourControl := { s.pourControl with pours := put s.pourControl.pours l { s.pour l with shown := shown } }
        tapLoops := u.tapLoops }) ∧
    (∀ (p : Pour) (n : Nat) (leaves : Prop), (s.pour l).record = .waiting p n →
      (leaves ↔ code = 6#3 ∨ p.kind = .free ∧ code ≠ 5#3 ∨ p.kind = .prime ∧ code ≠ 7#3) →
      ∃ u : State, exec (.slotEnd b.loop b.slot word) s = .next u.follow ∧ Heard s u b word code next ∧
        (leaves ∨ s.timing.waitTimeout ≤ n + 1 → ∃ left : Option RefusalReason, (leaves → left = shown) ∧
          (¬leaves → left = some .timeout) ∧ u = { s with
            pourControl := { s.pourControl with
              pours := put s.pourControl.pours l { s.pour l with record := .idle, shown := left }
              trunks := put s.pourControl.trunks c.trunk { s.trunk c.trunk with
                queue := (s.trunk c.trunk).queue.filter fun m => m != l } }
            accounts := (s.releasePour p).accounts
            link := (s.releasePour p).link
            tapLoops := u.tapLoops }) ∧
        (¬leaves → n + 1 < s.timing.waitTimeout → u = { s with
          pourControl := { s.pourControl with
            pours := put s.pourControl.pours l { s.pour l with record := .waiting p (n + 1), shown := shown } }
          tapLoops := u.tapLoops })) ∧
    (∀ (p q : Pour) (n bf bp m v : Nat), (s.pour l).record = .pouring p n bf bp → m = min (n + 1) 65535 →
      v = min (p.v + d * c.k) 4294967295 →
      q = { p with v := v, clamp := p.clamp || decide (4294967295 < p.v + d * c.k) } →
      ∃ u : State, exec (.slotEnd b.loop b.slot word) s = .next u.follow ∧ Heard s u b word code next ∧ u = { s with
        lineTable := { s.lineTable with lines := lines }
        pourControl := { s.pourControl with pours := put s.pourControl.pours l { s.pour l with
          shown := shown
          record :=
            if p.target ≤ v + (if p.kind = .prime ∨ p.kind = .clean then 0 else c.tail) then
              .tailing q n v (if p.kind = .free then .cap else .target) 0 0
            else if p.kind = .clean then .pouring q m bf bp
            else if code = 6#3 then .tailing q n v .stop 0 0
            else if p.kind = .free ∧ code ≠ 5#3 ∨ p.kind = .prime ∧ code ≠ 7#3 then .tailing q n v .handle 0 0
            else if p.kind.isSale = true ∧ s.timing.maxPour ≤ m then .tailing q m v .overtime 0 0
            else if m ≤ s.timing.startGrace then .pouring q m bf bp
            else if bf + 1 < s.timing.lowFlowBlock then .pouring q m (bf + 1) (bp + d)
            else if bp + d < s.timing.lowFlowMin then .tailing q m v .lowFlow 0 0
            else .pouring q m 0 0 } }
        tapLoops := u.tapLoops }) ∧
    (∀ (p q : Pour) (n vClose k m quiet : Nat) (reason : CloseReason) (w : State),
      (s.pour l).record = .tailing p n vClose reason k m → quiet = (if d = 0 then k + 1 else 0) →
      q = { p with
        v := min (p.v + d * c.k) 4294967295, clamp := p.clamp || decide (4294967295 < p.v + d * c.k) } →
      w = { s with
        lineTable := { s.lineTable with lines := lines }
        pourControl := { s.pourControl with pours := put s.pourControl.pours l { s.pour l with
          record := .tailing q (min (n + 1) 65535) vClose reason quiet (m + 1), shown := shown } } } →
      ∃ u : State, exec (.slotEnd b.loop b.slot word) s = .next u.follow ∧ Heard s u b word code next ∧
        (s.timing.settle ≤ quiet → u = { w.settle l q vClose reason .quiet with tapLoops := u.tapLoops }) ∧
        (quiet < s.timing.settle → s.timing.tailWindow ≤ m + 1 →
          u = { w.settle l q vClose reason .window with tapLoops := u.tapLoops }) ∧
        (quiet < s.timing.settle → m + 1 < s.timing.tailWindow → u = { w with tapLoops := u.tapLoops }))

/-- A request at a faucet whose pour record is IDLE goes through the six checks in their order: it is refused with the reason shown,
a hold already placed released, or it pours where its trunk has room and waits at the tail of its queue otherwise, with the target
and hold of its kind and the shown refusal gone; PRIME on a WATER line is asked of the Line Table as LINE_PRIME asks it (R38, R40 to
R46, R6, R26, R32). That the arrival of an admitted request is not the new pour's first frame too is the model's reading (log entry
10). -/
def Obligations.RequestsAreAdmittedOrRefused : Prop :=
  ∀ (s : State) (b : Binding) (word : SlotWord) (l : Line) (r : RecvState) (c : LineCfg) (next : Option Slot)
    (code : BitVec 3) (d : Nat) (kind : PourKind) (target hold : Nat) (m : State), s.Hears b word l r c next code d →
    (s.pour l).record = .idle → Asks r code →
    s.Latches c (if (s.line l).mode = .water then 0 else (s.line l).primed.getD 0) code kind target hold →
    (∀ (why : RefusalReason) (open_ : Prop),
      (open_ ↔ s.queued l = false ∧ ((s.line l).mode = .ready ∧ code ≠ 7#3 ∨ (s.line l).mode = .priming ∧ code = 7#3)) →
      (¬((s.line l).mode = .water ∧ code = 7#3) ∧ (s.line l).mode.refusal (code == 7#3) (s.queued l) none = some why ∨
        ((s.line l).mode = .water ∧ code = 7#3 ∧
          why = (if s.queued l = true then .cleanPending
            else if s.eligible l .A = false ∧ s.eligible l .B = false then .notReady
            else if s.lineGate l = .hot then .tooWarm
            else .notReady) ∧
          (s.queued l = true ∨ s.eligible l .A = false ∧ s.eligible l .B = false ∨ s.lineGate l = .hot ∨
            s.valves.fault = true)) ∨
        open_ ∧ s.lineGate l = .hot ∧ why = .tooWarm ∨
        open_ ∧ s.lineGate l ≠ .hot ∧ kind ≠ .prime ∧ c.account ≠ 0 ∧
          (s.placeHold c.account hold = .noAccount ∧ why = .noAccount ∨
            s.placeHold c.account hold = .noCredit ∧ why = .noCredit)) →
      ∃ u : State, exec (.slotEnd b.loop b.slot word) s = .next u.follow ∧ Heard s u b word code next ∧ u = { s with
        pourControl := { s.pourControl with pours := put s.pourControl.pours l { s.pour l with shown := some why } }
        tapLoops := u.tapLoops }) ∧
    (∀ (p : Pour) (accounts : Vector (Option Account) 48), s.queued l = false → s.lineGate l ≠ .hot →
      (((s.line l).mode = .ready ∧ code ≠ 7#3 ∨ (s.line l).mode = .priming ∧ code = 7#3) ∧ m = s ∨
        (s.line l).mode = .water ∧ code = 7#3 ∧ s.valves.fault = false ∧ s.onTap l = none ∧
          (s.eligible l .A = true ∨ s.eligible l .B = true) ∧ m.answer = s.answer ∧
          ∃ a : Option Answer, exec (.linePrime l.val) s = .next { m with answer := a }) →
      ((kind = .prime ∨ c.account = 0) ∧ accounts = s.accounts ∨
        kind ≠ .prime ∧ c.account ≠ 0 ∧ ∃ t : State, s.placeHold c.account hold = .placed t ∧ accounts = t.accounts) →
      p = { kind := kind, target := target, hold := hold, account := if kind = .prime then none else some c.account
            v := 0, clamp := false, warm := decide (s.lineGate l = .warn) } →
      ∃ u : State, exec (.slotEnd b.loop b.slot word) s = .next u.follow ∧ Heard s u b word code next ∧
        (s.trunkPouring c.trunk < (s.trunk c.trunk).limit → u = { m with
          pourControl := { s.pourControl with
            pours := put s.pourControl.pours l { s.pour l with record := .pouring p 0 0 0, shown := none } }
          accounts := accounts
          tapLoops := u.tapLoops }) ∧
        ((s.trunk c.trunk).limit ≤ s.trunkPouring c.trunk → (s.trunk c.trunk).queue.length < 8 → u = { m with
          pourControl := { s.pourControl with
            pours := put s.pourControl.pours l { s.pour l with record := .waiting p 0, shown := none }
            trunks := put s.pourControl.trunks c.trunk { s.trunk c.trunk with
              queue := (s.trunk c.trunk).queue ++ [l] } }
          accounts := accounts
          tapLoops := u.tapLoops }) ∧
        ((s.trunk c.trunk).limit ≤ s.trunkPouring c.trunk → 8 ≤ (s.trunk c.trunk).queue.length → u = { m with
          pourControl := { s.pourControl with
            pours := put s.pourControl.pours l { s.pour l with shown := some .trunkFull } }
          tapLoops := u.tapLoops }))

/-! ### Cellar Climate -/

/-- SCAN_SET, SCAN_START and SCAN_STOP run the scanner over its mask, lowest input first; CHANNEL_SET moves a role to an input,
restarts the roles it touches and evaluates their gates (R120, R121, R122). -/
def Obligations.ScannerAndInputsAreSet : Prop :=
  ∀ s : State, s.resetHeld = false →
    (∀ (n : Nat) (mask : BitVec 16), n ≠ 8 → n ≠ 10 → n ≠ 12 →
      exec (.scanSet n mask) s = .next { s with answer := some ⟨.badArg, []⟩ }) ∧
    (∀ (n : Nat) (mask : BitVec 16) (first : Option Conversion), (n = 8 ∨ n = 10 ∨ n = 12) →
      (mask = 0#16 ∧ first = none ∨ ∃ i : SenseInput, mask.getLsbD i.val = true ∧
        (∀ j : SenseInput, j < i → mask.getLsbD j.val = false) ∧ first = some ⟨i, n⟩) →
      exec (.scanSet n mask) s = .next { s with
        climate := { s.climate with scanner := {
          running := s.climate.scanner.running, resolution := n, mask := mask
          conversion := if s.climate.scanner.running = true ∧ s.climate.scanner.conversion = none then first
            else s.climate.scanner.conversion } }
        answer := some ⟨.ok, byte n ++ bytesBE 2 mask.toNat⟩ }) ∧
    (s.climate.scanner.running = true →
      exec .scanStart s = .next { s with answer := some ⟨.wrongState, []⟩ } ∧
      exec .scanStop s = .next { s with
        climate := { s.climate with scanner := { s.climate.scanner with running := false, conversion := none } }
        answer := some ⟨.ok, []⟩ }) ∧
    (s.climate.scanner.running = false →
      exec .scanStop s = .next { s with answer := some ⟨.wrongState, []⟩ } ∧
      ∀ first : Option Conversion, s.climate.scanner.conversion = none →
        (s.climate.scanner.mask = 0#16 ∧ first = none ∨ ∃ i : SenseInput, s.climate.scanner.mask.getLsbD i.val = true ∧
          (∀ j : SenseInput, j < i → s.climate.scanner.mask.getLsbD j.val = false) ∧
          first = some ⟨i, s.climate.scanner.resolution⟩) →
        exec .scanStart s = .next { s with
          climate := { s.climate with scanner := { s.climate.scanner with running := true, conversion := first } }
          answer := some ⟨.ok, []⟩ }) ∧
    (∀ (input role : Nat) (base : Int) (span : Nat), 16 ≤ input ∨ 16 ≤ role →
      exec (.channelSet input role base span) s = .next { s with answer := some ⟨.badArg, []⟩ }) ∧
    (∀ (i : SenseInput) (r : Role) (base : Int) (span : Nat) (other : Option SenseInput),
      (r = .unused ∧ other = none ∨ r ≠ .unused ∧ (∀ j, j ≠ i → ((s.input j).role = r ↔ other = some j)) ∧ other ≠ some i) →
      ∃ u : State, exec (.channelSet i.val r.code base span) s = .next u.follow ∧
        u.input i = { role := r, base := base, span := span } ∧
        (∀ j : SenseInput, j ≠ i → u.input j = if other = some j then { s.input j with role := .unused } else s.input j) ∧
        (∀ k : Fin 15, u.role k = if (s.input i).role.index = some k ∨ r.index = some k then ⟨none, none, 0, false⟩
          else s.role k) ∧
        (∀ (t : Trunk) (v : State), v = State.evalGate { s with
            climate := { s.climate with inputs := u.climate.inputs, roles := u.climate.roles } } t →
          (r.trunk = some t ∨ (s.input i).role.trunk = some t → u.zone t = v.zone t ∧
            u.link.attention.trunkHot.getLsbD t.val = v.link.attention.trunkHot.getLsbD t.val) ∧
          (r.trunk ≠ some t → (s.input i).role.trunk ≠ some t → u.zone t = s.zone t ∧
            u.link.attention.trunkHot.getLsbD t.val = s.link.attention.trunkHot.getLsbD t.val)) ∧
        u = { s with
          climate := { s.climate with
            inputs := u.climate.inputs, roles := u.climate.roles, zones := u.climate.zones }
          link := { s.link with attention := { s.link.attention with trunkHot := u.link.attention.trunkHot } }
          answer := some ⟨.ok, byte r.code ++ bytesInt 2 base ++ bytesBE 2 span ++
            (match other with | some j => byte 1 ++ byte j.val | none => byte 0 ++ byte 0)⟩ })

/-- An evaluation of a trunk's gate: its source and value by the available roles, the new state by the table, TRUNK_HOT when it
enters HOT, and nothing else (R126, R127, R128). -/
def Obligations.GateFollowsItsTable : Prop :=
  ∀ (s : State) (t : Trunk) (source : GateSource) (g : Option Int) (new : Gate),
    (s.zone t).warn ≤ (s.zone t).stop →
    (∀ r : Role, s.climate.reading r = none ∨ ∃ (i : SenseInput) (k : Fin 15) (f : Int), (s.input i).role = r ∧
      r.index = some k ∧ (s.role k).failed = false ∧ (s.role k).filtered = some f ∧ s.climate.reading r = some f) ∧
    ((∃ f, s.climate.reading (.trunkBeer t) = some f ∧ source = .beer ∧ g = some f) ∨
      (s.climate.reading (.trunkBeer t) = none ∧ ∃ f, s.climate.reading (.trunkGlycol t) = some f ∧ source = .glycol ∧
        g = some (f + 32)) ∨
      (s.climate.reading (.trunkBeer t) = none ∧ s.climate.reading (.trunkGlycol t) = none ∧ source = .none ∧ g = none) →
    (g = none ∧ new = .warn ∨ ∃ G : Int, g = some G ∧
      ((s.zone t).gate = .cold ∧ (s.zone t).stop < G ∧ new = .hot ∨
        (s.zone t).gate = .cold ∧ (s.zone t).warn < G ∧ G ≤ (s.zone t).stop ∧ new = .warn ∨
        (s.zone t).gate = .cold ∧ G ≤ (s.zone t).warn ∧ new = .cold ∨
        (s.zone t).gate = .warn ∧ (s.zone t).stop < G ∧ new = .hot ∨
        (s.zone t).gate = .warn ∧ G ≤ (s.zone t).warn - 8 ∧ new = .cold ∨
        (s.zone t).gate = .warn ∧ (s.zone t).warn - 8 < G ∧ G ≤ (s.zone t).stop ∧ new = .warn ∨
        (s.zone t).gate = .hot ∧ G ≤ (s.zone t).warn - 8 ∧ new = .cold ∨
        (s.zone t).gate = .hot ∧ (s.zone t).warn - 8 < G ∧ G ≤ (s.zone t).stop - 8 ∧ new = .warn ∨
        (s.zone t).gate = .hot ∧ (s.zone t).stop - 8 < G ∧ new = .hot)) →
    (s.evalGate t).zone t = { s.zone t with gate := new, source := source } ∧
      SameBut s.climate.zones (s.evalGate t).climate.zones t ∧
      (∀ k : Trunk, (s.evalGate t).link.attention.trunkHot.getLsbD k.val =
        (s.link.attention.trunkHot.getLsbD k.val || (k == t && new == .hot && (s.zone t).gate != .hot))) ∧
      s.evalGate t = { s with
        climate := { s.climate with zones := (s.evalGate t).climate.zones }
        link := { s.link with attention := { s.link.attention with
          trunkHot := (s.evalGate t).link.attention.trunkHot } } })

/-- A completed conversion: a rail code is a probe fault, the eighth of a run fails the role with PROBE_FAULT; any other code is
scaled, clamped and filtered; the gate of the role's trunk is evaluated and the next enabled input is started (R122, R123,
R124). That a conversion with the scanner stopped has no effect (log entry 14), that PROBE_FAILED is a command without effect
where it is not due (log entry 4), and that the conversion of an input no longer in the mask is judged (log entry 27), are the model's
reading. -/
def Obligations.ConversionsAreFilteredOrFaulted : Prop :=
  ∀ s : State, s.resetHeld = false →
    (s.climate.scanner.running = false ∨ s.climate.scanner.conversion = none → ∀ code : Nat,
      exec (.conversionComplete code) s = .next s.follow) ∧
    (∀ (i : SenseInput) (k : Fin 15), (s.input i).role.index = some k → (s.role k).faultRun < 8 ∨ (s.role k).failed = true →
      exec (.probeFailed i) s = .next s.follow) ∧
    (∀ (i : SenseInput) (k : Fin 15), (s.input i).role.index = some k → 8 ≤ (s.role k).faultRun →
      (s.role k).failed = false → ∃ u : State, exec (.probeFailed i) s = .next u.follow ∧
        u.role k = { s.role k with failed := true } ∧ SameBut s.climate.roles u.climate.roles k ∧
        u.link.attention.probeFault.getLsbD i.val = true ∧
        (∀ t : Trunk, u.zone t = if (s.input i).role.trunk = some t then ({ s with
          climate := { s.climate with roles := u.climate.roles } }.evalGate t).zone t else s.zone t) ∧
        u = { s with
          climate := { s.climate with roles := u.climate.roles, zones := u.climate.zones }
          link := { s.link with attention := { s.link.attention with
            probeFault := u.link.attention.probeFault, trunkHot := u.link.attention.trunkHot } } }) ∧
    (∀ (i : SenseInput) (bits code : Nat) (next : Option Conversion), s.climate.scanner.running = true →
      s.climate.scanner.conversion = some ⟨i, bits⟩ → code < 2 ^ bits →
      (s.climate.scanner.mask = 0#16 ∧ next = none ∨ ∃ j : SenseInput, s.climate.scanner.mask.getLsbD j.val = true ∧
        next = some ⟨j, s.climate.scanner.resolution⟩ ∧
        (i < j ∧ (∀ m : SenseInput, i < m → m < j → s.climate.scanner.mask.getLsbD m.val = false) ∨
          j ≤ i ∧ (∀ m : SenseInput, i < m ∨ m < j → s.climate.scanner.mask.getLsbD m.val = false))) →
      ∃ u : State, exec (.conversionComplete code) s = .next u.follow ∧
        u.climate.scanner = { s.climate.scanner with conversion := next } ∧
        ((s.input i).role = .unused → u = { s with climate := { s.climate with scanner := u.climate.scanner } }) ∧
        (∀ k : Fin 15, (s.input i).role.index = some k →
          SameBut s.climate.roles u.climate.roles k ∧
          (code = 0 ∨ code = 2 ^ bits - 1 → u.role k = { s.role k with
              faultRun := min ((s.role k).faultRun + 1) 255
              failed := (s.role k).failed || decide (8 ≤ min ((s.role k).faultRun + 1) 255) } ∧
            ((s.role k).failed = false → 7 ≤ (s.role k).faultRun →
              u.link.attention.probeFault.getLsbD i.val = true ∧
              ∀ t : Trunk, u.zone t = if (s.input i).role.trunk = some t then ({ s with
                climate := { s.climate with roles := u.climate.roles } }.evalGate t).zone t else s.zone t) ∧
            ((s.role k).failed = true ∨ (s.role k).faultRun < 7 → u.climate.zones = s.climate.zones ∧
              u.link.attention = s.link.attention)) ∧
          (code ≠ 0 → code ≠ 2 ^ bits - 1 → ∀ v lo hi : Int,
            (if (s.input i).role = .solutionCond then lo = 0 ∧ hi = 20000 else lo = -640 ∧ hi = 1600) →
            v = max lo (min hi ((s.input i).base + ((s.input i).span * code / 2 ^ bits : Nat))) →
            u.role k = { value := some v, faultRun := 0, failed := false
                         filtered := some (match (s.role k).filtered with
                           | none => v
                           | some f => f + (v - f) / 4) } ∧
            u.link.attention.probeFault = s.link.attention.probeFault ∧
            (∀ t : Trunk, u.zone t = if (s.input i).role.trunk = some t then ({ s with
              climate := { s.climate with roles := u.climate.roles } }.evalGate t).zone t else s.zone t))) ∧
        u = { s with
          climate := { s.climate with
            scanner := u.climate.scanner, roles := u.climate.roles, zones := u.climate.zones }
          link := { s.link with attention := { s.link.attention with
            probeFault := u.link.attention.probeFault, trunkHot := u.link.attention.trunkHot } } })

/-- TRUNK_CLIMATE, CHILLER_SET and BOOST store their clamped values; the end of a boost, the duties of window 0 and the switch of a
stage by its wanted state and its run count (R129, R131, R134 to R137). That BOOST_END, CYCLE_START and STAGE_SWITCH are commands of
their own, the first two without effect where they are not due, is the model's reading (log entry 4). -/
def Obligations.ClimateSettingsDutiesAndStages : Prop :=
  ∀ s : State, s.resetHeld = false →
    (∀ (a : TrunkClimateArgs) (t : Trunk) (z : State), a.trunk = t.val →
      z = { s with climate := { s.climate with zones := put s.climate.zones t { s.zone t with
        setpoint := max (-640) (min 1600 a.setpoint), warn := max (-640) (min 1600 a.warn)
        stop := max (max (-640) (min 1600 a.stop)) (max (-640) (min 1600 a.warn)), gain := min 255 a.gain
        bias := min 16 a.bias } } } →
      ∃ u : State, exec (.trunkClimate a) s = .next u.follow ∧ u = { z.evalGate t with answer := some ⟨.ok,
        bytesInt 2 (z.zone t).setpoint ++ bytesInt 2 (z.zone t).warn ++ bytesInt 2 (z.zone t).stop ++
        byte (z.zone t).gain ++ byte (z.zone t).bias ++ byte ((z.evalGate t).zone t).gate.code ++
        byte ((z.evalGate t).zone t).source.code⟩ }) ∧
    (∀ (a : ChillerSetArgs) (c : Chiller), c = { s.climate.chiller with
        sp := max (-640) (min 1600 a.sp), h1 := min 320 a.h1, h2 := max (max 1 (min 640 a.h2)) (min 320 a.h1 + 1)
        minOn := min 255 a.minOn, minOff := min 255 a.minOff, surge := min 32 a.surge } →
      exec (.chillerSet a) s = .next { s with
        climate := { s.climate with chiller := c }
        answer := some ⟨.ok, bytesInt 2 c.sp ++ bytesBE 2 c.h1 ++ bytesBE 2 c.h2 ++ byte c.minOn ++ byte c.minOff ++
          byte c.surge ++ byte (if c.stage1.on then 0 else 1) ++ byte (if c.stage2.on then 0 else 1)⟩ }) ∧
    (∀ cycles : Nat, exec (.boost 0 cycles) s = .next { s with
      climate := { s.climate with boost := none }, answer := some ⟨.ok, byte 0 ++ (byte 0 ++ byte 0)⟩ }) ∧
    (∀ offset cycles : Nat, 1 ≤ offset → exec (.boost offset cycles) s = .next { s with
      climate := { s.climate with boost := some ⟨min 64 offset, max 1 (min 255 cycles)⟩ }
      answer := some ⟨.ok, byte 1 ++ (byte (min 64 offset) ++ byte (max 1 (min 255 cycles)))⟩ }) ∧
    exec .boostEnd s = .next { s with climate := { s.climate with
      boost := if (s.climate.boost.any fun b => b.remaining == 0) then none else s.climate.boost } } ∧
    (s.climate.window ≠ 0 → exec .cycleStart s = .next s) ∧
    (s.climate.window = 0 → ∃ u : State, exec .cycleStart s = .next u ∧
      (∀ t : Trunk, u.zone t = { s.zone t with duty := s.dutyDue t }) ∧
      u = { s with climate := { s.climate with zones := u.climate.zones } }) ∧
    (∀ (second wanted : Bool) (c : Chiller), c = s.climate.chiller → (wanted = true ↔ s.Wants second) →
      ∃ (u : State) (y : Stage), exec (.stageSwitch second) s = .next u ∧ y = c.switched (c.stage second) wanted ∧
        u.climate.chiller = (if second then { c with stage2 := y } else { c with stage1 := y }) ∧
        u.valve 16 = { s.valve 16 with next := (u.valve 16).next } ∧
        (∀ b : Fin 8, (u.valve 16).next.getLsbD b.val =
          if b.val = (if second then 7 else 6) then y.on else (s.valve 16).next.getLsbD b.val) ∧
        SameBut s.valves.groups u.valves.groups 16 ∧
        u = { s with
          climate := { s.climate with chiller := u.climate.chiller }
          valves := { s.valves with groups := u.valves.groups } })

/-! ### Line cleaning -/

/-- RECIPE_SET and CLEAN_SET store their clamped values; CLEAN_SUBMIT appends the lines of its set that are not queued, CLEANING or
OFFLINE, ascending, and has group formation considered (R140, R141, R142). That the warm flag is answered as 1 or 0 is the model's
choice (log entry 25). -/
def Obligations.RecipesSettingsAndSubmissions : Prop :=
  ∀ s : State, s.resetHeld = false →
    (∀ a : RecipeSetArgs, 4 ≤ a.recipe → exec (.recipeSet a) s = .next { s with answer := some ⟨.badArg, []⟩ }) ∧
    (∀ (a : RecipeSetArgs) (n : Fin 4) (r : Recipe), a.recipe = n.val →
      r = { warm := decide (a.warm ≠ 0), purge := max 100 (min 300 a.purge), caustic := max 100 (min 200 a.caustic)
            soak := max 60 (min 3600 a.soak), rinse := max 100 (min 300 a.rinse), passes := max 1 (min 8 a.passes)
            condMin := min 20000 a.condMin, condMax := min 20000 a.condMax
            target := max (-640) (min 1600 a.target), timeout := max 30 (min 1800 a.timeout) } →
      exec (.recipeSet a) s = .next { s with
        cleaning := { s.cleaning with recipes := put s.cleaning.recipes n (some r) }
        answer := some ⟨.ok,
          flag r.warm ++ bytesBE 2 r.purge ++ bytesBE 2 r.caustic ++ bytesBE 2 r.soak ++ bytesBE 2 r.rinse ++
          byte r.passes ++ bytesBE 2 r.condMin ++ bytesBE 2 r.condMax ++ bytesInt 2 r.target ++ bytesBE 2 r.timeout⟩ }) ∧
    (∀ n m : Nat, exec (.cleanSet n m) s = .next { s with
      cleaning := { s.cleaning with groupSize := max 1 (min 8 n), pumpMin := min 255 m }
      answer := some ⟨.ok, byte (max 1 (min 8 n)) ++ byte (min 255 m)⟩ }) ∧
    (∀ (ls : LineSet) (n : Nat), 4 ≤ n → exec (.cleanSubmit ls n) s = .next { s with answer := some ⟨.badArg, []⟩ }) ∧
    (∀ (ls : LineSet) (n : Fin 4), look s.cleaning.recipes n = none →
      exec (.cleanSubmit ls n.val) s = .next { s with answer := some ⟨.wrongState, []⟩ }) ∧
    (∀ (ls added skipped : LineSet) (n : Fin 4), look s.cleaning.recipes n ≠ none →
      (∀ l : Line, added.getLsbD l.val = true ↔ ls.getLsbD l.val = true ∧ (∀ e ∈ s.cleaning.queue, e.line ≠ l) ∧
        (s.line l).mode ≠ .cleaning ∧ (s.line l).mode ≠ .offline) →
      skipped = ls &&& ~~~added →
      exec (.cleanSubmit ls n.val) s = .next (State.considerFormation { s with
        cleaning := { s.cleaning with queue := s.cleaning.queue ++
          ((indices 32).filter fun l => added.getLsbD l.val).map fun l => ⟨l, n⟩ }
        answer := some ⟨.ok, bytesBE 4 added.toNat ++ bytesBE 4 skipped.toNat⟩ }))

/-- CLEAN_ABORT removes the queue entries of its set, then acts on a named group by its phase: to RELEASE with the purge loss reported
in TAKE and PURGE, to RINSE in CAUSTIC and SOAK, and ALREADY_RINSING after that (R157, R150, R62, R145). That RELEASE begins with a
low-pump run of 0 is the model's reading, and that owed and delivered stay as they were there its choice (log entry 24), as are the
bytes that answer whether the group was aborted (log entry 25). -/
def Obligations.CleanAbortActsByThePhase : Prop :=
  ∀ (s : State) (ls removed : LineSet) (q : List CleanEntry), s.resetHeld = false →
    (∀ l : Line, removed.getLsbD l.val = true ↔ ls.getLsbD l.val = true ∧ ∃ e ∈ s.cleaning.queue, e.line = l) →
    q = s.cleaning.queue.filter (fun e => !ls.getLsbD e.line.val) →
    ((∀ g, s.cleaning.group = some g → ∀ x ∈ g.lines, ls.getLsbD x.line.val = false) →
      exec (.cleanAbort ls) s = .next { s with
        cleaning := { s.cleaning with queue := q }, answer := some ⟨.ok, bytesBE 4 removed.toNat ++ byte 0⟩ }) ∧
    (∀ g : Group, s.cleaning.group = some g → (∃ x ∈ g.lines, ls.getLsbD x.line.val = true) →
      ((g.phase = .rinse ∨ g.phase = .verify ∨ g.phase = .release) →
        exec (.cleanAbort ls) s = .next { s with
          cleaning := { s.cleaning with queue := q }
          answer := some ⟨.alreadyRinsing, bytesBE 4 removed.toNat ++ byte 0⟩ }) ∧
      ((g.phase = .take ∨ g.phase = .purge) → (g.lines.map GroupLine.line).Nodup →
        ∃ u : State, exec (.cleanAbort ls) s = .next u.follow ∧
          u.cleaning = { s.cleaning with
            queue := q
            group := some { g with
              phase := .release, run := 1, steps := 0, lowPump := 0, heater := false, lossReported := true
              lines := g.lines.map fun x => { x with
                result := if x.result = .pending then .aborted else x.result } } } ∧
          (u.valve 17).next &&& 0x1F#8 = 0#8 ∧ SameBut s.valves.groups u.valves.groups 17 ∧
          (∀ k : ValveGroup, u.valve k = { s.valve k with next := (u.valve k).next }) ∧
          (∀ x ∈ g.lines, ∀ (p : Pour) (n bf bp : Nat), (s.pour x.line).record = .pouring p n bf bp → p.kind = .clean →
            (u.pour x.line).record = .tailing p n p.v .abort 0 0) ∧
          (∀ x ∈ g.lines, ∀ (c : LineCfg) (o : Position) (k : KegRec), g.lossReported = false → x.heldProduct = true →
            (s.line x.line).cfg = some c →
            (u.line x.line).totals = { (s.line x.line).totals with
              loss := satAdd (s.line x.line).totals.loss c.fill } ∧
            ((s.line x.line).lastKeg = some o → s.keg x.line o = some k → k.state ≠ .verifying →
              k.drawn + c.fill ≤ maxTotal →
              u.keg x.line o = some { k with loss := k.loss + c.fill, drawn := k.drawn + c.fill })) ∧
          (∀ x ∈ g.lines, g.lossReported = true ∨ x.heldProduct = false →
            u.line x.line = s.line x.line ∧ u.kegSlots x.line = s.kegSlots x.line) ∧
          (∀ l : Line, (∀ x ∈ g.lines, x.line ≠ l) → u.line l = s.line l ∧ u.kegSlots l = s.kegSlots l ∧
            u.pour l = s.pour l) ∧
          u = { s with
            lineTable := { s.lineTable with lines := u.lineTable.lines }
            pourControl := { s.pourControl with pours := u.pourControl.pours }
            kegRegister := { s.kegRegister with kegs := u.kegRegister.kegs }
            cleaning := u.cleaning
            valves := { s.valves with groups := u.valves.groups }
            answer := some ⟨.ok, bytesBE 4 removed.toNat ++ byte 1⟩ }) ∧
      ((g.phase = .caustic ∨ g.phase = .soak) → (∃ x ∈ g.lines, x.result.takesPart = true) →
        ∃ u : State, exec (.cleanAbort ls) s = .next u.follow ∧
          u.cleaning = { s.cleaning with
            queue := q
            group := some { g with
              phase := .rinse, run := 1, steps := 0, lowPump := 0, heater := false
              lines := g.lines.map fun x => { x with
                result := if x.result = .pending then .aborted else x.result
                owed := if x.result.takesPart then (s.fillOf x.line * g.recipe.rinse + 99) / 100 else x.owed
                delivered := if x.result.takesPart then 0 else x.delivered } } } ∧
          (u.valve 17).next &&& 0x1F#8 = 0x13#8 ∧ SameBut s.valves.groups u.valves.groups 17 ∧
          (∀ k : ValveGroup, u.valve k = { s.valve k with next := (u.valve k).next }) ∧
          (∀ x ∈ g.lines, ∀ (p : Pour) (n bf bp : Nat), (s.pour x.line).record = .pouring p n bf bp → p.kind = .clean →
            (u.pour x.line).record = .tailing p n p.v .abort 0 0) ∧
          (∀ x ∈ g.lines, ∀ c : LineCfg, g.phase = .soak → g.recipe.warm = true → (s.line x.line).cfg = some c →
            (u.zone c.trunk).override = false) ∧
          u = { s with
            pourControl := { s.pourControl with pours := u.pourControl.pours }
            climate := { s.climate with zones := u.climate.zones }
            cleaning := u.cleaning
            valves := { s.valves with groups := u.valves.groups }
            answer := some ⟨.ok, bytesBE 4 removed.toNat ++ byte 1⟩ }))

/-- CLEAN_HALT and PUMP_FAULT halt the group: skid off, open draws aborted, the purge loss charged if it was not, every result HALTED,
the group in RELEASE; CLEAN_HALT also empties the queue, and of a group in RELEASE already it changes the results alone; PUMP_FAULT
is due after five low steps of a metered run (R149, R150, R158). That PUMP_FAULT is a command without effect while it is not due
(log entry 4), and that RELEASE begins with a low-pump run of 0 and owed and delivered as they were (log entry 24), are the model's
reading. -/
def Obligations.HaltsEndTheGroup : Prop :=
  ∀ (s : State) (i : Instr), s.resetHeld = false →
    (s.cleaning.group = none → ∀ r : LineSet,
      (∀ l : Line, r.getLsbD l.val = true ↔ ∃ e ∈ s.cleaning.queue, e.line = l) →
      exec .cleanHalt s = .next (State.follow { s with
        cleaning := { s.cleaning with queue := [] }, answer := some ⟨.ok, bytesBE 4 0 ++ bytesBE 4 r.toNat⟩ })) ∧
    (∀ g : Group, s.cleaning.group = some g → g.phase = .release →
      ∀ h r : LineSet, (∀ l : Line, h.getLsbD l.val = true ↔ ∃ x ∈ g.lines, x.line = l) →
      (∀ l : Line, r.getLsbD l.val = true ↔ ∃ e ∈ s.cleaning.queue, e.line = l) →
      exec .cleanHalt s = .next (State.follow { s with
        cleaning := { s.cleaning with
          queue := [], group := some { g with lines := g.lines.map fun x => { x with result := .halted } } }
        answer := some ⟨.ok, bytesBE 4 h.toNat ++ bytesBE 4 r.toNat⟩ })) ∧
    ((∀ g, s.cleaning.group = some g → g.phase.metered = false ∨ g.lowPump < 5) → exec .pumpFault s = .next s.follow) ∧
    (∀ g : Group, s.cleaning.group = some g → g.phase ≠ .release →
      (i = .cleanHalt ∨ i = .pumpFault ∧ (g.phase = .purge ∨ g.phase = .caustic ∨ g.phase = .rinse) ∧ 5 ≤ g.lowPump) →
      ∃ u : State, exec i s = .next u.follow ∧
        u.cleaning = { s.cleaning with
          queue := if i = .cleanHalt then [] else s.cleaning.queue
          group := some { g with
            phase := .release, run := 1, steps := 0, lowPump := 0, heater := false, lossReported := true
            lines := g.lines.map fun x => { x with result := .halted } } } ∧
        (u.valve 17).next &&& 0x1F#8 = 0#8 ∧ SameBut s.valves.groups u.valves.groups 17 ∧
          (∀ k : ValveGroup, u.valve k = { s.valve k with next := (u.valve k).next }) ∧
        (∀ x ∈ g.lines, ∀ (p : Pour) (n bf bp : Nat), (s.pour x.line).record = .pouring p n bf bp → p.kind = .clean →
          (u.pour x.line).record = .tailing p n p.v .abort 0 0) ∧
        (∀ x ∈ g.lines, ∀ c : LineCfg, g.phase = .soak → g.recipe.warm = true → (s.line x.line).cfg = some c →
          (u.zone c.trunk).override = false) ∧
        (g.lossReported = true → u.lineTable = s.lineTable ∧ u.kegRegister = s.kegRegister) ∧
        ((g.lines.map GroupLine.line).Nodup → LossCharged s u g) ∧
        u.link.attention = { s.link.attention with
          pumpFault := if i = .pumpFault then true else s.link.attention.pumpFault } ∧
        (i = .cleanHalt → ∀ h r : LineSet, (∀ l : Line, h.getLsbD l.val = true ↔ ∃ x ∈ g.lines, x.line = l) →
          (∀ l : Line, r.getLsbD l.val = true ↔ ∃ e ∈ s.cleaning.queue, e.line = l) →
          u.answer = some ⟨.ok, bytesBE 4 h.toNat ++ bytesBE 4 r.toNat⟩) ∧
        (i = .pumpFault → u.answer = s.answer) ∧
        u = { s with
          lineTable := { s.lineTable with lines := u.lineTable.lines }
          pourControl := { s.pourControl with pours := u.pourControl.pours }
          kegRegister := { s.kegRegister with kegs := u.kegRegister.kegs }
          climate := { s.climate with zones := u.climate.zones }
          cleaning := u.cleaning
          valves := { s.valves with groups := u.valves.groups }
          link := { s.link with attention := u.link.attention }
          answer := u.answer })

/-- PHASE_TIMEOUT fails the lines of a metered run that still owe, and the run ends by the rule of its phase: PURGE charges its loss and
goes to CAUSTIC, CAUSTIC is decided by the strength of the solution, RINSE goes to VERIFY, and with no line left the group goes to
RELEASE; SOAK_END takes the group to RINSE, its heater off and its overrides cleared (R148, R150 to R154). That both are commands
without effect before their count is due (log entry 4), and that SOAK, VERIFY and RELEASE begin with a low-pump run of 0 and owed and
delivered as they were (log entry 24), are the model's reading. -/
def Obligations.TimeoutsAndSoaksEndTheirPhase : Prop :=
  ∀ s : State, s.resetHeld = false →
    ((∀ g, s.cleaning.group = some g → g.phase.metered = false ∨ g.steps < g.recipe.timeout) →
      exec .phaseTimeout s = .next s.follow) ∧
    ((∀ g, s.cleaning.group = some g → g.phase ≠ .soak ∨ g.steps < g.recipe.soak) → exec .soakEnd s = .next s.follow) ∧
    (∀ g : Group, s.cleaning.group = some g → g.recipe.timeout ≤ g.steps →
      (g.phase = .purge ∨ g.phase = .caustic ∨ g.phase = .rinse) →
      ∃ (u : State) (h : Group) (ls : List GroupLine), exec .phaseTimeout s = .next u.follow ∧
        u.cleaning = { s.cleaning with group := some h } ∧
        ls = (g.lines.map fun x => { x with
          result := if x.result.takesPart = true ∧ 0 < x.owed then .failTimeout else x.result }) ∧
        (∀ x ∈ g.lines, x.result.takesPart = true → 0 < x.owed → ∀ (p : Pour) (n bf bp : Nat),
          (s.pour x.line).record = .pouring p n bf bp → p.kind = .clean →
          (u.pour x.line).record = .tailing p n p.v .abort 0 0) ∧
        (∀ l : Line, (∀ x ∈ g.lines, x.line = l → ¬(x.result.takesPart = true ∧ 0 < x.owed)) → u.pour l = s.pour l) ∧
        ((∀ x ∈ g.lines, x.result.takesPart = true → 0 < x.owed) → AskedSkid s u 0#8 ∧ u.climate = s.climate ∧
          h = { g with
            phase := .release, run := 1, steps := 0, lowPump := 0, heater := false, lossReported := true, lines := ls } ∧
          ((g.lines.map GroupLine.line).Nodup → LossCharged s u g)) ∧
        ((∃ x ∈ g.lines, x.result.takesPart = true ∧ x.owed = 0) → RunEnds s u g ls h ∧
          (g.phase = .purge → (g.lines.map GroupLine.line).Nodup → LossCharged s u g)) ∧
        (g.phase = .caustic ∨ SameBut s.valves.groups u.valves.groups 17) ∧
        (∀ k : ValveGroup, u.valve k = { s.valve k with next := (u.valve k).next }) ∧
        u = { s with
          lineTable := { s.lineTable with lines := u.lineTable.lines }
          pourControl := { s.pourControl with pours := u.pourControl.pours }
          kegRegister := { s.kegRegister with kegs := u.kegRegister.kegs }
          climate := { s.climate with zones := u.climate.zones }
          cleaning := u.cleaning
          valves := { s.valves with groups := u.valves.groups } }) ∧
    (∀ g : Group, s.cleaning.group = some g → g.phase = .soak → g.recipe.soak ≤ g.steps →
      (∃ x ∈ g.lines, x.result.takesPart = true) →
      ∃ u : State, exec .soakEnd s = .next u.follow ∧
        u.cleaning = { s.cleaning with
          group := some { g with
            phase := .rinse, run := 1, steps := 0, lowPump := 0, heater := false
            lines := g.lines.map fun x => { x with
              owed := if x.result.takesPart then (s.fillOf x.line * g.recipe.rinse + 99) / 100 else x.owed
              delivered := if x.result.takesPart then 0 else x.delivered } } } ∧
        (u.valve 17).next &&& 0x1F#8 = 0x13#8 ∧ SameBut s.valves.groups u.valves.groups 17 ∧
          (∀ k : ValveGroup, u.valve k = { s.valve k with next := (u.valve k).next }) ∧
        (∀ x ∈ g.lines, ∀ c : LineCfg, g.recipe.warm = true → (s.line x.line).cfg = some c →
          (u.zone c.trunk).override = false) ∧
        u = { s with
          climate := { s.climate with zones := u.climate.zones }
          cleaning := u.cleaning
          valves := { s.valves with groups := u.valves.groups } })

/-- GROUP_FORMATION takes the first takeable entry and those behind it with its recipe, up to the group size, into a group in TAKE;
GROUP_RELEASE ends a group in RELEASE with no draw in flight, its lines WATER or FOUL (R143, R144, R12, R71, R155, R13). That both are
commands without effect where they are not due is the model's reading (log entry 4), and a new group's last pump count, owed and
delivered of 0 its choice (log entry 24). -/
def Obligations.GroupsAreFormedAndReleased : Prop :=
  ∀ s : State, s.resetHeld = false →
    (s.cleaning.group ≠ none ∨ s.valves.fault = true ∨ (∀ e ∈ s.cleaning.queue, s.takeableEntry e = false) →
      exec .groupFormation s = .next s) ∧
    (∀ (pre post chosen : List CleanEntry) (e : CleanEntry) (r : Recipe), s.cleaning.group = none →
      s.valves.fault = false → s.cleaning.queue = pre ++ e :: post → (s.cleaning.queue.map CleanEntry.line).Nodup →
      (∀ x ∈ pre, s.takeableEntry x = false) → (s.pour e.line).record = .idle →
      ((s.line e.line).mode = .water ∨ (s.line e.line).mode = .ready ∨ (s.line e.line).mode = .dry ∨
        (s.line e.line).mode = .foul) → look s.cleaning.recipes e.recipe = some r → 1 ≤ s.cleaning.groupSize →
      chosen = ((e :: post).filter fun x => s.takeableEntry x && x.recipe == e.recipe).take s.cleaning.groupSize →
      ∃ u : State, exec .groupFormation s = .next u ∧
        u.cleaning = { s.cleaning with
          queue := s.cleaning.queue.filter fun x => !chosen.contains x
          group := some {
            recipe := r, recipeNo := e.recipe, phase := .take, run := 1, steps := 0, lowPump := 0, lastPump := 0
            lossReported := false, heater := false, takeWait := .period
            lines := ((indices 32).filter fun l => chosen.any fun x => x.line == l).map fun l =>
              ⟨l, (s.line l).mode == .ready || (s.line l).mode == .dry, .pending, 0, 0, none⟩ } } ∧
        (∀ l : Line, (∀ x ∈ chosen, x.line ≠ l) → u.line l = s.line l ∧ u.kegSlots l = s.kegSlots l) ∧
        (∀ x ∈ chosen, u.line x.line = { s.line x.line with
            mode := .cleaning
            lastKeg := if (s.line x.line).mode = .ready ∨ (s.line x.line).mode = .dry then (s.line x.line).lastKeg
              else none } ∧
          (u.valve (lineGroup x.line)).next.getLsbD (lineBit x.line).val = false ∧
          (u.valve (lineGroup x.line)).next.getLsbD (lineBit' x.line).val = true ∧
          ((s.line x.line).mode ≠ .ready ∨ s.onTap x.line = none → u.kegSlots x.line = s.kegSlots x.line) ∧
          (∀ o k, (s.line x.line).mode = .ready → s.onTap x.line = some o → s.keg x.line o = some k →
            u.keg x.line o = some { k with state := .standby } ∧ u.keg x.line o.other = s.keg x.line o.other ∧
            (u.valve (selectorGroup x.line)).next.getLsbD
              (match o with | .A => lineBit x.line | .B => lineBit' x.line).val = false)) ∧
        (u.valve 17).next &&& 0x1F#8 = 0x10#8 ∧ u.valve 16 = s.valve 16 ∧
        (∀ k : ValveGroup, u.valve k = { s.valve k with next := (u.valve k).next }) ∧
        (∀ l : Line, (∀ x ∈ chosen, x.line ≠ l) → ∀ b : Fin 8, b = lineBit l ∨ b = lineBit' l →
          (u.valve (lineGroup l)).next.getLsbD b.val = (s.valve (lineGroup l)).next.getLsbD b.val ∧
          (u.valve (selectorGroup l)).next.getLsbD b.val = (s.valve (selectorGroup l)).next.getLsbD b.val) ∧
        u = { s with
          lineTable := { s.lineTable with lines := u.lineTable.lines }
          kegRegister := { s.kegRegister with kegs := u.kegRegister.kegs }
          cleaning := u.cleaning
          valves := { s.valves with groups := u.valves.groups } }) ∧
    ((∀ g, s.cleaning.group = some g → g.phase ≠ .release ∨ ∃ x ∈ g.lines, x.draw ≠ none) →
      exec .groupRelease s = .next s) ∧
    (∀ g : Group, s.cleaning.group = some g → g.phase = .release → (∀ x ∈ g.lines, x.draw = none) →
      (g.lines.map GroupLine.line).Nodup → (∀ x ∈ g.lines, (s.line x.line).mode = .cleaning) →
      ∃ u : State, exec .groupRelease s = .next u.considerFormation ∧
        (∀ x ∈ g.lines, u.line x.line = { s.line x.line with
            mode := if x.result = .pass ∨ x.result = .aborted then .water else .foul
            lastKeg := none, cleanResult := x.result.toClean, cleanCount := satAdd (s.line x.line).cleanCount 1 } ∧
          (u.valve (lineGroup x.line)).next.getLsbD (lineBit x.line).val = false ∧
          (u.valve (lineGroup x.line)).next.getLsbD (lineBit' x.line).val = false) ∧
        (∀ l : Line, (∀ x ∈ g.lines, x.line ≠ l) → ∀ b : Fin 8, b = lineBit l ∨ b = lineBit' l →
          (u.valve (lineGroup l)).next.getLsbD b.val = (s.valve (lineGroup l)).next.getLsbD b.val) ∧
        (∀ k : ValveGroup, 8 ≤ k.val → u.valve k = s.valve k) ∧
        (∀ k : ValveGroup, u.valve k = { s.valve k with next := (u.valve k).next }) ∧
        (∀ l : Line, (∀ x ∈ g.lines, x.line ≠ l) → u.line l = s.line l) ∧
        (∀ l : Line, (look u.link.attention.lines 7).getLsbD l.val =
          ((look s.link.attention.lines 7).getLsbD l.val || g.lines.any fun x => x.line == l)) ∧
        (∀ l : Line, (look u.link.attention.lines 6).getLsbD l.val =
          ((look s.link.attention.lines 6).getLsbD l.val ||
            g.lines.any fun x => x.line == l && x.result != .pass && x.result != .aborted)) ∧
        (∀ k : Fin 9, k ≠ 6 → k ≠ 7 → look u.link.attention.lines k = look s.link.attention.lines k) ∧
        u = { s with
          lineTable := { s.lineTable with lines := u.lineTable.lines }
          cleaning := { s.cleaning with group := none }
          valves := { s.valves with groups := u.valves.groups }
          link := { s.link with attention := { s.link.attention with lines := u.link.attention.lines } } })

/-! ### Timebase and valves -/

/-- TIMEBASE_SET makes clamped values pending, TIMEBASE_SYNC restarts the chosen counters and nothing else, and a pulse counts
(R162, R163, R164). On an empty queue one millisecond passes on the four channels in turn: a counter that reaches its period or its
margin gives that event, and any other counts on (R161); that a step on an empty queue is this millisecond (log entry 2), and that the
channels count between PART_RESET and its completion too (log entry 29), are the model's choice. -/
def Obligations.TimebaseIsSetSyncedAndCounts : Prop :=
  ∀ s : State, s.resetHeld = false →
    (∀ n p m : Nat, 4 ≤ n → exec (.timebaseSet n p m) s = .next { s with answer := some ⟨.badArg, []⟩ }) ∧
    (∀ (c : Channel) (period margin p m : Nat), p = max 2 (min 65535 period) → m = max 1 (min (p - 1) margin) →
      exec (.timebaseSet c.val period margin) s = .next { s with
        timebase := { s.timebase with
          channels := put s.timebase.channels c { s.channel c with pending := some (p, m) } }
        answer := some ⟨.ok, bytesBE 2 p ++ bytesBE 2 m ++ bytesBE 2 (s.channel c).period ++
          bytesBE 2 (s.channel c).margin⟩ }) ∧
    (∀ mask : Byte, 15 < mask.toNat → exec (.timebaseSync mask) s = .next { s with answer := some ⟨.badArg, []⟩ }) ∧
    (∀ mask : Byte, mask.toNat ≤ 15 → ∃ t : State, exec (.timebaseSync mask) s = .next t ∧
      (∀ c : Channel, t.channel c = { s.channel c with
        counter := if mask.getLsbD c.val then 0 else (s.channel c).counter }) ∧
      t = { s with timebase := { s.timebase with channels := t.timebase.channels }, answer := some ⟨.ok, []⟩ }) ∧
    exec .pumpFlowPulse s = .next { s with timebase := { s.timebase with pump := min (s.timebase.pump + 1) 65535 } } ∧
    (s.pending = [] → ∃ v : Fin 5 → State, v 0 = s ∧ step s = .next (v 4).follow ∧
      ∀ c : Channel, (v c.castSucc).channel c = s.channel c ∧
        ((s.channel c).period ≤ (s.channel c).counter + 1 → v c.succ = (v c.castSucc).periodEvent c ∧
          exec (.timebasePeriodEvent c) (v c.castSucc) = .next (v c.succ).follow) ∧
        ((s.channel c).counter + 1 < (s.channel c).period → (s.channel c).counter + 1 = (s.channel c).margin →
          exec (.timebaseMarginEvent c) (v c.castSucc) = .next (v c.succ)) ∧
        ((s.channel c).counter + 1 < (s.channel c).period → (s.channel c).counter + 1 ≠ (s.channel c).margin →
          v c.succ = { v c.castSucc with timebase := { (v c.castSucc).timebase with
            channels := put (v c.castSucc).timebase.channels c
              { s.channel c with counter := (s.channel c).counter + 1 } } })) ∧
    (s.pending = [] →
      (∀ c : Channel, (s.channel c).counter + 1 < (s.channel c).period ∧
        (s.channel c).counter + 1 ≠ (s.channel c).margin) →
      ∃ u : State, step s = .next u.follow ∧
        (∀ c : Channel, u.channel c = { s.channel c with counter := (s.channel c).counter + 1 }) ∧
        u = { s with timebase := { s.timebase with channels := u.timebase.channels } })

/-- An apply: phase 1 of the groups of TB0 or TB3 at the period event, phase 2 of those with turn-ons pending at the margin event,
VG16 at once at TB1's margin event, each with a shift asked; the restart of the counter with the pending values (R161, R166 to
R169). That one shift is asked for all groups of an event (log entry 15), and that a margin event as a command sets the counter to
the margin (log entry 2), are the model's reading. -/
def Obligations.AppliesRunInTwoPhases : Prop :=
  ∀ (s : State) (c : Channel), s.resetHeld = false →
    (c = 0 ∨ c = 3 →
      (∃ u : State, exec (.timebasePeriodEvent c) s = .next u.follow ∧
        u.channel c = (match (s.channel c).pending with
          | some (p, m) => ⟨0, p, m, none⟩
          | none => { s.channel c with counter := 0 }) ∧
        SameBut s.timebase.channels u.timebase.channels c ∧
        (∀ g : ValveGroup, u.valve g = if (c = 0 ∧ g.val < 16) ∨ (c = 3 ∧ g = 17) then
            ⟨(s.valve g).next, (s.valve g).next, (s.valve g).current &&& (s.valve g).next, true⟩
          else s.valve g) ∧
        u.valves.shifting = (if s.valves.shifting = none then some u.valves.image else s.valves.shifting) ∧
        u.valves.wanted = (s.valves.wanted || s.valves.shifting.isSome) ∧
        u.cleaning.group = s.cleaning.group.map (fun g => if c = 0 ∧ g.phase = .take ∧ g.takeWait = .period then
          { g with takeWait := .margin } else g) ∧
        u = { s with
          timebase := { s.timebase with channels := u.timebase.channels }
          valves := { s.valves with
            groups := u.valves.groups, shifting := u.valves.shifting, wanted := u.valves.wanted }
          cleaning := { s.cleaning with group := u.cleaning.group } }) ∧
      (∀ pending : Bool, (pending = true ↔ ∃ g : ValveGroup, ((c = 0 ∧ g.val < 16) ∨ (c = 3 ∧ g = 17)) ∧
          (s.valve g).turnOn = true) →
        ∃ u : State, exec (.timebaseMarginEvent c) s = .next u ∧
          u.channel c = { s.channel c with counter := (s.channel c).margin } ∧
          SameBut s.timebase.channels u.timebase.channels c ∧
          (∀ g : ValveGroup, u.valve g = if ((c = 0 ∧ g.val < 16) ∨ (c = 3 ∧ g = 17)) ∧ (s.valve g).turnOn = true then
              { s.valve g with current := (s.valve g).current ||| (s.valve g).snapshot, turnOn := false }
            else s.valve g) ∧
          u.valves.shifting = (if pending = true ∧ s.valves.shifting = none then some u.valves.image
            else s.valves.shifting) ∧
          u.valves.wanted = (s.valves.wanted || (pending && s.valves.shifting.isSome)) ∧
          u.cleaning.group = s.cleaning.group.map (fun g =>
            if c = 0 ∧ pending = true ∧ g.phase = .take ∧ g.takeWait = .margin then
              { g with takeWait := if s.valves.shifting = none then .thisShift else .nextShift } else g) ∧
          u = { s with
            timebase := { s.timebase with channels := u.timebase.channels }
            valves := { s.valves with
              groups := u.valves.groups, shifting := u.valves.shifting, wanted := u.valves.wanted }
            cleaning := { s.cleaning with group := u.cleaning.group } })) ∧
    (∃ u : State, exec (.timebaseMarginEvent 1) s = .next u ∧
      u.valve 16 = { s.valve 16 with snapshot := (s.valve 16).next, current := (s.valve 16).next } ∧
      SameBut s.valves.groups u.valves.groups 16 ∧
      u.valves.shifting = (if s.valves.shifting = none then some u.valves.image else s.valves.shifting) ∧
      u.valves.wanted = (s.valves.wanted || s.valves.shifting.isSome) ∧
      u = { s with
        timebase := { s.timebase with
          channels := put s.timebase.channels 1 { s.channel 1 with counter := (s.channel 1).margin } }
        valves := { s.valves with
          groups := u.valves.groups, shifting := u.valves.shifting, wanted := u.valves.wanted } }) ∧
    exec (.timebaseMarginEvent 2) s = .next { s with timebase := { s.timebase with
      channels := put s.timebase.channels 2 { s.channel 2 with counter := (s.channel 2).margin } } }

/-- A TB1 period is a climate window: the gates are evaluated, at window 0 the duties are fixed and the boost counted, both stages are
counted and decided, and the requests make the next pattern of VG16; a TB2 period latches the pump count and steps the group (R130
to R132, R135 to R137, R164). A step of a metered run asks the draws of its owing lines, or finds the pump failed or the timeout reached;
a step of SOAK counts, decides the heater of a warm recipe and ends the soak at its count; the first step of VERIFY passes the group,
rinses again or fails it (R146, R148, R149, R152, R153, R61). That a window's surge test reads the POURING count before its promotions
(log entry 12), and that RELEASE begins with a low-pump run of 0 and owed and delivered as they were (log entry 24), are the model's
reading, and that a group waiting in RELEASE counts no step is its choice (log entry 28). -/
def Obligations.WindowsAndStepsFollowTheTimebase : Prop :=
  ∀ s : State, s.resetHeld = false →
    (∃ u : State, exec (.timebasePeriodEvent 1) s = .next u.follow ∧
      u.climate.window = (s.climate.window + 1) % 16 ∧
      (∀ t : Trunk, u.zone t = { s.zone t with
        gate := ((s.evalGate t).zone t).gate, source := ((s.evalGate t).zone t).source, duty := (u.zone t).duty } ∧
        u.link.attention.trunkHot.getLsbD t.val = (s.evalGate t).link.attention.trunkHot.getLsbD t.val ∧
        (u.zone t).duty = (if u.climate.window = 0 then s.dutyDue t else (s.zone t).duty) ∧
        ((u.valve 16).next.getLsbD t.val = true ↔ u.climate.window < (u.zone t).duty ∧ (u.zone t).override = false)) ∧
      (u.valve 16).next.getLsbD 6 = u.climate.chiller.stage1.on ∧
      (u.valve 16).next.getLsbD 7 = u.climate.chiller.stage2.on ∧
      (∀ (second wanted : Bool) (x : Stage), x = s.climate.chiller.stage second → (wanted = true ↔ s.Wants second) →
        u.climate.chiller.stage second = s.climate.chiller.switched { x with run := min (x.run + 1) 65535 } wanted) ∧
      (u.climate.window ≠ 0 → u.climate.boost = s.climate.boost) ∧
      (u.climate.window = 0 → s.climate.boost = none → u.climate.boost = none) ∧
      (∀ b : Boost, u.climate.window = 0 → s.climate.boost = some b →
        u.climate.boost = if b.remaining ≤ 1 then none else some { b with remaining := b.remaining - 1 }) ∧
      u.valve 16 = { s.valve 16 with next := (u.valve 16).next } ∧ SameBut s.valves.groups u.valves.groups 16 ∧
      u = { s with
        timebase := { s.timebase with channels := put s.timebase.channels 1 (s.channel 1).atPeriod }
        climate := { s.climate with
          zones := u.climate.zones, boost := u.climate.boost, window := u.climate.window
          chiller := { s.climate.chiller with
            stage1 := u.climate.chiller.stage1, stage2 := u.climate.chiller.stage2 } }
        valves := { s.valves with groups := u.valves.groups }
        link := { s.link with attention := { s.link.attention with trunkHot := u.link.attention.trunkHot } } }) ∧
    ((∀ g, s.cleaning.group = some g → g.phase = .take ∨ g.phase = .release) →
      exec (.timebasePeriodEvent 2) s = .next (State.follow { s with timebase := {
        channels := put s.timebase.channels 2 (s.channel 2).atPeriod, pump := 0, latchedPump := s.timebase.pump } })) ∧
    (∀ (g g' : Group) (w : State), s.cleaning.group = some g →
      w = { s with
        timebase := {
          channels := put s.timebase.channels 2 (s.channel 2).atPeriod, pump := 0, latchedPump := s.timebase.pump }
        cleaning := { s.cleaning with group := some g' } } →
      ((g.phase = .purge ∨ g.phase = .caustic ∨ g.phase = .rinse) →
        g' = { g with
          steps := min (g.steps + 1) 65535, lastPump := s.timebase.pump
          lowPump := if min (g.steps + 1) 65535 < 4 then g.lowPump
            else if s.timebase.pump < s.cleaning.pumpMin then g.lowPump + 1 else 0 } →
        (5 ≤ g'.lowPump → exec (.timebasePeriodEvent 2) s = exec .pumpFault w) ∧
        (g'.lowPump < 5 → g.recipe.timeout ≤ g'.steps → exec (.timebasePeriodEvent 2) s = exec .phaseTimeout w)) ∧
      (g.phase = .soak → g' = { g with steps := min (g.steps + 1) 65535, lastPump := s.timebase.pump } →
        (g.recipe.soak ≤ g'.steps → exec (.timebasePeriodEvent 2) s = exec .soakEnd w) ∧
        (g'.steps < g.recipe.soak → ∃ u : State, exec (.timebasePeriodEvent 2) s = .next u.follow ∧
          u.cleaning.group = some { g' with
            heater := if g.recipe.warm = true then
                (match s.climate.reading .solutionTemp with
                  | none => false
                  | some f => if f < g.recipe.target - 16 then true else if g.recipe.target ≤ f then false else g.heater)
              else g.heater } ∧
          (∀ h, u.cleaning.group = some h → ∀ bit : Fin 8, (u.valve 17).next.getLsbD bit.val =
            if bit.val = 3 ∧ g.recipe.warm = true then h.heater else (s.valve 17).next.getLsbD bit.val) ∧
          SameBut s.valves.groups u.valves.groups 17 ∧ u.valve 17 = { s.valve 17 with next := (u.valve 17).next } ∧
          u = { w with cleaning := u.cleaning, valves := { s.valves with groups := u.valves.groups } } ∧
          u.cleaning = { s.cleaning with group := u.cleaning.group })) ∧
      (∀ passed : Prop, g.phase = .verify → g' = { g with
          steps := min (g.steps + 1) 65535, lastPump := s.timebase.pump } →
        (passed ↔ ∃ f : Int, s.climate.reading .solutionCond = some f ∧ f ≤ (g.recipe.condMax : Int)) →
        (∃ x ∈ g.lines, x.result.takesPart = true) →
        ∃ u : State, exec (.timebasePeriodEvent 2) s = .next u.follow ∧
          (passed → AskedSkid s u 0#8 ∧ u.cleaning.group = some { g' with
            phase := .release, run := 1, steps := 0, lowPump := 0, heater := false
            lines := g.lines.map fun x => { x with result := if x.result = .pending then .pass else x.result } }) ∧
          (¬passed → g.run < g.recipe.passes → AskedSkid s u 0x13#8 ∧ u.cleaning.group = some { g' with
            phase := .rinse, run := g.run + 1, steps := 0, lowPump := 0, heater := false
            lines := s.owing g.recipe.rinse g.lines }) ∧
          (¬passed → g.recipe.passes ≤ g.run → AskedSkid s u 0#8 ∧ u.cleaning.group = some { g' with
            phase := .release, run := 1, steps := 0, lowPump := 0, heater := false
            lines := g.lines.map fun x => { x with
              result := if x.result = .pending ∨ x.result = .aborted then .failRinse else x.result } }) ∧
          u = { w with
            cleaning := { s.cleaning with group := u.cleaning.group }
            valves := { s.valves with groups := u.valves.groups } })) ∧
    (∀ (g : Group) (low : Nat), s.cleaning.group = some g → (g.phase = .purge ∨ g.phase = .caustic ∨ g.phase = .rinse) →
      low = (if g.steps + 1 < 4 then g.lowPump else if s.timebase.pump < s.cleaning.pumpMin then g.lowPump + 1 else 0) →
      low < 5 → g.steps + 1 < g.recipe.timeout → g.steps < 65535 → (g.lines.map GroupLine.line).Nodup →
      (∃ x ∈ g.lines, x.owing = true ∧
        (x.draw ≠ none ∨ ∀ c, (s.line x.line).cfg = some c → (s.loop c.binding.loop).state ≠ .stopped)) →
      (∀ x ∈ g.lines, (s.line x.line).mode = .cleaning ∧ (s.line x.line).cfg ≠ none) →
      ∃ (u : State) (h : Group), exec (.timebasePeriodEvent 2) s = .next u.follow ∧ u.cleaning.group = some h ∧
        h = { g with steps := g.steps + 1, lastPump := s.timebase.pump, lowPump := low, lines := h.lines } ∧
        (∀ x ∈ g.lines, x.owing = true → x.draw = none → (s.pour x.line).record = .idle →
          (∀ c, (s.line x.line).cfg = some c → (s.loop c.binding.loop).state ≠ .stopped ∧
            (∀ r, s.recv c.binding = some r → r.lost = false) ∧ (s.zone c.trunk).gate ≠ .hot) →
          (u.pour x.line).record = .pouring
            ⟨.clean, min x.owed 2000 * 1000000, 0, none, 0, false, false⟩ 0 0 0 ∧
          { x with draw := some (g.phase, g.run) } ∈ h.lines) ∧
        (∀ l : Line, (∀ x ∈ g.lines, x.line = l → x.owing = false ∨ x.draw ≠ none) → u.pour l = s.pour l) ∧
        u = { s with
          timebase := {
            channels := put s.timebase.channels 2 (s.channel 2).atPeriod, pump := 0, latchedPump := s.timebase.pump }
          pourControl := { s.pourControl with pours := u.pourControl.pours }
          cleaning := { s.cleaning with group := some h } })

/-- One shift at a time, with the whole image: its echo is compared at its end, the first mismatch sets the chain fault with
CHAIN_FAULT and halts the group, the end of the shift that carries phase 2 ends TAKE, and a wanted shift begins; VALVE_CLEAR clears
the fault and keeps the count (R167, R169 to R171, R144, R146). That the end of a shift on a free chain changes nothing is the
model's choice (log entry 14), and that CHAIN_SHIFT_START is a command of its own (log entry 4), and that RELEASE begins with a
low-pump run of 0 and owed and delivered as they were (log entry 24), are its reading. -/
def Obligations.ShiftsAreComparedWithTheirEcho : Prop :=
  ∀ s : State, s.resetHeld = false →
    (exec .chainShiftStart s = .next (if s.valves.shifting = none ∧ s.valves.wanted = true then
      { s with valves := { s.valves with shifting := some s.valves.image, wanted := false } } else s)) ∧
    (∀ (g : ValveGroup) (b : Fin 8), s.valves.image.getLsbD (8 * g.val + b.val) = (s.valve g).current.getLsbD b.val) ∧
    (s.valves.shifting = none → ∀ echo : Image, exec (.chainShiftEnd echo) s = .next s.follow) ∧
    (∀ (sent echo : Image) (first : Option (ValveGroup × Fin 8)), s.valves.shifting = some sent →
      ((∃ (g : ValveGroup) (b : Fin 8), first = some (g, b) ∧
          sent.getLsbD (8 * g.val + b.val) ≠ echo.getLsbD (8 * g.val + b.val) ∧
          ∀ i : Nat, i < 8 * g.val + b.val → sent.getLsbD i = echo.getLsbD i) ∨ sent = echo ∧ first = none) →
      ∃ u : State, exec (.chainShiftEnd echo) s = .next u.follow ∧
        u.valves.shifting = (if s.valves.wanted = true then some u.valves.image else none) ∧ u.valves.wanted = false ∧
        u.valves.fault = (s.valves.fault || decide (sent ≠ echo)) ∧
        u.valves.mismatches = (if sent = echo then s.valves.mismatches else min (s.valves.mismatches + 1) 65535) ∧
        u.valves.firstMismatch = (if sent = echo ∨ s.valves.fault = true then s.valves.firstMismatch else first) ∧
        u.link.attention.chainFault =
          (s.link.attention.chainFault || (!s.valves.fault && decide (sent ≠ echo))) ∧
        (sent = echo ∨ s.valves.fault = true ∨ s.cleaning.group = none →
          (∀ g, s.cleaning.group = some g → g.phase = .take → g.takeWait = .period ∨ g.takeWait = .margin) →
          u = { s with
            valves := { s.valves with
              shifting := u.valves.shifting, wanted := false, fault := u.valves.fault
              mismatches := u.valves.mismatches, firstMismatch := u.valves.firstMismatch }
            link := { s.link with attention := { s.link.attention with
              chainFault := u.link.attention.chainFault } } }) ∧
        (∀ g, sent = echo ∨ s.valves.fault = true → s.cleaning.group = some g → g.phase = .take →
          (g.takeWait = .nextShift → u = { s with
            valves := { s.valves with
              shifting := u.valves.shifting, wanted := false, mismatches := u.valves.mismatches }
            cleaning := { s.cleaning with group := some { g with takeWait := .thisShift } } }) ∧
          (g.takeWait = .thisShift → (∃ x ∈ g.lines, x.result.takesPart = true) → AskedSkid s u 0x13#8 ∧ u = { s with
            valves := { s.valves with
              groups := u.valves.groups, shifting := u.valves.shifting, wanted := false
              mismatches := u.valves.mismatches }
            cleaning := { s.cleaning with group := some { g with
              phase := .purge, run := 1, steps := 0, lowPump := 0, heater := false
              lines := s.owing g.recipe.purge g.lines } } })) ∧
        (∀ g, sent ≠ echo → s.valves.fault = false → s.cleaning.group = some g → g.phase ≠ .release →
          (u.valve 17).next &&& 0x1F#8 = 0#8 ∧ u.cleaning.group = some { g with
            phase := .release, run := 1, steps := 0, lowPump := 0, heater := false, lossReported := true
            lines := g.lines.map fun x => { x with result := .halted } })) ∧
    (exec .valveClear s = .next (if s.valves.fault = true then State.considerFormation { s with
        valves := { s.valves with fault := false, firstMismatch := none }
        answer := some ⟨.ok, bytesBE 4 s.valves.mismatches⟩ }
      else { s with
        valves := { s.valves with fault := false, firstMismatch := none }
        answer := some ⟨.ok, bytesBE 4 s.valves.mismatches⟩ }))

/-! ### What every step keeps -/

/-- Every step keeps the balance and the floor of every account (R93). -/
def Obligations.AccountsStaySound : Prop :=
  ∀ s t : State, s.accountsSound → step s = .next t → t.accountsSound

/-- Every step keeps each account's holds equal to those of the pours in flight that charge it (R100, R92, R101). -/
def Obligations.HoldsStayMatched : Prop :=
  ∀ s t : State, s.holdsMatch → step s = .next t → t.holdsMatch

/-- Every step keeps each keg's drawn the sum of its buckets, the tags distinct and the Coupler Read Queue in its bounds (R69, R72,
R73). -/
def Obligations.KegsStaySound : Prop :=
  ∀ s t : State, s.kegsSound → step s = .next t → t.kegsSound

/-- Every step keeps each line record's fields present by its mode, and the binding map true to the lines (sections 1.1 and 1.9,
R15, R31). -/
def Obligations.LinesStaySound : Prop :=
  ∀ s t : State, s.linesSound → step s = .next t → t.linesSound

/-- Every step keeps exactly one keg ON_TAP on a line in PRIMING or READY, or HELD from one, and none on another, and the read queue
true to the kegs (R70, R73, R81). -/
def Obligations.TapsStaySound : Prop :=
  ∀ s t : State, s.linesSound → s.kegsSound → s.tapsSound → step s = .next t → t.tapsSound

/-- Every step keeps every WAITING pour exactly once in the wait queue of its own trunk, with nothing else queued, the wait queues and
the Cleaning Queue in their bounds, and the timebase, the climate and the loop records in their ranges (R48, R142, R106, R108, R161,
R164, sections 7.1 and 9.1). -/
def Obligations.QueuesAndClocksStaySound : Prop :=
  ∀ s t : State, s.linesSound → s.queuesSound → s.clocksSound → step s = .next t → t.queuesSound ∧ t.clocksSound

/-- Every step keeps the two members of each valve pair from being on together in any pattern, and phase 2 from opening a partner of
an open valve (R165, R166, R167). -/
def Obligations.ValvePairsStayApart : Prop :=
  ∀ s t : State, s.valvesSound → step s = .next t → t.valvesSound
end

