-- ==== Sys2Proof/Laws/State.lean ====
section
/-! SUPPORT. Reading a record after writing one: the table laws, one lemma for each field of the state after each write, and
the reads of the records themselves. -/

namespace Sys2Proof.Machine

/-! ### Tables -/

theorem look_eq {α : Type} {n : Nat} (v : Vector α n) (i : Fin n) : look v i = v[i.val] := rfl

@[simp] theorem look_put_same {α : Type} {n : Nat} (v : Vector α n) (i : Fin n) (x : α) : look (put v i x) i = x := by
  rw [look_eq, put, Vector.getElem_set_self]

theorem look_put_ne {α : Type} {n : Nat} (v : Vector α n) (i j : Fin n) (x : α) (h : j ≠ i) :
    look (put v i x) j = look v j := by
  rw [look_eq, look_eq, put, Vector.getElem_set_ne]
  exact fun e => h (Fin.ext e.symm)

theorem look_put {α : Type} {n : Nat} (v : Vector α n) (i j : Fin n) (x : α) :
    look (put v i x) j = if j = i then x else look v j := by
  by_cases h : j = i
  · subst h; simp
  · simp [look_put_ne _ _ _ _ h, h]

theorem look_ext {α : Type} {n : Nat} {v w : Vector α n} (h : ∀ i, look v i = look w i) : v = w := by
  apply Vector.ext
  intro i hi
  exact h ⟨i, hi⟩

@[simp] theorem put_look {α : Type} {n : Nat} (v : Vector α n) (i : Fin n) : put v i (look v i) = v :=
  look_ext fun j => by rw [look_put]; split <;> simp_all

@[simp] theorem put_put {α : Type} {n : Nat} (v : Vector α n) (i : Fin n) (x y : α) : put (put v i x) i y = put v i y :=
  look_ext fun j => by simp only [look_put]; split <;> rfl

theorem put_comm {α : Type} {n : Nat} (v : Vector α n) (i j : Fin n) (x y : α) (h : i ≠ j) :
    put (put v i x) j y = put (put v j y) i x :=
  look_ext fun k => by
    simp only [look_put]
    by_cases h1 : k = i <;> by_cases h2 : k = j <;> simp_all

theorem sameBut_put {α : Type} {n : Nat} (v : Vector α n) (i : Fin n) (x : α) : SameBut v (put v i x) i :=
  fun j h => look_put_ne v i j x h

@[simp] theorem look_replicate {α : Type} {n : Nat} (x : α) (i : Fin n) : look (Vector.replicate n x) i = x := by
  rw [look_eq, Vector.getElem_replicate]

/-! ### The fields of the state after each write -/

section setLine
variable (s : State) (l : Line) (r : LineRec)
@[simp] theorem State.setLine_lineTable : (s.setLine l r).lineTable = { s.lineTable with lines := put s.lineTable.lines l r } := rfl
@[simp] theorem State.setLine_pourControl : (s.setLine l r).pourControl = s.pourControl := rfl
@[simp] theorem State.setLine_kegRegister : (s.setLine l r).kegRegister = s.kegRegister := rfl
@[simp] theorem State.setLine_accounts : (s.setLine l r).accounts = s.accounts := rfl
@[simp] theorem State.setLine_tapLoops : (s.setLine l r).tapLoops = s.tapLoops := rfl
@[simp] theorem State.setLine_climate : (s.setLine l r).climate = s.climate := rfl
@[simp] theorem State.setLine_cleaning : (s.setLine l r).cleaning = s.cleaning := rfl
@[simp] theorem State.setLine_valves : (s.setLine l r).valves = s.valves := rfl
@[simp] theorem State.setLine_timebase : (s.setLine l r).timebase = s.timebase := rfl
@[simp] theorem State.setLine_link : (s.setLine l r).link = s.link := rfl
@[simp] theorem State.setLine_resetHeld : (s.setLine l r).resetHeld = s.resetHeld := rfl
@[simp] theorem State.setLine_answer : (s.setLine l r).answer = s.answer := rfl
@[simp] theorem State.setLine_pending : (s.setLine l r).pending = s.pending := rfl
end setLine

section setPour
variable (s : State) (l : Line) (p : PourSlot)
@[simp] theorem State.setPour_lineTable : (s.setPour l p).lineTable = s.lineTable := rfl
@[simp] theorem State.setPour_pourControl : (s.setPour l p).pourControl = { s.pourControl with pours := put s.pourControl.pours l p } := rfl
@[simp] theorem State.setPour_kegRegister : (s.setPour l p).kegRegister = s.kegRegister := rfl
@[simp] theorem State.setPour_accounts : (s.setPour l p).accounts = s.accounts := rfl
@[simp] theorem State.setPour_tapLoops : (s.setPour l p).tapLoops = s.tapLoops := rfl
@[simp] theorem State.setPour_climate : (s.setPour l p).climate = s.climate := rfl
@[simp] theorem State.setPour_cleaning : (s.setPour l p).cleaning = s.cleaning := rfl
@[simp] theorem State.setPour_valves : (s.setPour l p).valves = s.valves := rfl
@[simp] theorem State.setPour_timebase : (s.setPour l p).timebase = s.timebase := rfl
@[simp] theorem State.setPour_link : (s.setPour l p).link = s.link := rfl
@[simp] theorem State.setPour_resetHeld : (s.setPour l p).resetHeld = s.resetHeld := rfl
@[simp] theorem State.setPour_answer : (s.setPour l p).answer = s.answer := rfl
@[simp] theorem State.setPour_pending : (s.setPour l p).pending = s.pending := rfl
end setPour

section setTrunk
variable (s : State) (t : Trunk) (d : TrunkDraw)
@[simp] theorem State.setTrunk_lineTable : (s.setTrunk t d).lineTable = s.lineTable := rfl
@[simp] theorem State.setTrunk_pourControl : (s.setTrunk t d).pourControl = { s.pourControl with trunks := put s.pourControl.trunks t d } := rfl
@[simp] theorem State.setTrunk_kegRegister : (s.setTrunk t d).kegRegister = s.kegRegister := rfl
@[simp] theorem State.setTrunk_accounts : (s.setTrunk t d).accounts = s.accounts := rfl
@[simp] theorem State.setTrunk_tapLoops : (s.setTrunk t d).tapLoops = s.tapLoops := rfl
@[simp] theorem State.setTrunk_climate : (s.setTrunk t d).climate = s.climate := rfl
@[simp] theorem State.setTrunk_cleaning : (s.setTrunk t d).cleaning = s.cleaning := rfl
@[simp] theorem State.setTrunk_valves : (s.setTrunk t d).valves = s.valves := rfl
@[simp] theorem State.setTrunk_timebase : (s.setTrunk t d).timebase = s.timebase := rfl
@[simp] theorem State.setTrunk_link : (s.setTrunk t d).link = s.link := rfl
@[simp] theorem State.setTrunk_resetHeld : (s.setTrunk t d).resetHeld = s.resetHeld := rfl
@[simp] theorem State.setTrunk_answer : (s.setTrunk t d).answer = s.answer := rfl
@[simp] theorem State.setTrunk_pending : (s.setTrunk t d).pending = s.pending := rfl
end setTrunk

section setKegSlots
variable (s : State) (l : Line) (k : KegSlots)
@[simp] theorem State.setKegSlots_lineTable : (s.setKegSlots l k).lineTable = s.lineTable := rfl
@[simp] theorem State.setKegSlots_pourControl : (s.setKegSlots l k).pourControl = s.pourControl := rfl
@[simp] theorem State.setKegSlots_kegRegister : (s.setKegSlots l k).kegRegister = { s.kegRegister with kegs := put s.kegRegister.kegs l k } := rfl
@[simp] theorem State.setKegSlots_accounts : (s.setKegSlots l k).accounts = s.accounts := rfl
@[simp] theorem State.setKegSlots_tapLoops : (s.setKegSlots l k).tapLoops = s.tapLoops := rfl
@[simp] theorem State.setKegSlots_climate : (s.setKegSlots l k).climate = s.climate := rfl
@[simp] theorem State.setKegSlots_cleaning : (s.setKegSlots l k).cleaning = s.cleaning := rfl
@[simp] theorem State.setKegSlots_valves : (s.setKegSlots l k).valves = s.valves := rfl
@[simp] theorem State.setKegSlots_timebase : (s.setKegSlots l k).timebase = s.timebase := rfl
@[simp] theorem State.setKegSlots_link : (s.setKegSlots l k).link = s.link := rfl
@[simp] theorem State.setKegSlots_resetHeld : (s.setKegSlots l k).resetHeld = s.resetHeld := rfl
@[simp] theorem State.setKegSlots_answer : (s.setKegSlots l k).answer = s.answer := rfl
@[simp] theorem State.setKegSlots_pending : (s.setKegSlots l k).pending = s.pending := rfl
end setKegSlots

section setReadQueue
variable (s : State) (q : List ReadEntry)
@[simp] theorem State.setReadQueue_lineTable : (s.setReadQueue q).lineTable = s.lineTable := rfl
@[simp] theorem State.setReadQueue_pourControl : (s.setReadQueue q).pourControl = s.pourControl := rfl
@[simp] theorem State.setReadQueue_kegRegister : (s.setReadQueue q).kegRegister = { s.kegRegister with queue := q } := rfl
@[simp] theorem State.setReadQueue_accounts : (s.setReadQueue q).accounts = s.accounts := rfl
@[simp] theorem State.setReadQueue_tapLoops : (s.setReadQueue q).tapLoops = s.tapLoops := rfl
@[simp] theorem State.setReadQueue_climate : (s.setReadQueue q).climate = s.climate := rfl
@[simp] theorem State.setReadQueue_cleaning : (s.setReadQueue q).cleaning = s.cleaning := rfl
@[simp] theorem State.setReadQueue_valves : (s.setReadQueue q).valves = s.valves := rfl
@[simp] theorem State.setReadQueue_timebase : (s.setReadQueue q).timebase = s.timebase := rfl
@[simp] theorem State.setReadQueue_link : (s.setReadQueue q).link = s.link := rfl
@[simp] theorem State.setReadQueue_resetHeld : (s.setReadQueue q).resetHeld = s.resetHeld := rfl
@[simp] theorem State.setReadQueue_answer : (s.setReadQueue q).answer = s.answer := rfl
@[simp] theorem State.setReadQueue_pending : (s.setReadQueue q).pending = s.pending := rfl
end setReadQueue

section setBus
variable (s : State) (b : Option Transaction)
@[simp] theorem State.setBus_lineTable : (s.setBus b).lineTable = s.lineTable := rfl
@[simp] theorem State.setBus_pourControl : (s.setBus b).pourControl = s.pourControl := rfl
@[simp] theorem State.setBus_kegRegister : (s.setBus b).kegRegister = { s.kegRegister with bus := b } := rfl
@[simp] theorem State.setBus_accounts : (s.setBus b).accounts = s.accounts := rfl
@[simp] theorem State.setBus_tapLoops : (s.setBus b).tapLoops = s.tapLoops := rfl
@[simp] theorem State.setBus_climate : (s.setBus b).climate = s.climate := rfl
@[simp] theorem State.setBus_cleaning : (s.setBus b).cleaning = s.cleaning := rfl
@[simp] theorem State.setBus_valves : (s.setBus b).valves = s.valves := rfl
@[simp] theorem State.setBus_timebase : (s.setBus b).timebase = s.timebase := rfl
@[simp] theorem State.setBus_link : (s.setBus b).link = s.link := rfl
@[simp] theorem State.setBus_resetHeld : (s.setBus b).resetHeld = s.resetHeld := rfl
@[simp] theorem State.setBus_answer : (s.setBus b).answer = s.answer := rfl
@[simp] theorem State.setBus_pending : (s.setBus b).pending = s.pending := rfl
end setBus

section setAccount
variable (s : State) (i : AccountIx) (a : Option Account)
@[simp] theorem State.setAccount_lineTable : (s.setAccount i a).lineTable = s.lineTable := rfl
@[simp] theorem State.setAccount_pourControl : (s.setAccount i a).pourControl = s.pourControl := rfl
@[simp] theorem State.setAccount_kegRegister : (s.setAccount i a).kegRegister = s.kegRegister := rfl
@[simp] theorem State.setAccount_accounts : (s.setAccount i a).accounts = put s.accounts i a := rfl
@[simp] theorem State.setAccount_tapLoops : (s.setAccount i a).tapLoops = s.tapLoops := rfl
@[simp] theorem State.setAccount_climate : (s.setAccount i a).climate = s.climate := rfl
@[simp] theorem State.setAccount_cleaning : (s.setAccount i a).cleaning = s.cleaning := rfl
@[simp] theorem State.setAccount_valves : (s.setAccount i a).valves = s.valves := rfl
@[simp] theorem State.setAccount_timebase : (s.setAccount i a).timebase = s.timebase := rfl
@[simp] theorem State.setAccount_link : (s.setAccount i a).link = s.link := rfl
@[simp] theorem State.setAccount_resetHeld : (s.setAccount i a).resetHeld = s.resetHeld := rfl
@[simp] theorem State.setAccount_answer : (s.setAccount i a).answer = s.answer := rfl
@[simp] theorem State.setAccount_pending : (s.setAccount i a).pending = s.pending := rfl
end setAccount

section setRole
variable (s : State) (r : Fin 15) (x : RoleRec)
@[simp] theorem State.setRole_lineTable : (s.setRole r x).lineTable = s.lineTable := rfl
@[simp] theorem State.setRole_pourControl : (s.setRole r x).pourControl = s.pourControl := rfl
@[simp] theorem State.setRole_kegRegister : (s.setRole r x).kegRegister = s.kegRegister := rfl
@[simp] theorem State.setRole_accounts : (s.setRole r x).accounts = s.accounts := rfl
@[simp] theorem State.setRole_tapLoops : (s.setRole r x).tapLoops = s.tapLoops := rfl
@[simp] theorem State.setRole_climate : (s.setRole r x).climate = { s.climate with roles := put s.climate.roles r x } := rfl
@[simp] theorem State.setRole_cleaning : (s.setRole r x).cleaning = s.cleaning := rfl
@[simp] theorem State.setRole_valves : (s.setRole r x).valves = s.valves := rfl
@[simp] theorem State.setRole_timebase : (s.setRole r x).timebase = s.timebase := rfl
@[simp] theorem State.setRole_link : (s.setRole r x).link = s.link := rfl
@[simp] theorem State.setRole_resetHeld : (s.setRole r x).resetHeld = s.resetHeld := rfl
@[simp] theorem State.setRole_answer : (s.setRole r x).answer = s.answer := rfl
@[simp] theorem State.setRole_pending : (s.setRole r x).pending = s.pending := rfl
end setRole

section setInput
variable (s : State) (i : SenseInput) (x : InputChannel)
@[simp] theorem State.setInput_lineTable : (s.setInput i x).lineTable = s.lineTable := rfl
@[simp] theorem State.setInput_pourControl : (s.setInput i x).pourControl = s.pourControl := rfl
@[simp] theorem State.setInput_kegRegister : (s.setInput i x).kegRegister = s.kegRegister := rfl
@[simp] theorem State.setInput_accounts : (s.setInput i x).accounts = s.accounts := rfl
@[simp] theorem State.setInput_tapLoops : (s.setInput i x).tapLoops = s.tapLoops := rfl
@[simp] theorem State.setInput_climate : (s.setInput i x).climate = { s.climate with inputs := put s.climate.inputs i x } := rfl
@[simp] theorem State.setInput_cleaning : (s.setInput i x).cleaning = s.cleaning := rfl
@[simp] theorem State.setInput_valves : (s.setInput i x).valves = s.valves := rfl
@[simp] theorem State.setInput_timebase : (s.setInput i x).timebase = s.timebase := rfl
@[simp] theorem State.setInput_link : (s.setInput i x).link = s.link := rfl
@[simp] theorem State.setInput_resetHeld : (s.setInput i x).resetHeld = s.resetHeld := rfl
@[simp] theorem State.setInput_answer : (s.setInput i x).answer = s.answer := rfl
@[simp] theorem State.setInput_pending : (s.setInput i x).pending = s.pending := rfl
end setInput

section setZone
variable (s : State) (t : Trunk) (z : Zone)
@[simp] theorem State.setZone_lineTable : (s.setZone t z).lineTable = s.lineTable := rfl
@[simp] theorem State.setZone_pourControl : (s.setZone t z).pourControl = s.pourControl := rfl
@[simp] theorem State.setZone_kegRegister : (s.setZone t z).kegRegister = s.kegRegister := rfl
@[simp] theorem State.setZone_accounts : (s.setZone t z).accounts = s.accounts := rfl
@[simp] theorem State.setZone_tapLoops : (s.setZone t z).tapLoops = s.tapLoops := rfl
@[simp] theorem State.setZone_climate : (s.setZone t z).climate = { s.climate with zones := put s.climate.zones t z } := rfl
@[simp] theorem State.setZone_cleaning : (s.setZone t z).cleaning = s.cleaning := rfl
@[simp] theorem State.setZone_valves : (s.setZone t z).valves = s.valves := rfl
@[simp] theorem State.setZone_timebase : (s.setZone t z).timebase = s.timebase := rfl
@[simp] theorem State.setZone_link : (s.setZone t z).link = s.link := rfl
@[simp] theorem State.setZone_resetHeld : (s.setZone t z).resetHeld = s.resetHeld := rfl
@[simp] theorem State.setZone_answer : (s.setZone t z).answer = s.answer := rfl
@[simp] theorem State.setZone_pending : (s.setZone t z).pending = s.pending := rfl
end setZone

section setScanner
variable (s : State) (x : Scanner)
@[simp] theorem State.setScanner_lineTable : (s.setScanner x).lineTable = s.lineTable := rfl
@[simp] theorem State.setScanner_pourControl : (s.setScanner x).pourControl = s.pourControl := rfl
@[simp] theorem State.setScanner_kegRegister : (s.setScanner x).kegRegister = s.kegRegister := rfl
@[simp] theorem State.setScanner_accounts : (s.setScanner x).accounts = s.accounts := rfl
@[simp] theorem State.setScanner_tapLoops : (s.setScanner x).tapLoops = s.tapLoops := rfl
@[simp] theorem State.setScanner_climate : (s.setScanner x).climate = { s.climate with scanner := x } := rfl
@[simp] theorem State.setScanner_cleaning : (s.setScanner x).cleaning = s.cleaning := rfl
@[simp] theorem State.setScanner_valves : (s.setScanner x).valves = s.valves := rfl
@[simp] theorem State.setScanner_timebase : (s.setScanner x).timebase = s.timebase := rfl
@[simp] theorem State.setScanner_link : (s.setScanner x).link = s.link := rfl
@[simp] theorem State.setScanner_resetHeld : (s.setScanner x).resetHeld = s.resetHeld := rfl
@[simp] theorem State.setScanner_answer : (s.setScanner x).answer = s.answer := rfl
@[simp] theorem State.setScanner_pending : (s.setScanner x).pending = s.pending := rfl
end setScanner

section setChiller
variable (s : State) (x : Chiller)
@[simp] theorem State.setChiller_lineTable : (s.setChiller x).lineTable = s.lineTable := rfl
@[simp] theorem State.setChiller_pourControl : (s.setChiller x).pourControl = s.pourControl := rfl
@[simp] theorem State.setChiller_kegRegister : (s.setChiller x).kegRegister = s.kegRegister := rfl
@[simp] theorem State.setChiller_accounts : (s.setChiller x).accounts = s.accounts := rfl
@[simp] theorem State.setChiller_tapLoops : (s.setChiller x).tapLoops = s.tapLoops := rfl
@[simp] theorem State.setChiller_climate : (s.setChiller x).climate = { s.climate with chiller := x } := rfl
@[simp] theorem State.setChiller_cleaning : (s.setChiller x).cleaning = s.cleaning := rfl
@[simp] theorem State.setChiller_valves : (s.setChiller x).valves = s.valves := rfl
@[simp] theorem State.setChiller_timebase : (s.setChiller x).timebase = s.timebase := rfl
@[simp] theorem State.setChiller_link : (s.setChiller x).link = s.link := rfl
@[simp] theorem State.setChiller_resetHeld : (s.setChiller x).resetHeld = s.resetHeld := rfl
@[simp] theorem State.setChiller_answer : (s.setChiller x).answer = s.answer := rfl
@[simp] theorem State.setChiller_pending : (s.setChiller x).pending = s.pending := rfl
end setChiller

section setBoost
variable (s : State) (x : Option Boost)
@[simp] theorem State.setBoost_lineTable : (s.setBoost x).lineTable = s.lineTable := rfl
@[simp] theorem State.setBoost_pourControl : (s.setBoost x).pourControl = s.pourControl := rfl
@[simp] theorem State.setBoost_kegRegister : (s.setBoost x).kegRegister = s.kegRegister := rfl
@[simp] theorem State.setBoost_accounts : (s.setBoost x).accounts = s.accounts := rfl
@[simp] theorem State.setBoost_tapLoops : (s.setBoost x).tapLoops = s.tapLoops := rfl
@[simp] theorem State.setBoost_climate : (s.setBoost x).climate = { s.climate with boost := x } := rfl
@[simp] theorem State.setBoost_cleaning : (s.setBoost x).cleaning = s.cleaning := rfl
@[simp] theorem State.setBoost_valves : (s.setBoost x).valves = s.valves := rfl
@[simp] theorem State.setBoost_timebase : (s.setBoost x).timebase = s.timebase := rfl
@[simp] theorem State.setBoost_link : (s.setBoost x).link = s.link := rfl
@[simp] theorem State.setBoost_resetHeld : (s.setBoost x).resetHeld = s.resetHeld := rfl
@[simp] theorem State.setBoost_answer : (s.setBoost x).answer = s.answer := rfl
@[simp] theorem State.setBoost_pending : (s.setBoost x).pending = s.pending := rfl
end setBoost

section setWindow
variable (s : State) (x : Nat)
@[simp] theorem State.setWindow_lineTable : (s.setWindow x).lineTable = s.lineTable := rfl
@[simp] theorem State.setWindow_pourControl : (s.setWindow x).pourControl = s.pourControl := rfl
@[simp] theorem State.setWindow_kegRegister : (s.setWindow x).kegRegister = s.kegRegister := rfl
@[simp] theorem State.setWindow_accounts : (s.setWindow x).accounts = s.accounts := rfl
@[simp] theorem State.setWindow_tapLoops : (s.setWindow x).tapLoops = s.tapLoops := rfl
@[simp] theorem State.setWindow_climate : (s.setWindow x).climate = { s.climate with window := x } := rfl
@[simp] theorem State.setWindow_cleaning : (s.setWindow x).cleaning = s.cleaning := rfl
@[simp] theorem State.setWindow_valves : (s.setWindow x).valves = s.valves := rfl
@[simp] theorem State.setWindow_timebase : (s.setWindow x).timebase = s.timebase := rfl
@[simp] theorem State.setWindow_link : (s.setWindow x).link = s.link := rfl
@[simp] theorem State.setWindow_resetHeld : (s.setWindow x).resetHeld = s.resetHeld := rfl
@[simp] theorem State.setWindow_answer : (s.setWindow x).answer = s.answer := rfl
@[simp] theorem State.setWindow_pending : (s.setWindow x).pending = s.pending := rfl
end setWindow

section setGroup
variable (s : State) (g : Option Group)
@[simp] theorem State.setGroup_lineTable : (s.setGroup g).lineTable = s.lineTable := rfl
@[simp] theorem State.setGroup_pourControl : (s.setGroup g).pourControl = s.pourControl := rfl
@[simp] theorem State.setGroup_kegRegister : (s.setGroup g).kegRegister = s.kegRegister := rfl
@[simp] theorem State.setGroup_accounts : (s.setGroup g).accounts = s.accounts := rfl
@[simp] theorem State.setGroup_tapLoops : (s.setGroup g).tapLoops = s.tapLoops := rfl
@[simp] theorem State.setGroup_climate : (s.setGroup g).climate = s.climate := rfl
@[simp] theorem State.setGroup_cleaning : (s.setGroup g).cleaning = { s.cleaning with group := g } := rfl
@[simp] theorem State.setGroup_valves : (s.setGroup g).valves = s.valves := rfl
@[simp] theorem State.setGroup_timebase : (s.setGroup g).timebase = s.timebase := rfl
@[simp] theorem State.setGroup_link : (s.setGroup g).link = s.link := rfl
@[simp] theorem State.setGroup_resetHeld : (s.setGroup g).resetHeld = s.resetHeld := rfl
@[simp] theorem State.setGroup_answer : (s.setGroup g).answer = s.answer := rfl
@[simp] theorem State.setGroup_pending : (s.setGroup g).pending = s.pending := rfl
end setGroup

section setCleanQueue
variable (s : State) (q : List CleanEntry)
@[simp] theorem State.setCleanQueue_lineTable : (s.setCleanQueue q).lineTable = s.lineTable := rfl
@[simp] theorem State.setCleanQueue_pourControl : (s.setCleanQueue q).pourControl = s.pourControl := rfl
@[simp] theorem State.setCleanQueue_kegRegister : (s.setCleanQueue q).kegRegister = s.kegRegister := rfl
@[simp] theorem State.setCleanQueue_accounts : (s.setCleanQueue q).accounts = s.accounts := rfl
@[simp] theorem State.setCleanQueue_tapLoops : (s.setCleanQueue q).tapLoops = s.tapLoops := rfl
@[simp] theorem State.setCleanQueue_climate : (s.setCleanQueue q).climate = s.climate := rfl
@[simp] theorem State.setCleanQueue_cleaning : (s.setCleanQueue q).cleaning = { s.cleaning with queue := q } := rfl
@[simp] theorem State.setCleanQueue_valves : (s.setCleanQueue q).valves = s.valves := rfl
@[simp] theorem State.setCleanQueue_timebase : (s.setCleanQueue q).timebase = s.timebase := rfl
@[simp] theorem State.setCleanQueue_link : (s.setCleanQueue q).link = s.link := rfl
@[simp] theorem State.setCleanQueue_resetHeld : (s.setCleanQueue q).resetHeld = s.resetHeld := rfl
@[simp] theorem State.setCleanQueue_answer : (s.setCleanQueue q).answer = s.answer := rfl
@[simp] theorem State.setCleanQueue_pending : (s.setCleanQueue q).pending = s.pending := rfl
end setCleanQueue

section setValve
variable (s : State) (g : ValveGroup) (x : GroupPatterns)
@[simp] theorem State.setValve_lineTable : (s.setValve g x).lineTable = s.lineTable := rfl
@[simp] theorem State.setValve_pourControl : (s.setValve g x).pourControl = s.pourControl := rfl
@[simp] theorem State.setValve_kegRegister : (s.setValve g x).kegRegister = s.kegRegister := rfl
@[simp] theorem State.setValve_accounts : (s.setValve g x).accounts = s.accounts := rfl
@[simp] theorem State.setValve_tapLoops : (s.setValve g x).tapLoops = s.tapLoops := rfl
@[simp] theorem State.setValve_climate : (s.setValve g x).climate = s.climate := rfl
@[simp] theorem State.setValve_cleaning : (s.setValve g x).cleaning = s.cleaning := rfl
@[simp] theorem State.setValve_valves : (s.setValve g x).valves = { s.valves with groups := put s.valves.groups g x } := rfl
@[simp] theorem State.setValve_timebase : (s.setValve g x).timebase = s.timebase := rfl
@[simp] theorem State.setValve_link : (s.setValve g x).link = s.link := rfl
@[simp] theorem State.setValve_resetHeld : (s.setValve g x).resetHeld = s.resetHeld := rfl
@[simp] theorem State.setValve_answer : (s.setValve g x).answer = s.answer := rfl
@[simp] theorem State.setValve_pending : (s.setValve g x).pending = s.pending := rfl
end setValve

section setChannel
variable (s : State) (c : Channel) (x : TimeChannel)
@[simp] theorem State.setChannel_lineTable : (s.setChannel c x).lineTable = s.lineTable := rfl
@[simp] theorem State.setChannel_pourControl : (s.setChannel c x).pourControl = s.pourControl := rfl
@[simp] theorem State.setChannel_kegRegister : (s.setChannel c x).kegRegister = s.kegRegister := rfl
@[simp] theorem State.setChannel_accounts : (s.setChannel c x).accounts = s.accounts := rfl
@[simp] theorem State.setChannel_tapLoops : (s.setChannel c x).tapLoops = s.tapLoops := rfl
@[simp] theorem State.setChannel_climate : (s.setChannel c x).climate = s.climate := rfl
@[simp] theorem State.setChannel_cleaning : (s.setChannel c x).cleaning = s.cleaning := rfl
@[simp] theorem State.setChannel_valves : (s.setChannel c x).valves = s.valves := rfl
@[simp] theorem State.setChannel_timebase : (s.setChannel c x).timebase = { s.timebase with channels := put s.timebase.channels c x } := rfl
@[simp] theorem State.setChannel_link : (s.setChannel c x).link = s.link := rfl
@[simp] theorem State.setChannel_resetHeld : (s.setChannel c x).resetHeld = s.resetHeld := rfl
@[simp] theorem State.setChannel_answer : (s.setChannel c x).answer = s.answer := rfl
@[simp] theorem State.setChannel_pending : (s.setChannel c x).pending = s.pending := rfl
end setChannel

section reply
variable (s : State) (status : Status) (payload : List Byte)
@[simp] theorem State.reply_lineTable : (s.reply status payload).lineTable = s.lineTable := rfl
@[simp] theorem State.reply_pourControl : (s.reply status payload).pourControl = s.pourControl := rfl
@[simp] theorem State.reply_kegRegister : (s.reply status payload).kegRegister = s.kegRegister := rfl
@[simp] theorem State.reply_accounts : (s.reply status payload).accounts = s.accounts := rfl
@[simp] theorem State.reply_tapLoops : (s.reply status payload).tapLoops = s.tapLoops := rfl
@[simp] theorem State.reply_climate : (s.reply status payload).climate = s.climate := rfl
@[simp] theorem State.reply_cleaning : (s.reply status payload).cleaning = s.cleaning := rfl
@[simp] theorem State.reply_valves : (s.reply status payload).valves = s.valves := rfl
@[simp] theorem State.reply_timebase : (s.reply status payload).timebase = s.timebase := rfl
@[simp] theorem State.reply_link : (s.reply status payload).link = s.link := rfl
@[simp] theorem State.reply_resetHeld : (s.reply status payload).resetHeld = s.resetHeld := rfl
@[simp] theorem State.reply_answer : (s.reply status payload).answer = some ⟨status, payload⟩ := rfl
@[simp] theorem State.reply_pending : (s.reply status payload).pending = s.pending := rfl
end reply

section setAttention
variable (s : State) (a : Attention)
@[simp] theorem State.setAttention_lineTable : (s.setAttention a).lineTable = s.lineTable := rfl
@[simp] theorem State.setAttention_pourControl : (s.setAttention a).pourControl = s.pourControl := rfl
@[simp] theorem State.setAttention_kegRegister : (s.setAttention a).kegRegister = s.kegRegister := rfl
@[simp] theorem State.setAttention_accounts : (s.setAttention a).accounts = s.accounts := rfl
@[simp] theorem State.setAttention_tapLoops : (s.setAttention a).tapLoops = s.tapLoops := rfl
@[simp] theorem State.setAttention_climate : (s.setAttention a).climate = s.climate := rfl
@[simp] theorem State.setAttention_cleaning : (s.setAttention a).cleaning = s.cleaning := rfl
@[simp] theorem State.setAttention_valves : (s.setAttention a).valves = s.valves := rfl
@[simp] theorem State.setAttention_timebase : (s.setAttention a).timebase = s.timebase := rfl
@[simp] theorem State.setAttention_link : (s.setAttention a).link = { s.link with attention := a } := rfl
@[simp] theorem State.setAttention_resetHeld : (s.setAttention a).resetHeld = s.resetHeld := rfl
@[simp] theorem State.setAttention_answer : (s.setAttention a).answer = s.answer := rfl
@[simp] theorem State.setAttention_pending : (s.setAttention a).pending = s.pending := rfl
end setAttention

section setLoop
variable (s : State) (i : LoopId) (r : LoopRec)
@[simp] theorem State.setLoop_lineTable : (s.setLoop i r).lineTable = s.lineTable := by cases i <;> rfl
@[simp] theorem State.setLoop_pourControl : (s.setLoop i r).pourControl = s.pourControl := by cases i <;> rfl
@[simp] theorem State.setLoop_kegRegister : (s.setLoop i r).kegRegister = s.kegRegister := by cases i <;> rfl
@[simp] theorem State.setLoop_accounts : (s.setLoop i r).accounts = s.accounts := by cases i <;> rfl
@[simp] theorem State.setLoop_climate : (s.setLoop i r).climate = s.climate := by cases i <;> rfl
@[simp] theorem State.setLoop_cleaning : (s.setLoop i r).cleaning = s.cleaning := by cases i <;> rfl
@[simp] theorem State.setLoop_valves : (s.setLoop i r).valves = s.valves := by cases i <;> rfl
@[simp] theorem State.setLoop_timebase : (s.setLoop i r).timebase = s.timebase := by cases i <;> rfl
@[simp] theorem State.setLoop_link : (s.setLoop i r).link = s.link := by cases i <;> rfl
@[simp] theorem State.setLoop_resetHeld : (s.setLoop i r).resetHeld = s.resetHeld := by cases i <;> rfl
@[simp] theorem State.setLoop_answer : (s.setLoop i r).answer = s.answer := by cases i <;> rfl
@[simp] theorem State.setLoop_pending : (s.setLoop i r).pending = s.pending := by cases i <;> rfl
end setLoop

section setBound
variable (s : State) (b : Binding) (l : Option Line)
@[simp] theorem State.setBound_pourControl : (s.setBound b l).pourControl = s.pourControl := by rcases b with ⟨i, k⟩; cases i <;> rfl
@[simp] theorem State.setBound_kegRegister : (s.setBound b l).kegRegister = s.kegRegister := by rcases b with ⟨i, k⟩; cases i <;> rfl
@[simp] theorem State.setBound_accounts : (s.setBound b l).accounts = s.accounts := by rcases b with ⟨i, k⟩; cases i <;> rfl
@[simp] theorem State.setBound_tapLoops : (s.setBound b l).tapLoops = s.tapLoops := by rcases b with ⟨i, k⟩; cases i <;> rfl
@[simp] theorem State.setBound_climate : (s.setBound b l).climate = s.climate := by rcases b with ⟨i, k⟩; cases i <;> rfl
@[simp] theorem State.setBound_cleaning : (s.setBound b l).cleaning = s.cleaning := by rcases b with ⟨i, k⟩; cases i <;> rfl
@[simp] theorem State.setBound_valves : (s.setBound b l).valves = s.valves := by rcases b with ⟨i, k⟩; cases i <;> rfl
@[simp] theorem State.setBound_timebase : (s.setBound b l).timebase = s.timebase := by rcases b with ⟨i, k⟩; cases i <;> rfl
@[simp] theorem State.setBound_link : (s.setBound b l).link = s.link := by rcases b with ⟨i, k⟩; cases i <;> rfl
@[simp] theorem State.setBound_resetHeld : (s.setBound b l).resetHeld = s.resetHeld := by rcases b with ⟨i, k⟩; cases i <;> rfl
@[simp] theorem State.setBound_answer : (s.setBound b l).answer = s.answer := by rcases b with ⟨i, k⟩; cases i <;> rfl
@[simp] theorem State.setBound_pending : (s.setBound b l).pending = s.pending := by rcases b with ⟨i, k⟩; cases i <;> rfl
end setBound

section setRecv
variable (s : State) (b : Binding) (r : Option RecvState)
@[simp] theorem State.setRecv_lineTable : (s.setRecv b r).lineTable = s.lineTable := by rcases b with ⟨i, k⟩; cases i <;> rfl
@[simp] theorem State.setRecv_pourControl : (s.setRecv b r).pourControl = s.pourControl := by rcases b with ⟨i, k⟩; cases i <;> rfl
@[simp] theorem State.setRecv_kegRegister : (s.setRecv b r).kegRegister = s.kegRegister := by rcases b with ⟨i, k⟩; cases i <;> rfl
@[simp] theorem State.setRecv_accounts : (s.setRecv b r).accounts = s.accounts := by rcases b with ⟨i, k⟩; cases i <;> rfl
@[simp] theorem State.setRecv_climate : (s.setRecv b r).climate = s.climate := by rcases b with ⟨i, k⟩; cases i <;> rfl
@[simp] theorem State.setRecv_cleaning : (s.setRecv b r).cleaning = s.cleaning := by rcases b with ⟨i, k⟩; cases i <;> rfl
@[simp] theorem State.setRecv_valves : (s.setRecv b r).valves = s.valves := by rcases b with ⟨i, k⟩; cases i <;> rfl
@[simp] theorem State.setRecv_timebase : (s.setRecv b r).timebase = s.timebase := by rcases b with ⟨i, k⟩; cases i <;> rfl
@[simp] theorem State.setRecv_link : (s.setRecv b r).link = s.link := by rcases b with ⟨i, k⟩; cases i <;> rfl
@[simp] theorem State.setRecv_resetHeld : (s.setRecv b r).resetHeld = s.resetHeld := by rcases b with ⟨i, k⟩; cases i <;> rfl
@[simp] theorem State.setRecv_answer : (s.setRecv b r).answer = s.answer := by rcases b with ⟨i, k⟩; cases i <;> rfl
@[simp] theorem State.setRecv_pending : (s.setRecv b r).pending = s.pending := by rcases b with ⟨i, k⟩; cases i <;> rfl
end setRecv

/-! ### The records after a write of their own -/

@[simp] theorem State.line_setLine_same (s : State) (l : Line) (r : LineRec) : (s.setLine l r).line l = r := by
  simp [State.line]
theorem State.line_setLine_ne (s : State) (l m : Line) (r : LineRec) (h : m ≠ l) : (s.setLine l r).line m = s.line m := by
  simp [State.line, look_put_ne _ _ _ _ h]
@[simp] theorem State.pour_setPour_same (s : State) (l : Line) (p : PourSlot) : (s.setPour l p).pour l = p := by
  simp [State.pour]
theorem State.pour_setPour_ne (s : State) (l m : Line) (p : PourSlot) (h : m ≠ l) : (s.setPour l p).pour m = s.pour m := by
  simp [State.pour, look_put_ne _ _ _ _ h]
@[simp] theorem State.trunk_setTrunk_same (s : State) (t : Trunk) (d : TrunkDraw) : (s.setTrunk t d).trunk t = d := by
  simp [State.trunk]
theorem State.trunk_setTrunk_ne (s : State) (t u : Trunk) (d : TrunkDraw) (h : u ≠ t) :
    (s.setTrunk t d).trunk u = s.trunk u := by
  simp [State.trunk, look_put_ne _ _ _ _ h]
@[simp] theorem State.kegSlots_setKegSlots_same (s : State) (l : Line) (k : KegSlots) :
    (s.setKegSlots l k).kegSlots l = k := by
  simp [State.kegSlots]
theorem State.kegSlots_setKegSlots_ne (s : State) (l m : Line) (k : KegSlots) (h : m ≠ l) :
    (s.setKegSlots l k).kegSlots m = s.kegSlots m := by
  simp [State.kegSlots, look_put_ne _ _ _ _ h]
@[simp] theorem KegSlots.at_set_same (k : KegSlots) (p : Position) (r : Option KegRec) : (k.set p r).at p = r := by
  cases p <;> rfl
theorem KegSlots.at_set_ne (k : KegSlots) (p q : Position) (r : Option KegRec) (h : q ≠ p) :
    (k.set p r).at q = k.at q := by
  cases p <;> cases q <;> first | rfl | exact absurd rfl h
@[simp] theorem KegSlots.set_lastEnrol (k : KegSlots) (p : Position) (r : Option KegRec) :
    (k.set p r).lastEnrol = k.lastEnrol := by
  cases p <;> rfl
@[simp] theorem State.keg_setKeg_same (s : State) (l : Line) (p : Position) (r : Option KegRec) :
    (s.setKeg l p r).keg l p = r := by
  simp [State.keg, State.setKeg]
theorem State.keg_setKeg_ne (s : State) (l m : Line) (p q : Position) (r : Option KegRec) (h : m ≠ l ∨ q ≠ p) :
    (s.setKeg l p r).keg m q = s.keg m q := by
  by_cases e : m = l
  · subst e
    have hq : q ≠ p := by rcases h with h | h; exact absurd rfl h; exact h
    simp [State.keg, State.setKeg, KegSlots.at_set_ne _ _ _ _ hq]
  · simp [State.keg, State.setKeg, State.kegSlots_setKegSlots_ne _ _ _ _ e]
@[simp] theorem State.account_setAccount_same (s : State) (i : AccountIx) (a : Option Account) :
    (s.setAccount i a).account i = a := by
  simp [State.account]
theorem State.account_setAccount_ne (s : State) (i j : AccountIx) (a : Option Account) (h : j ≠ i) :
    (s.setAccount i a).account j = s.account j := by
  simp [State.account, look_put_ne _ _ _ _ h]
@[simp] theorem State.loop_setLoop_same (s : State) (i : LoopId) (r : LoopRec) : (s.setLoop i r).loop i = r := by
  cases i <;> rfl
theorem State.loop_setLoop_ne (s : State) (i j : LoopId) (r : LoopRec) (h : j ≠ i) :
    (s.setLoop i r).loop j = s.loop j := by
  cases i <;> cases j <;> first | rfl | exact absurd rfl h
@[simp] theorem State.bound_setBound_same (s : State) (b : Binding) (l : Option Line) : (s.setBound b l).bound b = l := by
  rcases b with ⟨i, k⟩; cases i <;> simp [State.bound, State.setBound]
theorem State.bound_setBound_ne (s : State) (b c : Binding) (l : Option Line) (h : c ≠ b) :
    (s.setBound b l).bound c = s.bound c := by
  rcases b with ⟨i, k⟩; rcases c with ⟨j, m⟩
  cases i <;> cases j <;> simp_all [State.bound, State.setBound, look_put_ne]
@[simp] theorem State.recv_setRecv_same (s : State) (b : Binding) (r : Option RecvState) : (s.setRecv b r).recv b = r := by
  simp [State.recv, State.setRecv]
theorem State.recv_setRecv_ne (s : State) (b c : Binding) (r : Option RecvState) (h : c ≠ b) :
    (s.setRecv b r).recv c = s.recv c := by
  rcases b with ⟨i, k⟩; rcases c with ⟨j, m⟩
  by_cases e : j = i
  · subst e
    have hm : m ≠ k := fun e => h (by rw [e])
    simp [State.recv, State.setRecv, look_put_ne _ _ _ _ hm]
  · simp [State.recv, State.setRecv, State.loop_setLoop_ne _ _ _ _ e]
@[simp] theorem State.role_setRole_same (s : State) (r : Fin 15) (x : RoleRec) : (s.setRole r x).role r = x := by
  simp [State.role]
@[simp] theorem State.input_setInput_same (s : State) (i : SenseInput) (x : InputChannel) :
    (s.setInput i x).input i = x := by
  simp [State.input]
@[simp] theorem State.zone_setZone_same (s : State) (t : Trunk) (z : Zone) : (s.setZone t z).zone t = z := by
  simp [State.zone]
@[simp] theorem State.valve_setValve_same (s : State) (g : ValveGroup) (x : GroupPatterns) :
    (s.setValve g x).valve g = x := by
  simp [State.valve]
theorem State.valve_setValve_ne (s : State) (g k : ValveGroup) (x : GroupPatterns) (h : k ≠ g) :
    (s.setValve g x).valve k = s.valve k := by
  simp [State.valve, look_put_ne _ _ _ _ h]
@[simp] theorem State.channel_setChannel_same (s : State) (c : Channel) (x : TimeChannel) :
    (s.setChannel c x).channel c = x := by
  simp [State.channel]

end Sys2Proof.Machine
end

