-- ==== Sys2Proof/Laws/Ops.lean ====
section
/-! SUPPORT. What the shared operations can do, one lemma for each: taking a command, ordered checks, sets, owner requests, the
shift, the search of the account table, the hold operations, promotion, the slots of a loop, the
charge of a keg, the roles of the scanner, and the release of a group. -/

namespace Sys2Proof.Machine

/-! ### Taking a command -/

theorem State.running_of_released {s : State} {f : State → State} (h : s.resetHeld = false) : s.running f = .next (f s) := by
  simp [State.running, h]

theorem State.running_of_held {s : State} {f : State → State} (h : s.resetHeld = true) : s.running f = .next s := by
  simp [State.running, h]

/-- A taken command never stops: its one outcome is the state after it, or the state itself while RESET_N is low. -/
theorem State.running_eq_next {s t : State} {f : State → State} :
    s.running f = .next t ↔ t = if s.resetHeld then s else f s := by
  unfold State.running
  constructor
  · intro h; cases h; rfl
  · rintro rfl; rfl

/-- No check of an ordered table fails exactly when all of them hold. -/
theorem firstFail_eq_none (cs : List (Bool × Status)) : firstFail cs = none ↔ ∀ c ∈ cs, c.1 = true := by
  induction cs with
  | nil => simp [firstFail]
  | cons c cs ih =>
    obtain ⟨b, st⟩ := c
    cases b <;> simp [firstFail, ih]

/-- A failing table names the status of a check behind checks that hold. -/
theorem firstFail_eq_some (cs : List (Bool × Status)) (st : Status) :
    firstFail cs = some st ↔ ∃ pre post, cs = pre ++ (false, st) :: post ∧ ∀ c ∈ pre, c.1 = true := by
  induction cs with
  | nil => simp [firstFail]
  | cons c cs ih =>
    obtain ⟨b, x⟩ := c
    cases b with
    | false =>
      simp only [firstFail, Bool.false_eq_true, if_false, Option.some.injEq]
      constructor
      · rintro rfl; exact ⟨[], cs, rfl, by simp⟩
      · rintro ⟨pre, post, h, hp⟩
        cases pre with
        | nil => simp at h; exact h.1
        | cons y ys => simp at h; have := hp y (by simp); simp [← h.1] at this
    | true =>
      simp only [firstFail, if_true]
      rw [ih]
      constructor
      · rintro ⟨pre, post, rfl, hp⟩
        exact ⟨(true, x) :: pre, post, rfl, by simpa using hp⟩
      · rintro ⟨pre, post, h, hp⟩
        cases pre with
        | nil => simp at h
        | cons y ys =>
          simp at h
          exact ⟨ys, post, h.2, fun c hc => hp c (by simp [hc])⟩

/-! ### Tables and sets -/

@[simp] theorem mem_indices {n : Nat} (i : Fin n) : i ∈ indices n := by simp [indices]

@[simp] theorem getLsbD_member {w : Nat} (i j : Nat) : (member i : BitVec w).getLsbD j = (decide (j < w) && decide (j = i)) := by
  simp only [member, BitVec.getLsbD_shiftLeft, BitVec.getLsbD_one]
  rw [Bool.eq_iff_iff]
  simp
  omega

/-- Raising a kind for a line adds the line to the subject set of the kind and leaves every other set (R179). -/
theorem Attention.raiseLine_sets (a : Attention) (k : LineKind) (l : Line) :
    (∀ m : Line, (look (a.raiseLine k l).lines k.number).getLsbD m.val =
      ((look a.lines k.number).getLsbD m.val || decide (m = l))) ∧
    SameBut a.lines (a.raiseLine k l).lines k.number ∧
    a.raiseLine k l = { a with lines := (a.raiseLine k l).lines } := by
  refine ⟨fun m => ?_, sameBut_put _ _ _, rfl⟩
  simp only [Attention.raiseLine, look_put_same, BitVec.getLsbD_or, getLsbD_member, Fin.ext_iff, m.isLt, decide_true,
    Bool.true_and]

/-! ### Numbers in bytes (R184) -/

/-- Bytes read back as the number written, modulo their range. -/
theorem numBE_bytesBE (w n : Nat) : numBE (bytesBE w n) = n % 256 ^ w := by
  induction w generalizing n with
  | zero => simp [bytesBE, numBE, Nat.mod_one]
  | succ w ih =>
    have h : numBE (bytesBE (w + 1) n) = numBE (bytesBE w (n / 256)) * 256 + n % 256 := by
      simp [bytesBE, numBE, List.foldl_append]
    rw [h, ih, Nat.pow_succ, Nat.mul_comm (256 ^ w) 256, Nat.mod_mul]
    omega

/-! ### Transactions on the SPI port (R174) -/

/-- Fewer than eight bits make no byte. -/
theorem mosiBytes_of_short {bits : List Bool} (h : bits.length < 8) : mosiBytes bits = [] := by
  unfold mosiBytes
  split
  · simp at h; omega
  · rfl

/-- The bits of a byte make that byte, and what follows it is read on. -/
theorem mosiBytes_byte (b : Byte) (bits : List Bool) : mosiBytes (byteBits b ++ bits) = b :: mosiBytes bits := by
  have h : BitVec.ofBoolListBE [b.getLsbD 7, b.getLsbD 6, b.getLsbD 5, b.getLsbD 4, b.getLsbD 3, b.getLsbD 2, b.getLsbD 1,
      b.getLsbD 0] = b := by revert b; decide
  exact congrArg (· :: mosiBytes bits) h

/-- Bytes sent bit by bit are read back, without the partial byte that may follow. -/
theorem mosiBytes_bytes (bytes : List Byte) {bits : List Bool} (h : bits.length < 8) :
    mosiBytes (bytes.flatMap byteBits ++ bits) = bytes := by
  induction bytes with
  | nil => simpa using mosiBytes_of_short h
  | cons b bytes ih => simp [List.append_assoc, mosiBytes_byte, ih]

/-! ### Owner requests (R165) -/

/-- An owner request writes the next pattern of its group alone. -/
theorem State.ask_eq (s : State) (g : ValveGroup) (b : Fin 8) (on : Bool) :
    s.ask g b on = { s with valves := { s.valves with
      groups := put s.valves.groups g { s.valve g with next := askBit g (s.valve g).next b on } } } := rfl

theorem State.ask_valve (s : State) (g h : ValveGroup) (b : Fin 8) (on : Bool) :
    (s.ask g b on).valve h = if h = g then { s.valve g with next := askBit g (s.valve g).next b on } else s.valve h := by
  simp [State.ask, State.setValve, State.valve, look_put]

theorem getLsbD_setBit (p : Pattern) (b c : Fin 8) (on : Bool) :
    (setBit p b on).getLsbD c.val = if c = b then on else p.getLsbD c.val := by
  have hc := c.isLt
  cases on <;> by_cases h : c = b <;>
    simp only [setBit, if_true, if_false, Bool.false_eq_true, BitVec.getLsbD_or, BitVec.getLsbD_and, BitVec.getLsbD_not,
      getLsbD_member, ← Fin.ext_iff, h, hc] <;> simp

/-- Every bit of a pattern after an owner request: the asked one, its partner, which an ON request clears, and the others. -/
theorem getLsbD_askBit (g : ValveGroup) (p : Pattern) (b c : Fin 8) (on : Bool) :
    (askBit g p b on).getLsbD c.val =
      if on = true ∧ partner g b = some c then false else if c = b then on else p.getLsbD c.val := by
  cases on with
  | false => simp only [askBit, getLsbD_setBit, Bool.false_eq_true, if_false, false_and]
  | true =>
    cases h : partner g b with
    | none => simp only [askBit, h, getLsbD_setBit, if_true, reduceCtorEq, and_false, if_false]
    | some d => simp only [askBit, h, getLsbD_setBit, if_true, true_and, Option.some.injEq, eq_comm]

/-! ### The Valve Chain (R169) -/

/-- A shift that is asked begins on a free chain with the image, and is wanted on a busy one. -/
theorem State.askShift_cases (s : State) :
    (s.valves.shifting = none ∧ s.askShift = { s with valves := { s.valves with shifting := some s.valves.image } }) ∨
    (s.valves.shifting ≠ none ∧ s.askShift = { s with valves := { s.valves with wanted := true } }) := by
  cases h : s.valves.shifting <;> simp [State.askShift, h]

/-- The first `n` bits of an image, read back in the order of the chain, are its `n` most significant bits. -/
theorem echoImage_take (image : Image) (n : Nat) (h : n ≤ 144) :
    echoImage ((List.range n).map fun i => image.getLsbD (143 - i)) = image >>> (144 - n) := by
  induction n with
  | zero =>
    apply BitVec.eq_of_getLsbD_eq
    intro i hi
    simp [echoImage]
  | succ n ih =>
    rw [List.range_succ, List.map_append]
    simp only [echoImage, List.foldl_append] at ih ⊢
    rw [ih (by omega)]
    apply BitVec.eq_of_getLsbD_eq
    intro i hi
    have : 144 - n = 144 - (n + 1) + 1 := by omega
    rcases i with _ | i
    · simp [show 144 - (n + 1) = 143 - n by omega]
    · simp [hi, show 144 - n + i = 144 - (n + 1) + (i + 1) by omega]

/-- An image that comes back in the order in which it was sent is the image that was sent (R186). -/
theorem echoImage_imageBits (image : Image) : echoImage (imageBits image) = image := by
  simpa [imageBits] using echoImage_take image 144 (Nat.le_refl _)

/-- A shift takes 144 bits out, one latch pulse and 144 bits in (R186). -/
theorem shiftTicks_length (image : Image) : (shiftTicks image).length = 289 := by simp [shiftTicks, imageBits]

/-! ### The account table (R92) -/

/-- What the search of the table finds is a record that holds the ID. -/
theorem State.findAccount_spec {s : State} {id : Nat} {i : AccountIx} {a : Account} (h : s.findAccount id = some (i, a)) :
    s.account i = some a ∧ a.id = id := by
  obtain ⟨j, -, hj⟩ := List.exists_of_findSome?_eq_some h
  cases hk : s.account j with
  | none => simp [hk] at hj
  | some b =>
    simp only [hk, Option.ite_none_right_eq_some, Option.some.injEq, Prod.mk.injEq] at hj
    obtain ⟨hid, rfl, rfl⟩ := hj
    exact ⟨hk, hid⟩

/-- The search fails exactly when no record holds the ID. -/
theorem State.findAccount_eq_none {s : State} {id : Nat} :
    s.findAccount id = none ↔ ∀ i a, s.account i = some a → a.id ≠ id := by
  simp only [State.findAccount, List.findSome?_eq_none_iff, mem_indices, true_implies]
  refine forall_congr' fun i => ?_
  cases s.account i <;> simp

/-- A record that alone holds its ID is the one the search finds. -/
theorem State.findAccount_of_unique {s : State} {id : Nat} {i : AccountIx} {a : Account} (h : s.account i = some a)
    (hid : a.id = id) (hu : ∀ j b, s.account j = some b → b.id = id → j = i) : s.findAccount id = some (i, a) := by
  cases hf : s.findAccount id with
  | none => exact absurd hid (findAccount_eq_none.mp hf i a h)
  | some x =>
    obtain ⟨j, b⟩ := x
    obtain ⟨hb, hbid⟩ := findAccount_spec hf
    obtain rfl := hu j b hb hbid
    rw [h] at hb
    cases hb
    rfl

/-! ### Holds (section 5.4) -/

/-- The three answers to a placement (R97). -/
theorem State.placeHold_cases (s : State) (id h : Nat) :
    (s.placeHold id h = .noAccount ∧ ∀ i a, s.findAccount id = some (i, a) → a.state ≠ .opened) ∨
    (∃ i a, s.findAccount id = some (i, a) ∧ a.state = .opened ∧
      (a.available + a.float < h ∧ s.placeHold id h = .noCredit ∨
        (h : Int) ≤ a.available + a.float ∧ s.placeHold id h = .placed (s.setAccount i (some (a.place h))))) := by
  cases hf : s.findAccount id with
  | none => simp [State.placeHold, hf]
  | some x =>
    obtain ⟨i, a⟩ := x
    by_cases ho : a.state = .opened
    · right
      refine ⟨i, a, rfl, ho, ?_⟩
      by_cases hc : a.available + a.float < h
      · simp [State.placeHold, hf, ho, hc]
      · simp [State.placeHold, hf, ho, hc]; omega
    · simp [State.placeHold, hf, ho]

/-- The end of a hold writes its record, and closes a CLOSING one with its last hold (R102). -/
theorem State.endHold_cases (s : State) (i : AccountIx) (a : Account) :
    (a.state = .closing ∧ a.holds = 0 ∧
      s.endHold i a = (s.setAccount i (some { a with state := .closed })).raiseAccount i) ∨
    (¬(a.state = .closing ∧ a.holds = 0) ∧ s.endHold i a = s.setAccount i (some a)) := by
  by_cases h : a.state = .closing ∧ a.holds = 0 <;> simp [State.endHold, h]

/-- The end of a hold leaves all but the account table and the attention set. -/
theorem State.endHold_frame (s : State) (i : AccountIx) (a : Account) :
    s.endHold i a = { s with
      accounts := (s.endHold i a).accounts
      link := { s.link with attention := (s.endHold i a).link.attention } } := by
  rcases s.endHold_cases i a with ⟨-, -, h⟩ | ⟨-, h⟩ <;> rw [h] <;> rfl

theorem State.releaseHold_frame (s : State) (id h : Nat) :
    s.releaseHold id h = { s with
      accounts := (s.releaseHold id h).accounts
      link := { s.link with attention := (s.releaseHold id h).link.attention } } := by
  unfold State.releaseHold
  split
  · rfl
  · exact State.endHold_frame _ _ _

theorem State.settleHold_frame (s : State) (id h b : Nat) :
    s.settleHold id h b = { s with
      accounts := (s.settleHold id h b).accounts
      link := { s.link with attention := (s.settleHold id h b).link.attention } } := by
  unfold State.settleHold
  split
  · rfl
  · exact State.endHold_frame _ _ _

/-- The release of a pour's hold leaves all but the account table and the attention set. -/
theorem State.releasePour_frame (s : State) (p : Pour) :
    s.releasePour p = { s with
      accounts := (s.releasePour p).accounts
      link := { s.link with attention := (s.releasePour p).link.attention } } := by
  unfold State.releasePour
  split
  · exact State.releaseHold_frame _ _ _
  · rfl

/-! ### Withdrawal and promotion (R48, R50) -/

/-- A withdrawal leaves all but the pour records, the wait queues, the account table and the attention set. -/
theorem State.withdraw_frame (s : State) (l : Line) :
    s.withdraw l = { s with
      pourControl := { s.pourControl with
        pours := (s.withdraw l).pourControl.pours, trunks := (s.withdraw l).pourControl.trunks }
      accounts := (s.withdraw l).accounts
      link := { s.link with attention := (s.withdraw l).link.attention } } := by
  unfold State.withdraw
  split
  · rw [State.releasePour_frame]
    unfold State.leaveQueue
    split <;> rfl
  · rfl

/-- The promotion of one head writes pour records and wait queues alone. -/
theorem State.promoteHead_frame (s : State) (t : Trunk) :
    s.promoteHead t = { s with pourControl := { s.pourControl with
      pours := (s.promoteHead t).pourControl.pours, trunks := (s.promoteHead t).pourControl.trunks } } := by
  simp only [State.promoteHead]
  split
  · rfl
  · split <;> rfl

theorem State.promoteUpTo_frame (n : Nat) (s : State) (t : Trunk) :
    State.promoteUpTo n s t = { s with pourControl := { s.pourControl with
      pours := (State.promoteUpTo n s t).pourControl.pours
      trunks := (State.promoteUpTo n s t).pourControl.trunks } } := by
  induction n generalizing s with
  | zero => rfl
  | succ n ih =>
    unfold State.promoteUpTo
    split
    · rw [ih, State.promoteHead_frame]
    · rfl

/-- Promotion on a trunk writes pour records and wait queues alone. -/
theorem State.promote_frame (s : State) (t : Trunk) :
    s.promote t = { s with pourControl := { s.pourControl with
      pours := (s.promote t).pourControl.pours, trunks := (s.promote t).pourControl.trunks } } :=
  State.promoteUpTo_frame _ _ _

/-- Where the trunk may not promote, or nothing waits on it, promotion does nothing. -/
theorem State.promote_none (s : State) (t : Trunk) (h : (s.trunk t).queue = [] ∨ s.mayPromote t = false) :
    s.promote t = s := by
  unfold State.promote
  cases hq : (s.trunk t).queue with
  | nil => rfl
  | cons l rest =>
    rcases h with h | h
    · simp [hq] at h
    · simp [State.promoteUpTo, h]

/-! ### Slots of a loop (R108) -/

/-- The slot after a slot is the next one of the frame, or none after the last. -/
theorem LoopRec.slotAfter_cases (r : LoopRec) (k : Slot) :
    (∃ m : Slot, r.slotAfter k = some m ∧ m.val = k.val + 1 ∧ m.val < r.slotCount) ∨
      r.slotAfter k = none ∧ (r.slotCount ≤ k.val + 1 ∨ 24 ≤ k.val + 1) := by
  unfold LoopRec.slotAfter
  split
  · split
    · exact .inl ⟨_, rfl, rfl, ‹_›⟩
    · exact .inr ⟨rfl, .inl (by omega)⟩
  · exact .inr ⟨rfl, .inr (by omega)⟩

/-- The latch of a frame sync: the command of every slot of the frame, and of no other. -/
theorem State.look_latchedWords (s : State) (i : LoopId) (k : Slot) :
    look (s.latchedWords i) k = if k.val < (s.loop i).slotCount then some (s.slotCommand ⟨i, k⟩) else none := by
  have go : ∀ (ks : List Slot) (v : Vector (Option OutCommand) 24),
      look (ks.foldl (fun v k =>
        if k.val < (s.loop i).slotCount then put v k (some (s.slotCommand ⟨i, k⟩)) else v) v) k =
      if k ∈ ks ∧ k.val < (s.loop i).slotCount then some (s.slotCommand ⟨i, k⟩) else look v k := by
    intro ks
    induction ks with
    | nil => simp
    | cons j ks ih =>
      intro v
      rw [List.foldl_cons, ih]
      by_cases hj : k = j
      · subst hj
        by_cases hc : k.val < (s.loop i).slotCount <;> simp [hc]
      · by_cases hc : j.val < (s.loop i).slotCount
        · simp [hc, hj, look_put_ne _ _ _ _ hj]
        · simp [hc, hj]
  rw [State.latchedWords, go]
  simp [look_replicate]

/-! ### Charging a keg (R69) -/

/-- An addition to a keg in its four buckets, each limited to the headroom that the ones before it leave (R69). -/
theorem KegRec.charge_eq_withShares (k : KegRec) (a : Amounts) :
    k.charge a = k.withShares a.billed a.unbilled a.house a.loss := by
  simp only [KegRec.charge, KegRec.addBilled, KegRec.addUnbilled, KegRec.addHouse, KegRec.addLoss, KegRec.limit, KegRec.withShares,
    KegRec.mk.injEq, true_and, and_true]
  omega

/-! ### A sense input with a new role (R121) -/

/-- A CHANNEL_SET evaluates the gate of each trunk with a restarted role once, in the state with both roles restarted. -/
theorem State.assign_cases (s : State) (i : SenseInput) (r : Role) (base : Int) (span : Nat) :
    ∃ u : State, u = (((s.dropRole (s.otherHolder i r)).setInput i ⟨r, base, span⟩).restartRole (s.input i).role).restartRole r ∧
      ((s.input i).role.trunk = r.trunk ∧ s.assign i r base span = u.evalRoleGate r ∨
        (s.input i).role.trunk ≠ r.trunk ∧ s.assign i r base span = (u.evalRoleGate (s.input i).role).evalRoleGate r) := by
  by_cases h : (s.input i).role.trunk = r.trunk <;> simp [State.assign, h]

/-! ### The end of a draw and the release of a group (R147, R155) -/

/-- A group is released only in RELEASE with no draw in flight; otherwise nothing happens. -/
theorem State.considerRelease_cases (s : State) :
    (∃ g, s.cleaning.group = some g ∧ g.phase = .release ∧ (∀ x ∈ g.lines, x.draw = none) ∧
      s.considerRelease = s.releaseGroup g) ∨ s.considerRelease = s := by
  unfold State.considerRelease
  split
  · split
    · rename_i g hg h
      exact .inl ⟨g, hg, h.1, by simpa using h.2, rfl⟩
    · exact .inr rfl
  · exact .inr rfl

/-- A settled draw outside RELEASE only settles the run, where the run does not end into RELEASE. -/
theorem State.considerRelease_of_phase (s : State) (h : ∀ g, s.cleaning.group = some g → g.phase ≠ .release) :
    s.considerRelease = s := by
  obtain ⟨g, hg, hp, -, -⟩ | he := s.considerRelease_cases
  · exact absurd hp (h g hg)
  · exact he

end Sys2Proof.Machine
end

