-- ==== Sys2Proof/Laws/PerInstr.lean ====
section
/-! SUPPORT. The payload of every command of the Venue Link has the length its row of section 11.2 gives, one lemma for each
command. -/

namespace Sys2Proof.Laws

open Sys2Proof Sys2Proof.Machine

/-- `bytesBE` writes the number of bytes asked for. -/
@[simp] theorem bytesBE_length (w n : Nat) : (bytesBE w n).length = w := by
  induction w generalizing n with
  | zero => simp [bytesBE]
  | succ w ih => simp [bytesBE, ih]

/-- `bytesInt` writes the number of bytes asked for. -/
@[simp] theorem bytesInt_length (w : Nat) (n : Int) : (bytesInt w n).length = w := by simp [bytesInt]

/-- The length of a command's payload is the length its code asks for. -/
def FrameLength.Statement (i : Instr) : Prop :=
  ∀ (code : Byte) (payload : List Byte), encodeCommand i = some (code, payload) →
    requestLength code = some payload.length

/-- From the code and the payload of a command to its statement. -/
theorem FrameLength.of_encode {i : Instr} {c : Byte} {p : List Byte} {n : Nat} (h : encodeCommand i = some (c, p))
    (hr : requestLength c = some n) (hl : p.length = n) : FrameLength.Statement i := by
  intro code payload he
  rw [h] at he
  cases he
  rw [hr, hl]

/-- A row that is no command of the Venue Link has no payload. -/
theorem FrameLength.of_none {i : Instr} (h : encodeCommand i = none) : FrameLength.Statement i := by
  intro code payload he
  simp [h] at he

theorem FrameLength.lineConfig (args : LineConfigArgs) : FrameLength.Statement (.lineConfig args) :=
  FrameLength.of_encode rfl rfl (by simp [writeLineConfig])

theorem FrameLength.lineSet (args : LineSetArgs) : FrameLength.Statement (.lineSet args) :=
  FrameLength.of_encode rfl rfl (by simp [writeLineSet])

theorem FrameLength.lineHold (line : Nat) : FrameLength.Statement (.lineHold line) :=
  FrameLength.of_encode rfl rfl (by simp)

theorem FrameLength.lineRelease (line : Nat) : FrameLength.Statement (.lineRelease line) :=
  FrameLength.of_encode rfl rfl (by simp)

theorem FrameLength.linePrime (line : Nat) : FrameLength.Statement (.linePrime line) :=
  FrameLength.of_encode rfl rfl (by simp)

theorem FrameLength.lineRetire (line : Nat) : FrameLength.Statement (.lineRetire line) :=
  FrameLength.of_encode rfl rfl (by simp)

theorem FrameLength.lineRead (line : Nat) : FrameLength.Statement (.lineRead line) :=
  FrameLength.of_encode rfl rfl (by simp)

theorem FrameLength.portionSet (args : PortionSetArgs) : FrameLength.Statement (.portionSet args) :=
  FrameLength.of_encode rfl rfl (by simp [writePortionSet])

theorem FrameLength.calLock : FrameLength.Statement .calLock :=
  FrameLength.of_encode rfl rfl (by simp)

theorem FrameLength.calUnlock (service : Bool) : FrameLength.Statement (.calUnlock service) :=
  FrameLength.of_encode rfl rfl (by simp)

theorem FrameLength.pourAbort (line : Nat) : FrameLength.Statement (.pourAbort line) :=
  FrameLength.of_encode rfl rfl (by simp)

theorem FrameLength.pourRead (line : Nat) : FrameLength.Statement (.pourRead line) :=
  FrameLength.of_encode rfl rfl (by simp)

theorem FrameLength.trunkDraw (trunk : Nat) (limit : Nat) : FrameLength.Statement (.trunkDraw trunk limit) :=
  FrameLength.of_encode rfl rfl (by simp)

theorem FrameLength.partSet (args : PartSetArgs) : FrameLength.Statement (.partSet args) :=
  FrameLength.of_encode rfl rfl (by simp [writePartSet])

theorem FrameLength.kegEnrol (args : KegEnrolArgs) : FrameLength.Statement (.kegEnrol args) :=
  FrameLength.of_encode rfl rfl (by simp [writeKegEnrol])

theorem FrameLength.kegCheck (line : Nat) (position : Nat) : FrameLength.Statement (.kegCheck line position) :=
  FrameLength.of_encode rfl rfl (by simp)

theorem FrameLength.kegConfirm (line : Nat) (position : Nat) (verdict : Nat) : FrameLength.Statement (.kegConfirm line position verdict) :=
  FrameLength.of_encode rfl rfl (by simp)

theorem FrameLength.kegRetire (line : Nat) (position : Nat) : FrameLength.Statement (.kegRetire line position) :=
  FrameLength.of_encode rfl rfl (by simp)

theorem FrameLength.kegRead (line : Nat) (position : Nat) : FrameLength.Statement (.kegRead line position) :=
  FrameLength.of_encode rfl rfl (by simp)

theorem FrameLength.kegFind (tag : Tag) : FrameLength.Statement (.kegFind tag) :=
  FrameLength.of_encode rfl rfl (by simp)

theorem FrameLength.accountOpen (id : Nat) (float : Nat) (credit : Int) : FrameLength.Statement (.accountOpen id float credit) :=
  FrameLength.of_encode rfl rfl (by simp)

theorem FrameLength.accountCredit (id : Nat) (amount : Int) : FrameLength.Statement (.accountCredit id amount) :=
  FrameLength.of_encode rfl rfl (by simp)

theorem FrameLength.accountFloat (id : Nat) (float : Nat) : FrameLength.Statement (.accountFloat id float) :=
  FrameLength.of_encode rfl rfl (by simp)

theorem FrameLength.accountClose (id : Nat) : FrameLength.Statement (.accountClose id) :=
  FrameLength.of_encode rfl rfl (by simp)

theorem FrameLength.accountRead (selector : Nat) (key : Nat) (page : Nat) : FrameLength.Statement (.accountRead selector key page) :=
  FrameLength.of_encode rfl rfl (by simp)

theorem FrameLength.loopSet (loop : Nat) (slots : Nat) : FrameLength.Statement (.loopSet loop slots) :=
  FrameLength.of_encode rfl rfl (by simp)

theorem FrameLength.loopStart (loop : Nat) : FrameLength.Statement (.loopStart loop) :=
  FrameLength.of_encode rfl rfl (by simp)

theorem FrameLength.loopStop (loop : Nat) : FrameLength.Statement (.loopStop loop) :=
  FrameLength.of_encode rfl rfl (by simp)

theorem FrameLength.loopReset (loop : Nat) : FrameLength.Statement (.loopReset loop) :=
  FrameLength.of_encode rfl rfl (by simp)

theorem FrameLength.loopRead (loop : Nat) (page : Nat) : FrameLength.Statement (.loopRead loop page) :=
  FrameLength.of_encode rfl rfl (by simp)

theorem FrameLength.scanSet (resolution : Nat) (mask : BitVec 16) : FrameLength.Statement (.scanSet resolution mask) :=
  FrameLength.of_encode rfl rfl (by simp)

theorem FrameLength.channelSet (input : Nat) (role : Nat) (base : Int) (span : Nat) : FrameLength.Statement (.channelSet input role base span) :=
  FrameLength.of_encode rfl rfl (by simp)

theorem FrameLength.scanStart : FrameLength.Statement .scanStart :=
  FrameLength.of_encode rfl rfl (by simp)

theorem FrameLength.scanStop : FrameLength.Statement .scanStop :=
  FrameLength.of_encode rfl rfl (by simp)

theorem FrameLength.trunkClimate (args : TrunkClimateArgs) : FrameLength.Statement (.trunkClimate args) :=
  FrameLength.of_encode rfl rfl (by simp [writeTrunkClimate])

theorem FrameLength.chillerSet (args : ChillerSetArgs) : FrameLength.Statement (.chillerSet args) :=
  FrameLength.of_encode rfl rfl (by simp [writeChillerSet])

theorem FrameLength.boost (offset : Nat) (cycles : Nat) : FrameLength.Statement (.boost offset cycles) :=
  FrameLength.of_encode rfl rfl (by simp)

theorem FrameLength.climateRead (page : Nat) : FrameLength.Statement (.climateRead page) :=
  FrameLength.of_encode rfl rfl (by simp)

theorem FrameLength.recipeSet (args : RecipeSetArgs) : FrameLength.Statement (.recipeSet args) :=
  FrameLength.of_encode rfl rfl (by simp [writeRecipeSet])

theorem FrameLength.cleanSet (groupSize : Nat) (pumpMin : Nat) : FrameLength.Statement (.cleanSet groupSize pumpMin) :=
  FrameLength.of_encode rfl rfl (by simp)

theorem FrameLength.cleanSubmit (lines : LineSet) (recipe : Nat) : FrameLength.Statement (.cleanSubmit lines recipe) :=
  FrameLength.of_encode rfl rfl (by simp)

theorem FrameLength.cleanAbort (lines : LineSet) : FrameLength.Statement (.cleanAbort lines) :=
  FrameLength.of_encode rfl rfl (by simp)

theorem FrameLength.cleanHalt : FrameLength.Statement .cleanHalt :=
  FrameLength.of_encode rfl rfl (by simp)

theorem FrameLength.cleanRead (page : Nat) : FrameLength.Statement (.cleanRead page) :=
  FrameLength.of_encode rfl rfl (by simp)

theorem FrameLength.timebaseSet (channel : Nat) (period : Nat) (margin : Nat) : FrameLength.Statement (.timebaseSet channel period margin) :=
  FrameLength.of_encode rfl rfl (by simp)

theorem FrameLength.timebaseSync (mask : Byte) : FrameLength.Statement (.timebaseSync mask) :=
  FrameLength.of_encode rfl rfl (by simp)

theorem FrameLength.valveClear : FrameLength.Statement .valveClear :=
  FrameLength.of_encode rfl rfl (by simp)

theorem FrameLength.valveRead (page : Nat) : FrameLength.Statement (.valveRead page) :=
  FrameLength.of_encode rfl rfl (by simp)

theorem FrameLength.attnRead : FrameLength.Statement .attnRead :=
  FrameLength.of_encode rfl rfl (by simp)

theorem FrameLength.attnMask (kinds : BitVec 16) : FrameLength.Statement (.attnMask kinds) :=
  FrameLength.of_encode rfl rfl (by simp)

theorem FrameLength.partReset (tag : Byte) : FrameLength.Statement (.partReset tag) :=
  FrameLength.of_encode rfl rfl (by simp)

theorem FrameLength.pinReset : FrameLength.Statement .pinReset :=
  FrameLength.of_none rfl

theorem FrameLength.commandWrite (service : Bool) (bytes : List Byte) : FrameLength.Statement (.commandWrite service bytes) :=
  FrameLength.of_none rfl

theorem FrameLength.responseRead (n : Nat) : FrameLength.Statement (.responseRead n) :=
  FrameLength.of_none rfl

theorem FrameLength.statusRead (n : Nat) : FrameLength.Statement (.statusRead n) :=
  FrameLength.of_none rfl

theorem FrameLength.unknownTransaction (first : Byte) (n : Nat) : FrameLength.Statement (.unknownTransaction first n) :=
  FrameLength.of_none rfl

theorem FrameLength.partResetComplete : FrameLength.Statement .partResetComplete :=
  FrameLength.of_none rfl

theorem FrameLength.frameSync (loop : LoopId) : FrameLength.Statement (.frameSync loop) :=
  FrameLength.of_none rfl

theorem FrameLength.slotEnd (loop : LoopId) (slot : Slot) (word : SlotWord) : FrameLength.Statement (.slotEnd loop slot word) :=
  FrameLength.of_none rfl

theorem FrameLength.faucetLost (loop : LoopId) (slot : Slot) : FrameLength.Statement (.faucetLost loop slot) :=
  FrameLength.of_none rfl

theorem FrameLength.pourOvertime (line : Line) : FrameLength.Statement (.pourOvertime line) :=
  FrameLength.of_none rfl

theorem FrameLength.lowFlowBlockEnd (line : Line) : FrameLength.Statement (.lowFlowBlockEnd line) :=
  FrameLength.of_none rfl

theorem FrameLength.waitTimeout (line : Line) : FrameLength.Statement (.waitTimeout line) :=
  FrameLength.of_none rfl

theorem FrameLength.promotion (trunk : Trunk) : FrameLength.Statement (.promotion trunk) :=
  FrameLength.of_none rfl

theorem FrameLength.tailQuietSettle (line : Line) : FrameLength.Statement (.tailQuietSettle line) :=
  FrameLength.of_none rfl

theorem FrameLength.tailWindow (line : Line) : FrameLength.Statement (.tailWindow line) :=
  FrameLength.of_none rfl

theorem FrameLength.couplerReadStart : FrameLength.Statement .couplerReadStart :=
  FrameLength.of_none rfl

theorem FrameLength.couplerCopyRead (status : Byte) (block : BitVec 128) : FrameLength.Statement (.couplerCopyRead status block) :=
  FrameLength.of_none rfl

theorem FrameLength.conversionComplete (code : Nat) : FrameLength.Statement (.conversionComplete code) :=
  FrameLength.of_none rfl

theorem FrameLength.probeFailed (input : SenseInput) : FrameLength.Statement (.probeFailed input) :=
  FrameLength.of_none rfl

theorem FrameLength.timebasePeriodEvent (channel : Channel) : FrameLength.Statement (.timebasePeriodEvent channel) :=
  FrameLength.of_none rfl

theorem FrameLength.timebaseMarginEvent (channel : Channel) : FrameLength.Statement (.timebaseMarginEvent channel) :=
  FrameLength.of_none rfl

theorem FrameLength.cycleStart : FrameLength.Statement .cycleStart :=
  FrameLength.of_none rfl

theorem FrameLength.boostEnd : FrameLength.Statement .boostEnd :=
  FrameLength.of_none rfl

theorem FrameLength.stageSwitch (second : Bool) : FrameLength.Statement (.stageSwitch second) :=
  FrameLength.of_none rfl

theorem FrameLength.pumpFlowPulse : FrameLength.Statement .pumpFlowPulse :=
  FrameLength.of_none rfl

theorem FrameLength.pumpFault : FrameLength.Statement .pumpFault :=
  FrameLength.of_none rfl

theorem FrameLength.phaseTimeout : FrameLength.Statement .phaseTimeout :=
  FrameLength.of_none rfl

theorem FrameLength.soakEnd : FrameLength.Statement .soakEnd :=
  FrameLength.of_none rfl

theorem FrameLength.groupFormation : FrameLength.Statement .groupFormation :=
  FrameLength.of_none rfl

theorem FrameLength.groupRelease : FrameLength.Statement .groupRelease :=
  FrameLength.of_none rfl

theorem FrameLength.chainShiftStart : FrameLength.Statement .chainShiftStart :=
  FrameLength.of_none rfl

theorem FrameLength.chainShiftEnd (echo : Image) : FrameLength.Statement (.chainShiftEnd echo) :=
  FrameLength.of_none rfl

theorem FrameLength.resetNRelease : FrameLength.Statement .resetNRelease :=
  FrameLength.of_none rfl

end Sys2Proof.Laws
end

