-- ==== Sys2Proof/Tests/Slice0.lean ====
section
/-! SUPPORT. Small tests. Each expected result is one of the manual's worked cases or tables, named in the test's comment; the
`witness` theorems show states and operands that meet the hypotheses of the statements, clause by clause. -/

namespace Sys2Proof.Tests

set_option Elab.async false

open Sys2Proof Sys2Proof.Machine

/-! ### Small states -/

/-- The state after a command; the state before it where the command stops. -/
def after (i : Instr) (s : State) : State :=
  match exec i s with
  | .next t => t
  | _ => s

/-- The status that a command answers. -/
def status (i : Instr) (s : State) : Option Status := (after i s).answer.map Answer.status

/-- The configuration of line 7 in the worked cases: 1,000 mL fill, 125,000 nL a pulse, account 210, slot 6 of loop A, trunk 2. -/
def cfg7 : LineCfg :=
  { product := 1001, trunk := 2, fill := 1000, k := 125000, tail := 6250000, binding := ⟨.A, 6⟩, account := 210,
    portionSet := 0, primePercent := 125 }

/-- The keg of line 7 at one state. -/
def keg7 (k : KegState) : KegRec :=
  { tag := 0x42#64, product := 1001, nominal := 50000, state := k, drawn := 0, billed := 0, unbilled := 0, house := 0,
    loss := 0, lowFlows := 0, suspect := false, checkFailed := false, lastCheck := none }

/-- Account 210 with one hold of `h` mL. -/
def acc (h : Nat) : Account :=
  { id := 210, state := .opened, credited := 2000, available := 2000 - h, held := h, spent := 0, float := 500
    holds := if h = 0 then 0 else 1, settled := 0 }

/-- Line 7 in a mode with a pour record and the state of its keg at A, if any: its slot bound on loop A, which runs with that slot in
progress, and its account open at index 3. -/
def house (m : Mode) (r : PourRec) (k : Option KegState) (h : Nat := 0) : State :=
  let s0 := State.reset.setLine 7 { LineRec.reset with mode := m, cfg := some cfg7, primed := if m = .priming then some 0 else none }
  let s1 := (s0.setRecord 7 r).setBound ⟨.A, 6⟩ (some 7)
  let s2 := s1.setLoop .A { LoopRec.reset with state := .running 250, slot := some 6 }
  let s3 := s2.setRecv ⟨.A, 6⟩ (some { missRun := 0, lost := false, lastSeq := some 0#3, code := some 0#3 })
  ((s3.setKeg 7 .A (k.map keg7)).setAccount 3 (some (acc h))).setZone 2 { State.reset.zone 2 with gate := .cold }

/-- A PORTION(3) pour of 500 mL on account 210 with the volume `v`. -/
def pour500 (v : Nat) : Pour :=
  { kind := .portion 2, target := 500000000, hold := 532, account := some 210, v := v, clamp := false, warm := false }

/-- A FREE pour with a cap of 1,000 mL on account 210 with the volume `v`. -/
def pourFree (v : Nat) : Pour :=
  { kind := .free, target := 1000000000, hold := 1000, account := some 210, v := v, clamp := false, warm := false }

/-- A CLEAN draw. -/
def pourClean : Pour :=
  { kind := .clean, target := 500000000, hold := 0, account := none, v := 1000, clamp := false, warm := false }

/-- An inbound word of slot 6: pulses, code and sequence, with a good check byte (R185). -/
def word (pulses : Nat) (code seq : Nat) : SlotWord :=
  let b0 : Byte := BitVec.ofNat 8 pulses
  let b1 : Byte := BitVec.ofNat 8 (code * 16 + seq)
  (b0 ++ b1) ++ (~~~(b0 ^^^ b1))

/-- A recipe within its ranges. -/
def recipe : Recipe :=
  { warm := true, purge := 100, caustic := 100, soak := 60, rinse := 100, passes := 1, condMin := 0, condMax := 100
    target := 500, timeout := 30 }

/-- A group of line 7 alone in a phase, owing `owed` mL. -/
def group (p : Phase) (owed : Nat) (result : GroupResult := .pending) : Group :=
  { recipe := recipe, recipeNo := 0, phase := p, run := 1, steps := 0, lowPump := 0, lastPump := 0, lossReported := false
    heater := false, lines := [⟨7, true, result, owed, 0, none⟩], takeWait := .period }

/-- Line 7 in CLEANING with its group. -/
def cleaning (g : Group) (r : PourRec := .idle) : State := (house .cleaning r none).setGroup (some g)

/-! ### Well-formed commands: one refused term for each check -/

theorem test_wf_ok : (Instr.trunkDraw 5 32).wf = true ∧ (Instr.conversionComplete 4095).wf = true ∧
    (Instr.accountOpen 65535 65535 2147483647).wf = true ∧ (Instr.unknownTransaction 0x10#8 4).wf = true := by decide

theorem test_wf_transactions : (Instr.unknownTransaction 0x01#8 4).wf = false ∧ (Instr.unknownTransaction 0x03#8 0).wf = false ∧
    (Instr.conversionComplete 4096).wf = false := by decide

theorem test_wf_bytes : (Instr.lineHold 256).wf = false ∧ (Instr.lineRelease 256).wf = false ∧ (Instr.linePrime 256).wf = false ∧
    (Instr.lineRetire 256).wf = false ∧ (Instr.lineRead 256).wf = false ∧ (Instr.pourAbort 256).wf = false ∧
    (Instr.pourRead 256).wf = false ∧ (Instr.trunkDraw 256 1).wf = false ∧ (Instr.trunkDraw 1 256).wf = false ∧
    (Instr.kegCheck 256 0).wf = false ∧ (Instr.kegCheck 0 256).wf = false ∧ (Instr.kegConfirm 0 0 256).wf = false ∧
    (Instr.kegRetire 0 256).wf = false ∧ (Instr.kegRead 256 0).wf = false ∧ (Instr.climateRead 256).wf = false ∧
    (Instr.cleanSet 256 0).wf = false ∧ (Instr.cleanSubmit 0#32 256).wf = false ∧ (Instr.cleanRead 256).wf = false ∧
    (Instr.boost 256 1).wf = false ∧ (Instr.scanSet 256 0#16).wf = false ∧ (Instr.valveRead 256).wf = false ∧
    (Instr.loopSet 256 2).wf = false ∧ (Instr.loopStart 256).wf = false ∧ (Instr.loopStop 256).wf = false ∧
    (Instr.loopReset 256).wf = false ∧ (Instr.loopRead 0 256).wf = false := by decide

theorem test_wf_wide : (Instr.accountOpen 65536 0 0).wf = false ∧ (Instr.accountOpen 1 65536 0).wf = false ∧
    (Instr.accountOpen 1 0 2147483648).wf = false ∧ (Instr.accountCredit 65536 0).wf = false ∧
    (Instr.accountCredit 1 (-2147483649)).wf = false ∧ (Instr.accountFloat 1 65536).wf = false ∧
    (Instr.accountClose 65536).wf = false ∧ (Instr.accountRead 1 65536 0).wf = false ∧
    (Instr.timebaseSet 0 65536 0).wf = false ∧ (Instr.channelSet 0 0 32768 0).wf = false ∧
    (Instr.channelSet 0 0 0 65536).wf = false := by decide

theorem test_wf_records :
    (LineConfigArgs.wf ⟨256, 0, 1, 0, 100, 20000, 0, 0, 0, 0, 0, 0⟩) = false ∧
    (LineSetArgs.wf ⟨0, 65536, 0, 0, 0, 0, 0, 0, 0, 0, 0, 0⟩) = false ∧
    (PortionSetArgs.wf ⟨0, 0, 0, 0, 0, 65536⟩) = false ∧ (PartSetArgs.wf ⟨0, 0, 0, 0, 0, 0, 0, 0, 0, 0, 65536⟩) = false ∧
    (KegEnrolArgs.wf ⟨0#64, 1, 4294967296, 0, 0⟩) = false ∧ (TrunkClimateArgs.wf ⟨0, 32768, 0, 0, 0, 0⟩) = false ∧
    (ChillerSetArgs.wf ⟨0, 65536, 0, 0, 0, 0⟩) = false ∧ (RecipeSetArgs.wf ⟨0, 0, 0, 0, 0, 0, 0, 0, 0, -32769, 0⟩) = false := by
  decide

/-! ### Frames (Chapters 10 and 11) -/

/-- R184: over "123456789" the register ends at 0x29B1. -/
theorem test_crc_check_value : crc [0x31, 0x32, 0x33, 0x34, 0x35, 0x36, 0x37, 0x38, 0x39] = 0x29B1#16 := by decide +kernel

/-- Section 11.2: TRUNK_DRAW is code 0x22 with a trunk and a limit; TIMEBASE_SET is 0x80 with two 16-bit fields. -/
theorem test_read_commands : readCommand false 9 0x22#8 [0x03#8, 0x20#8] = some (.trunkDraw 3 32) ∧
    readCommand false 9 0x80#8 [0x02#8, 0x03#8, 0xE8#8, 0x01#8, 0xF4#8] = some (.timebaseSet 2 1000 500) ∧
    readCommand false 9 0x41#8 [0x00#8, 0xD2#8, 0xFF#8, 0xFF#8, 0xFF#8, 0xFE#8] = some (.accountCredit 210 (-2)) ∧
    readCommand true 9 0x19#8 [] = some (.calUnlock true) ∧ readCommand false 9 0x26#8 [] = none := by decide

/-- Section 11.2: the fields of a KEG_ENROL payload, the tag first. -/
theorem test_read_keg_enrol : readCommand false 0 0x30#8 [0, 0, 0, 0, 0, 0, 0, 0x42, 0x03, 0xE9, 0, 0, 0xC3, 0x50, 7, 1] =
    some (.kegEnrol ⟨0x42#64, 1001, 50000, 7, 1⟩) := by decide

/-- R174: the first byte 0x03 and two more bytes, with a partial one discarded, are a status read, 0x01 takes the bytes that follow as
a frame, 0x10 selects nothing, and seven bits have no effect. -/
theorem test_read_transaction :
    let zeros := List.replicate 6 false
    readTransaction false (zeros ++ [true, true] ++ List.replicate 19 false) = some (.statusRead 2) ∧
    readTransaction true (zeros ++ [false, true, true] ++ zeros ++ [false]) = some (.commandWrite true [0x80#8]) ∧
    readTransaction false ([false, false, false, true] ++ List.replicate 4 false) = some (.unknownTransaction 0x10#8 0) ∧
    readTransaction false (zeros ++ [true]) = none := by decide +kernel

/-- R175 and R176: a CAL_LOCK frame with tag 9 sets the lock, and its response waits with the tag and the code. -/
theorem test_command_write : (after (.commandWrite false (closeFrame [0x18#8, 9#8, 0#8])) State.reset).lineTable.calLock = true ∧
    (after (.commandWrite false (closeFrame [0x18#8, 9#8, 0#8])) State.reset).link.state =
      .respReady (responseFrame .ok 9#8 0x18#8 [0x01#8]) := by decide +kernel

/-- R176: a frame with a wrong CRC is answered FRAME_ERROR and sets FRAME_BAD. -/
theorem test_bad_frame : (after (.commandWrite false [0x18#8, 9#8, 0#8, 0#8, 0#8]) State.reset).lineTable.calLock = false ∧
    (after (.commandWrite false [0x18#8, 9#8, 0#8, 0#8, 0#8]) State.reset).link.frameBad = true := by decide +kernel

/-- R177: the read that takes the whole response leaves the link IDLE, and a shorter one does not. -/
theorem test_response_read :
    (after (.responseRead 7) (after (.commandWrite false (closeFrame [0x18#8, 9#8, 0#8])) State.reset)).link.state = .idle ∧
    (after (.responseRead 6) (after (.commandWrite false (closeFrame [0x18#8, 9#8, 0#8])) State.reset)).link.state ≠ .idle := by
  decide +kernel

/-- R182: PART_RESET keeps the lock, and its completion posts a response of code 0xFF with the frame's tag. -/
theorem test_part_reset : (after (.partReset 5#8) (after .calLock State.reset)).lineTable.calLock = true ∧
    (after .partResetComplete (after (.partReset 5#8) State.reset)).link.state =
      .respReady (responseFrame .ok 5#8 0xFF#8 []) := by decide +kernel

/-- R183: PIN_RESET clears the lock, and until RESET_N is released a command does nothing. -/
theorem test_pin_reset : (after .pinReset (after .calLock State.reset)).lineTable.calLock = false ∧
    (after .calLock (after .pinReset State.reset)).lineTable.calLock = false := by decide

/-- R179 to R181: a raised kind drives ATTN_N only where the mask has its bit, and is pending whatever the mask. -/
theorem test_attention : (State.reset.raise .lineDry 7).link.attnLow = true ∧
    (after (.attnMask 0x0001#16) (State.reset.raise .lineDry 7)).link.attnLow = false ∧
    (after (.attnMask 0x0001#16) (State.reset.raise .lineDry 7)).link.attnPending = true ∧
    (after .attnRead (State.reset.raise .lineDry 7)).link.attnPending = false := by decide

/-! ### Lines, pours and volumes (Chapters 1 to 3) -/

/-- The table of R31. -/
theorem test_learn_tail : learnTail 6250000 7750000 = 6437500 ∧ learnTail 6250000 4999999 = 6093749 ∧
    learnTail 6250000 6250003 = 6250000 ∧ learnTail 6250000 6249999 = 6249999 ∧ learnTail 5 0 = 4 ∧
    learnTail 39000000 90000000 = 40000000 := by decide

/-- Section 2.9: the hold of a 500 mL portion is 532 mL and of a 300 mL portion 319 mL (section 5.8). -/
theorem test_portion_hold : portionHold 500 = 532 ∧ portionHold 300 = 319 := by decide

/-- Section 2.9, arrivals 1,974 and 1,975: 3,948 pulses pour on, 3,950 close on TARGET with V_close 493,750,000. -/
theorem test_close_test :
    ((after (.slotEnd .A 6 (word 2 3 1)) (house .ready (.pouring (pour500 493250000) 500 5 10) (some .onTap) 532)).pour 7).record =
      .pouring (pour500 493500000) 501 6 12 ∧
    ((after (.slotEnd .A 6 (word 2 3 1)) (house .ready (.pouring (pour500 493500000) 500 5 10) (some .onTap) 532)).pour 7).record =
      .tailing (pour500 493750000) 500 493750000 .target 0 0 := by decide +kernel

/-- Section 2.9, settlement: 502 mL billed, the account given 30 mL back, T at 6,437,500, the keg drawn by 502. -/
theorem test_settlement :
    let t := after (.tailQuietSettle 7) (house .ready (.tailing (pour500 501500000) 500 493750000 .target 16 40) (some .onTap) 532)
    (t.line 7).totals.billed = 502 ∧ (t.line 7).totals.pours = 1 ∧ (t.line 7).cfg.map LineCfg.tail = some 6437500 ∧
    (t.keg 7 .A).map KegRec.drawn = some 502 ∧ (t.account 3).map Account.available = some 1498 ∧
    (t.account 3).map Account.spent = some 502 ∧ (t.pour 7).record = .idle := by decide +kernel

/-- Section 2.10: a free pour of 1,005 mL bills its cap, with 5 mL unbilled, and teaches nothing. -/
theorem test_free_overrun :
    let t := after (.tailQuietSettle 7) (house .ready (.tailing (pourFree 1005000000) 500 993750000 .cap 16 40) (some .onTap) 1000)
    (t.line 7).totals.billed = 1000 ∧ (t.line 7).totals.unbilled = 5 ∧ (t.line 7).cfg.map LineCfg.tail = some 6250000 ∧
    (t.keg 7 .A).map KegRec.drawn = some 1005 ∧ (t.account 3).map Account.spent = some 1000 := by decide +kernel

/-- R44 to R46: pressing portion 3 on a READY line places 532 mL and pours; before quiet frames reach the settle count a tail stays. -/
theorem test_press_portion :
    ((after (.slotEnd .A 6 (word 0 3 1)) (house .ready .idle (some .onTap))).pour 7).record = .pouring (pour500 0) 0 0 0 ∧
    ((after (.slotEnd .A 6 (word 0 3 1)) (house .ready .idle (some .onTap))).account 3).map Account.held = some 532 ∧
    ((after (.tailQuietSettle 7) (house .ready (.tailing (pour500 501500000) 500 493750000 .target 15 40) none)).pour 7).record ≠
      .idle := by decide +kernel

/-- R112: the word of a silent faucet is all zeros, and its check fails (section 6.5). -/
theorem test_silent_faucet :
    ((after (.slotEnd .A 6 0#24) (house .ready .idle none)).recv ⟨.A, 6⟩).map RecvState.missRun = some 1 ∧
    ((after (.slotEnd .A 6 0#24) (house .ready .idle none)).loop .A).checkErrors = 1 := by decide +kernel

/-- R5: LINE_PRIME without a keg is refused, and with one starts PRIMING with the product valve asked open. -/
theorem test_line_prime : status (.linePrime 7) (house .water .idle none) = some .notFound ∧
    ((after (.linePrime 7) (house .water .idle (some .standby))).line 7).mode = .priming ∧
    ((after (.linePrime 7) (house .water .idle (some .standby))).valve 1).next = 0x40#8 ∧
    ((after (.linePrime 7) (house .water .idle (some .standby))).valve 9).next = 0x40#8 := by decide +kernel

/-- R10 and R11: a hold and a release. -/
theorem test_hold_release : ((after (.lineHold 7) (house .ready .idle none)).line 7).mode = .held ∧
    ((after (.lineRelease 7) (after (.lineHold 7) (house .ready .idle none))).line 7).mode = .ready ∧
    status (.lineHold 7) (house .foul .idle none) = some .wrongState := by decide +kernel

/-- R19: CAL_UNLOCK with SERVICE low is refused LOCKED. -/
theorem test_cal_unlock : status (.calUnlock false) (after .calLock State.reset) = some .locked ∧
    (after (.calUnlock true) (after .calLock State.reset)).lineTable.calLock = false := by decide

/-- R65: the outcomes of POUR_ABORT. -/
theorem test_pour_abort : status (.pourAbort 32) State.reset = some .badArg ∧ status (.pourAbort 7) State.reset = some .notFound ∧
    ((after (.pourAbort 7) (house .ready (.pouring (pour500 9) 3 0 0) none 532)).pour 7).record =
      .tailing (pour500 9) 3 9 .abort 0 0 := by decide +kernel

/-! ### Kegs, accounts and loops (Chapters 4 to 6) -/

/-- Section 4.15: a copy whose ID byte 0x42 has the complement byte 0xB5 is invalid. -/
theorem test_tag_complement : validCopy ((0x42#64 : BitVec 64) ++ (~~~0x42#64 : BitVec 64)) = true ∧
    validCopy ((0x42#64 : BitVec 64) ++ (0xFFFFFFFFFFFFFFB5#64 : BitVec 64)) = false := by decide

/-- R74 and R186: position B of line 5 is reader 11, copy 2 is asked with 0xC2, and the strobe falls after the read. -/
theorem test_bus_stages : ({ KegRegister.reset with
      bus := some ⟨2, false, false⟩, queue := [⟨5, .B, .check, 0⟩] } : KegRegister).busStages =
    [⟨11#6, false, [], 0⟩, ⟨11#6, true, [], 0⟩, ⟨11#6, true, [true, true, false, false, false, false, true, false], 0⟩,
      ⟨11#6, true, [], 17⟩, ⟨0#6, false, [], 0⟩] ∧ KegRegister.reset.busStages = [⟨0#6, false, [], 0⟩] := by decide +kernel

/-- R77: a MATCH makes an enrolled keg STANDBY; R74: no coupler ends the transaction without a record. -/
theorem test_enrol_outcomes :
    let s := ((house .ready .idle (some .verifying)).setReadQueue [⟨7, .A, .enrol, 0x42#64⟩]).setBus (some ⟨0, false, false⟩)
    ((after (.couplerCopyRead 0xA5#8 ((0x42#64 : BitVec 64) ++ (~~~0x42#64 : BitVec 64))) s).keg 7 .A).map KegRec.state =
      some .standby ∧ (after (.couplerCopyRead 0#8 0) s).keg 7 .A = none := by decide +kernel

/-- R83: a low flow on a fresh keg makes it suspect; a second one spends it and the line goes DRY. -/
theorem test_low_flow :
    let s := house .ready (.tailing { pour500 0 with hold := 0, account := some 0 } 500 0 .lowFlow 16 40) (some .onTap)
    ((after (.tailQuietSettle 7) s).keg 7 .A).map KegRec.suspect = some true ∧
    ((after (.tailQuietSettle 7) (s.setKeg 7 .A (some { keg7 .onTap with suspect := true }))).line 7).mode = .dry := by
  decide +kernel

/-- Line 7 WAITING with a hold of 532 mL. -/
def waitingHold : State := house .ready (.waiting (pour500 0) 3) none 532

/-- Section 5.8: ACCOUNT_OPEN takes the lowest empty place; a float of 400 is refused at available −417. -/
theorem test_account_open :
    ((after (.accountOpen 210 500 2000) State.reset).account 0).map Account.available = some 2000 ∧
    status (.accountOpen 210 500 2000) (house .ready .idle none) = some .duplicate ∧
    status (.accountFloat 210 400) (State.reset.setAccount 3 (some { acc 1915 with available := -417, spent := 502 })) =
      some .noCredit := by decide +kernel

/-- Section 11.2: page 1 of ACCOUNT_READ has 3 bytes for each holding line, the hold in the last two. -/
theorem test_holding_lines : ((waitingHold).holdingLines 210).length = 3 ∧ ((waitingHold).holdingLines 210).drop 1 = bytesBE 2 532 := by
  decide +kernel

/-- Section 5.8: the last hold of a CLOSING account closes it with its record index raised. -/
theorem test_account_closes :
    let s := State.reset.setAccount 3 (some { id := 210, state := .closing, credited := 3500, available := 1659, held := 532
                                              spent := 1309, float := 500, holds := 1, settled := 3 })
    ((s.settleHold 210 532 480).account 3) = some { id := 210, state := .closed, credited := 3500, available := 1711, held := 0
                                                    spent := 1789, float := 500, holds := 0, settled := 4 } ∧
    (s.settleHold 210 532 480).link.attention.accountClosed = 0x8#48 := by decide +kernel

/-- R106 and R107: LOOP_SET on a STOPPED loop, and the rate that LOOP_START latches. -/
theorem test_loops : status (.loopSet 0 24) State.reset = some .ok ∧ status (.loopSet 0 25) State.reset = some .badArg ∧
    ((after (.loopStart 1) State.reset).loop .B).state = .running 250 ∧ ((after (.loopStart 1) State.reset).loop .B).frames = 1 ∧
    status (.loopStop 1) State.reset = some .wrongState := by decide +kernel

/-- R108: a frame sync begins slot 0, the end of a slot begins the next one, and no other slot can end (log entry 14). -/
theorem test_slots_in_turn : ((after (.loopStart 1) State.reset).loop .B).slot = some 0 ∧
    ((after (.slotEnd .A 6 0#24) (house .ready .idle none)).loop .A).slot = some 7 ∧
    after (.slotEnd .A 5 0#24) (house .ready .idle none) = house .ready .idle none ∧
    after (.frameSync .A) (house .ready .idle none) = house .ready .idle none := by decide +kernel

/-- R105, R108 and R185: the outputs of the first and the last bit period of slot 0, whose word has the valve bit set, and of a STOPPED
loop. -/
theorem test_loop_pins :
    let r : LoopRec := { LoopRec.reset with
      state := .running 250, slot := some 0, latched := put LoopRec.reset.latched 0 (some ⟨true, .off, 0, 0⟩) }
    r.pins 0 = ⟨true, true, true⟩ ∧ r.pins 23 = ⟨true, false, true⟩ ∧ r.pins 1 = ⟨true, false, false⟩ ∧
    LoopRec.reset.pins 0 = ⟨false, false, false⟩ := by decide +kernel

/-! ### Climate, cleaning and valves (Chapters 7 to 9) -/

/-- R184: CHILLER_SET answers both stages OFF as 1, the second value of their list in section 7.1, and PASS is coded 6 in CLEAN_READ. -/
theorem test_state_codes : (after (.chillerSet ⟨0, 0, 0, 0, 0, 0⟩) State.reset).answer.map (fun a => a.payload.drop 9) = some [1#8, 1#8] ∧
    GroupResult.pass.code = 6 ∧ GroupResult.failRinse.code = 7 := by decide +kernel

/-- R147 and R116: the last draw of a group in RELEASE settles at LOOP_STOP, and its line is released with the result it has. -/
theorem test_release_at_loop_stop :
    let g : Group := { group .release 0 .aborted with lines := [⟨7, true, .aborted, 0, 0, some (.purge, 1)⟩] }
    ((after (.loopStop 0) (cleaning g (.tailing pourClean 3 9 .abort 1 2))).line 7).cleanResult = .aborted ∧
    ((after (.loopStop 0) (cleaning g (.tailing pourClean 3 9 .abort 1 2))).line 7).mode = .water := by decide +kernel

/-- Trunk 2 of section 7.9 with its beer probe on S3 at a filtered value. -/
def trunk2 (f : Int) (g : Gate) : State :=
  let s0 := State.reset.setZone 2 { State.reset.zone 2 with setpoint := 32, warn := 64, stop := 96, gain := 12, bias := 2, gate := g }
  let s1 := (s0.setInput 3 { role := .trunkBeer 2, base := -320, span := 1600 }).setRole 2
    { value := some f, filtered := some f, faultRun := 0, failed := false }
  s1.setScanner { running := true, resolution := 12, mask := 0x0008#16, conversion := some ⟨3, 12⟩ }

/-- Section 7.9: code 963 is 3.5 °C, the filter moves from 48 to 50, and the next duty is 15. -/
theorem test_conversion : ((after (.conversionComplete 963) (trunk2 48 .cold)).role 2).value = some 56 ∧
    ((after (.conversionComplete 963) (trunk2 48 .cold)).role 2).filtered = some 50 ∧
    ((after (.conversionComplete 963) (trunk2 48 .cold)).zone 2).gate = .cold := by decide +kernel

/-- Section 7.9: the duties at window 0 of F = 50, of F = 28, and of F = 50 under a boost of 16. -/
theorem test_duty : ((after .cycleStart ((trunk2 50 .cold).setWindow 0)).zone 2).duty = 15 ∧
    ((after .cycleStart ((trunk2 28 .cold).setWindow 0)).zone 2).duty = 0 ∧
    ((after .cycleStart (((trunk2 50 .cold).setWindow 0).setBoost (some ⟨16, 3⟩))).zone 2).duty = 16 := by decide +kernel

/-- Section 7.10, row by row. -/
theorem test_gate_rows : (((trunk2 60 .cold).evalGate 2).zone 2).gate = .cold ∧ (((trunk2 65 .cold).evalGate 2).zone 2).gate = .warn ∧
    (((trunk2 97 .warn).evalGate 2).zone 2).gate = .hot ∧ (((trunk2 90 .hot).evalGate 2).zone 2).gate = .hot ∧
    (((trunk2 88 .hot).evalGate 2).zone 2).gate = .warn ∧ (((trunk2 57 .warn).evalGate 2).zone 2).gate = .warn ∧
    (((trunk2 56 .warn).evalGate 2).zone 2).gate = .cold := by decide +kernel

/-- R150 and R156: a phase timeout of a line that still owes fails it, and the group is left in RELEASE to be released FOUL. -/
theorem test_phase_timeout :
    ((after .phaseTimeout (cleaning { group .purge 100 with steps := 30 })).line 7).cleanResult = .failTimeout ∧
    ((after .phaseTimeout (cleaning { group .purge 100 with steps := 30 })).line 7).mode = .foul ∧
    (after .phaseTimeout (cleaning { group .purge 100 with steps := 29 })).cleaning.group = some { group .purge 100 with steps := 29 } := by
  decide +kernel

/-- R61: a TB2 step asks the draw that a line owes. -/
theorem test_clean_draw : ((after (.timebasePeriodEvent 2) (cleaning (group .purge 100))).pour 7).record =
    .pouring { pourClean with target := 100000000, v := 0 } 0 0 0 := by decide +kernel

/-- R166 and R167: phase 1 turns off at once and turns nothing on; phase 2 turns on. -/
theorem test_two_phases :
    let s := State.reset.setValve 1 { next := 0x40#8, snapshot := 0x80#8, current := 0x80#8, turnOn := false }
    ((after (.timebasePeriodEvent 0) s).valve 1).current = 0#8 ∧
    ((after (.timebaseMarginEvent 0) (after (.timebasePeriodEvent 0) s)).valve 1).current = 0x40#8 := by decide +kernel

/-- R165: a product valve asked on clears the cleaning valve of its line. -/
theorem test_pair : (((State.reset.askCleaning 7 true).askProduct 7 true).valve 1).next = 0x40#8 := by decide

/-- R186: VG17 bit 7 goes out first and VG0 bit 0 last, then the latch pulse, and 144 bits come in. -/
theorem test_shift_ticks : (shiftTicks (1#144 <<< 143))[0]? = some (.out true) ∧ (shiftTicks 1#144)[143]? = some (.out true) ∧
    (shiftTicks 1#144)[144]? = some .latch ∧ (shiftTicks 1#144)[288]? = some .echo ∧
    State.reset.valves.ticks = shiftTicks 0 := by decide +kernel

/-- R170: an echo that differs sets the chain fault and names the first wrong output; VALVE_CLEAR clears it. -/
theorem test_chain_fault : (after (.chainShiftEnd 0x100#144) State.reset).valves.fault = true ∧
    (after (.chainShiftEnd 0x100#144) State.reset).valves.firstMismatch = some (1, 0) ∧
    (after .valveClear (after (.chainShiftEnd 0x100#144) State.reset)).valves.fault = false ∧
    (after .valveClear (after (.chainShiftEnd 0x100#144) State.reset)).valves.mismatches = 1 := by decide +kernel

/-- R162: the pending values of a channel are clamped and come in at its restart. -/
theorem test_timebase : ((after (.timebaseSet 0 1 5) State.reset).channel 0).pending = some (2, 1) ∧
    ((after (.timebasePeriodEvent 0) (after (.timebaseSet 0 1 5) State.reset)).channel 0).period = 2 := by decide +kernel

/-- The queue is first in, first out, and an empty one lets a millisecond pass. -/
theorem test_queue : (match step { State.reset with pending := [.calLock, .attnRead] } with
      | .next t => t.lineTable.calLock && t.pending == [.attnRead]
      | _ => false) = true ∧
    (match step State.reset with
      | .next t => (t.channel 1).counter == 1
      | _ => false) = true := by decide +kernel

/-! ### Witnesses: states and operands that meet the hypotheses of the statements -/

/-- A fact about every keg record, from the two positions of every line. -/
theorem kegs_of {s : State} {P : Line → Position → KegRec → Prop}
    (h : ∀ m : Line, (∀ k ∈ s.keg m .A, P m .A k) ∧ (∀ k ∈ s.keg m .B, P m .B k)) :
    ∀ m q k, s.keg m q = some k → P m q k := by
  intro m q k hk
  cases q
  · exact (h m).1 k hk
  · exact (h m).2 k hk

/-- A fact about every account record. -/
theorem accounts_of {s : State} {P : AccountIx → Account → Prop} (h : ∀ i : AccountIx, ∀ a ∈ s.account i, P i a) :
    ∀ i a, s.account i = some a → P i a := fun i a ha => h i a ha

/-- The link in a state. -/
def linked (l : LinkState) : State := { State.reset with link := { State.reset.link with state := l } }

theorem witness_everyCommand : (after .pinReset State.reset).resetHeld = true ∧ Instr.calLock ≠ .pinReset ∧
    Instr.calLock ≠ .resetNRelease := by decide

theorem witness_follow : (∀ t : Trunk, (State.reset.trunk t).queue = [] ∨ State.reset.mayPromote t = false) ∧
    (∀ g ∈ State.reset.cleaning.group, g.phase ≠ .release ∨ (g.lines.any fun x => x.draw.isSome) = true) ∧
    (State.reset.cleaning.group = none → State.reset.valves.fault = true ∨
      ∀ e ∈ State.reset.cleaning.queue, State.reset.takeableEntry e = false) ∧
    (∀ g ∈ (cleaning (group .purge 9)).cleaning.group, g.phase ≠ .release) := by decide +kernel

theorem witness_resets : (after .pinReset State.reset).resetHeld = true ∧ State.reset.resetHeld = false ∧
    (linked (.executing 3#8 0xFF#8)).link.state = .executing 3#8 0xFF#8 ∧ (linked (.executing 3#8 0xFF#8)).resetHeld = false ∧
    State.reset.link.state = .idle := by decide

theorem witness_payloads : (Instr.trunkDraw 255 255).wf = true ∧
    encodeCommand (.trunkDraw 255 255) = some (0x22#8, [0xFF#8, 0xFF#8]) ∧
    (Instr.boost 0 0).wf = true ∧ encodeCommand (.boost 0 0) = some (0x66#8, [0#8, 0#8]) := by decide

theorem witness_commandFrame : State.reset.resetHeld = false ∧ State.reset.link.state = .idle ∧
    Instr.calLock.wf = true ∧ encodeCommand .calLock = some (0x18#8, []) ∧ (0x18#8 : Byte) ≠ 0xFF#8 ∧
    closeFrame [0x18#8, 9#8, 0#8] = closeFrame ([0x18#8, 9#8] ++ byte ([] : List Byte).length ++ []) := by decide +kernel

theorem witness_discardedFrames : (linked (.executing 1#8 2#8)).link.state ≠ .idle ∧ ([0#8, 0#8] : List Byte).length < 3 ∧
    56 < (([0#8, 0#8, 57#8] : List Byte).getD 2 0#8).toNat ∧
    ([0x18#8, 9#8, 0#8, 0#8] : List Byte).length ≠ 5 + (([0x18#8, 9#8, 0#8, 0#8] : List Byte).getD 2 0#8).toNat ∧
    requestLength 0x26#8 = none ∧ requestLength 0x18#8 = some 0 ∧ ([0#8] : List Byte).length ≠ 0 ∧
    (List.replicate 56 (0#8 : Byte)).length ≤ 56 := by decide

theorem witness_transactions : (linked (.respReady [1#8])).link.state = .respReady [1#8] ∧ (linked (.respReady [1#8])).resetHeld = false ∧
    State.reset.link.state = .idle ∧ (0x04#8 : Byte) ≠ 0x01#8 ∧ (0x04#8 : Byte) ≠ 0x02#8 ∧ (0x04#8 : Byte) ≠ 0x03#8 ∧
    (List.replicate 7 true).length < 8 := by decide

theorem witness_attention : (0x3FFF#16).toNat < 2 ^ 14 ∧ 2 ^ 14 ≤ (0x4000#16).toNat ∧ State.reset.resetHeld = false := by decide

theorem witness_refused : encodeCommand (.lineHold 7) = some (0x12#8, [7#8]) ∧ Instr.lineHold 7 ≠ .cleanAbort 0#32 ∧
    (after (.lineHold 7) State.reset).answer = some ⟨.wrongState, []⟩ ∧ Status.wrongState ≠ .ok := by decide

theorem witness_reads : (house .ready .idle (some .standby)).resetHeld = false ∧ (acc 0).id = 210 ∧
    (∀ j b, (house .ready .idle none).account j = some b → b.id = (acc 0).id → j = 3) ∧
    (∀ j b, State.reset.account j = some b → b.id ≠ 65535) ∧
    (house .ready .idle (some .standby)).keg 7 .A = some (keg7 .standby) ∧
    (∀ m q k, (house .ready .idle (some .standby)).keg m q = some k → k.tag = (keg7 .standby).tag → m = 7 ∧ q = .A) ∧
    (∀ m q k, (house .ready .idle (some .standby)).keg m q = some k → k.tag ≠ 9#64) ∧
    (house .ready .idle none).account 3 = some (acc 0) ∧ (house .ready .idle none).account 47 = none :=
  ⟨by decide, by decide, accounts_of (by decide +kernel), accounts_of (by decide +kernel), by decide, kegs_of (by decide +kernel),
    kegs_of (by decide +kernel), by decide, by decide⟩

/-- LINE_CONFIG for line 31, its last slot and the widest fields. -/
def config31 : LineConfigArgs :=
  { line := 31, content := 1, product := 65535, trunk := 5, fill := 20000, k := 400000, tailSeed := 40000000, loop := 1, slot := 15
    account := 65535, portionSet := 3, primePercent := 200 }

theorem witness_lineConfig : config31.line = (31 : Line).val ∧ (State.reset.line 31).mode = .offline ∧
    config31.content = 1 ∧ 1 ≤ config31.product ∧ config31.product ≤ 65535 ∧ config31.trunk = (5 : Trunk).val ∧ 100 ≤ config31.fill ∧
    config31.fill ≤ 20000 ∧ 20000 ≤ config31.k ∧ config31.k ≤ 400000 ∧ config31.tailSeed ≤ 40000000 ∧
    config31.loop = loopCode .B ∧ config31.slot = (15 : Slot).val ∧ config31.account ≤ 65535 ∧ config31.portionSet = (3 : Fin 4).val ∧
    (config31.primePercent = 0 ∨ 100 ≤ config31.primePercent ∧ config31.primePercent ≤ 200) ∧
    (15 : Slot).val < (State.reset.loop .B).slotCount ∧ State.reset.bound ⟨.B, 15⟩ = none ∧ State.reset.lineTable.calLock = false ∧
    State.reset.resetHeld = false := by decide

/-- LINE_SET of line 7 that moves its binding to slot 0 of loop B and changes its account. -/
def set7 : LineSetArgs :=
  { line := 7, selection := 0x11, account := 0, portionSet := 0, primePercent := 0, trunk := 0, loop := 1, slot := 0, fill := 0
    k := 0, product := 0, tailReseed := 0 }

theorem witness_lineSet : set7.line = (7 : Line).val ∧ ((house .ready .idle none).line 7).mode ≠ .offline ∧
    ((house .ready .idle none).line 7).cfg = some cfg7 ∧ firstFail ((house .ready .idle none).lineSetChecks 7 set7) = none ∧
    selected set7.selection 1 = false ∧ selected set7.selection 3 = false ∧ selected set7.selection 4 = true ∧
    set7.loop = loopCode .B ∧ set7.slot = (0 : Slot).val ∧ (house .ready .idle none).resetHeld = false := by decide +kernel

/-- Line 7 HELD from READY. -/
def held7 : State := after (.lineHold 7) (house .ready .idle none)

theorem witness_hold : ((house .water .idle none).line 7).mode = .water ∧ ((house .ready .idle none).line 7).mode = .ready ∧
    ((house .dry .idle none).line 7).mode = .dry ∧ ((house .priming .idle none).line 7).mode = .priming ∧
    ((house .priming .idle none).pour 7).record = .idle ∧
    ((house .priming (.pouring (pour500 0) 0 0 0) none).pour 7).record ≠ .idle ∧ (State.reset.line 7).mode = .offline ∧
    ((house .foul .idle none).line 7).mode = .foul ∧ (held7.line 7).mode = .held ∧ (held7.line 7).heldFrom = some .ready ∧
    Mode.ready.holdable = true ∧ held7.resetHeld = false := by decide +kernel

theorem witness_linePrime : (house .water .idle (some .standby)).queued 7 = false ∧
    (house .water .idle (some .standby)).valves.fault = false ∧ (house .water .idle (some .standby)).eligible 7 .A = true ∧
    (house .water .idle (some .standby)).onTap 7 = none ∧ ((house .water .idle (some .standby)).line 7).mode = .water ∧
    (house .water .idle (some .standby)).lineGate 7 ≠ .hot ∧ ((house .dry .idle (some .standby)).line 7).mode = .dry ∧
    (let s := (house .dry .idle (some .spent)).setKeg 7 .B (some (keg7 .standby))
     s.eligible 7 .B = true ∧ s.eligible 7 .A = false ∧ s.onTap 7 = none ∧ s.resetHeld = false) := by decide +kernel

theorem witness_lineRetire : ((house .water .idle none).line 7).cfg = some cfg7 ∧ ((house .water .idle none).line 7).mode = .water ∧
    ((house .foul .idle none).line 7).mode = .foul ∧ (house .water .idle none).queued 7 = false ∧
    (house .water .idle none).keg 7 .A = none ∧ (house .water .idle none).keg 7 .B = none ∧
    (house .water .idle none).resetHeld = false := by decide +kernel

theorem witness_settings : (⟨3, 49, 2001, 50, 2000, 99⟩ : PortionSetArgs).set = (3 : Fin 4).val ∧
    4 ≤ (⟨4, 50, 50, 50, 50, 100⟩ : PortionSetArgs).set ∧ (after .calLock State.reset).lineTable.calLock = true ∧
    (after .calLock State.reset).resetHeld = false := by decide

/-! Pours -/

/-- Line 7 WAITING in the queue of trunk 2, whose limit is `limit`. -/
def waiting7 (n limit : Nat) : State :=
  (house .ready (.waiting (pour500 0) n) (some .onTap) 532).setTrunk 2 { limit := limit, queue := [7] }

theorem witness_pourAbort : State.reset.resetHeld = false ∧ (State.reset.pour 7).record = .idle ∧
    ((house .cleaning (.pouring pourClean 0 0 0) none).pour 7).record.pour = some pourClean ∧ pourClean.kind = .clean ∧
    ((waiting7 3 1).pour 7).record = .waiting (pour500 0) 3 ∧ (pour500 0).kind ≠ .clean ∧ ((waiting7 3 1).line 7).cfg = some cfg7 ∧
    ((house .ready (.pouring (pour500 0) 1 2 3) none).pour 7).record = .pouring (pour500 0) 1 2 3 ∧
    ((house .ready (.tailing (pour500 0) 1 0 .stop 2 3) none).pour 7).record = .tailing (pour500 0) 1 0 .stop 2 3 := by decide +kernel

theorem witness_trunkDraw : 6 ≤ 6 ∧ max 1 (min 32 0) ≤ (State.reset.trunk 0).limit ∧
    (State.reset.trunk 0).limit < max 1 (min 32 33) ∧ (State.reset.trunk 0).queue = [] ∧
    ((waiting7 0 1).zone 2).gate ≠ .hot ∧ (waiting7 0 1).trunkPouring 2 < ((waiting7 0 1).trunk 2).limit ∧
    ((waiting7 0 1).trunk 2).queue = [7] ∧ ((waiting7 0 1).pour 7).record = .waiting (pour500 0) 0 ∧
    (waiting7 0 1).resetHeld = false := by decide +kernel

theorem witness_frameTests :
    ((house .ready (.pouring (pour500 0) 15000 0 0) none).pour 7).record = .pouring (pour500 0) 15000 0 0 ∧
    (pour500 0).kind.isSale = true ∧ State.reset.timing.maxPour ≤ 15000 ∧
    ((house .ready (.pouring (pour500 0) 400 125 3) none).pour 7).record = .pouring (pour500 0) 400 125 3 ∧
    ¬(125 < State.reset.timing.lowFlowBlock) ∧ 3 < State.reset.timing.lowFlowMin ∧
    ((waiting7 749 1).pour 7).record = .waiting (pour500 0) 749 ∧ 749 < (waiting7 749 1).timing.waitTimeout ∧
    (waiting7 750 1).timing.waitTimeout ≤ 750 ∧ (waiting7 750 1).resetHeld = false := by decide +kernel

/-- Line 7 TAILING with its volumes of section 2.9. -/
def tailing7 (quiet close : Nat) (r : CloseReason) (p : Pour) : State :=
  house .ready (.tailing p 500 493750000 r quiet close) (some .onTap) p.hold

theorem witness_tailEnd : ((tailing7 16 40 .target (pour500 501500000)).pour 7).record = .tailing (pour500 501500000) 500 493750000 .target 16 40 ∧
    (pour500 501500000).kind.isSale = true ∧ (pour500 501500000).account = some 210 ∧ State.reset.timing.settle ≤ 16 ∧
    State.reset.timing.tailWindow ≤ 250 ∧ ((tailing7 0 250 .target (pour500 501500000)).line 7).cfg = some cfg7 ∧
    (tailing7 16 40 .target (pour500 501500000)).onTap 7 = some .A ∧ (tailing7 16 40 .target (pour500 501500000)).keg 7 .A = some (keg7 .onTap) ∧
    (keg7 .onTap).drawn + 502 ≤ maxTotal ∧ (tailing7 16 40 .target (pour500 501500000)).resetHeld = false := by decide +kernel

/-- A PRIME draw of `v` nL. -/
def pourPrime (v : Nat) : Pour :=
  { kind := .prime, target := 1250000000, hold := 0, account := none, v := v, clamp := false, warm := false }

/-- Line 7 PRIMING from 0 mL with a tail that settled at 16 quiet frames. -/
def priming7 (v : Nat) : State := house .priming (.tailing (pourPrime v) 9 v .handle 16 40) (some .onTap)

/-- A group of line 7 with a draw of the run in progress. -/
def drawing (p : Phase) (owed : Nat) : Group := { group p owed with lines := [⟨7, true, .pending, owed, 0, some (p, 1)⟩] }

/-- That group, with the draw of line 7 tailing. -/
def drawing7 (p : Phase) (owed : Nat) : State := cleaning (drawing p owed) (.tailing pourClean 3 9 .target 16 40)

theorem witness_primeEnd : ((priming7 1250000000).pour 7).record = .tailing (pourPrime 1250000000) 9 1250000000 .handle 16 40 ∧
    ((priming7 1250000000).line 7).mode = .priming ∧ ((priming7 1250000000).line 7).cfg = some cfg7 ∧
    ((priming7 1250000000).line 7).primed = some 0 ∧ (cfg7.fill * cfg7.primePercent + 99) / 100 ≤ 0 + 1250 ∧
    ¬((cfg7.fill * cfg7.primePercent + 99) / 100 ≤ 0 + 1249) ∧ (priming7 1250000000).onTap 7 = some .A ∧
    (priming7 1250000000).keg 7 .A = some (keg7 .onTap) ∧ (keg7 .onTap).drawn + (0 + 1250 - max 0 cfg7.fill) ≤ maxTotal ∧
    (priming7 1250000000).timing.settle ≤ 16 ∧ (priming7 1250000000).resetHeld = false := by decide +kernel

/-- A keg with 100 mL of headroom takes its buckets in order, and no more than that. -/
theorem test_shares_at_saturation : ({ keg7 .onTap with drawn := maxTotal - 100, billed := maxTotal - 100 } : KegRec).withShares 60 50 0 7 =
    { keg7 .onTap with drawn := maxTotal, billed := maxTotal - 40, unbilled := 40 } := by decide

/-- Each phase that a draw of line 7 can settle in: its run ends at 0 mL owed and goes on at more, and RELEASE ends. -/
theorem witness_cleanEnd : (∀ p ∈ [Phase.purge, .caustic, .rinse, .release],
      ((drawing7 p 0).pour 7).record = .tailing pourClean 3 9 .target 16 40 ∧ (drawing7 p 0).cleaning.group = some (drawing p 0) ∧
      ((drawing p 0).lines.map GroupLine.line).Nodup ∧ ⟨7, true, .pending, 0, 0, some (p, 1)⟩ ∈ (drawing p 0).lines ∧
      (drawing7 p 0).timing.settle ≤ 16 ∧ (drawing7 p 0).resetHeld = false ∧
      ((drawing7 p 0).line 7).mode = .cleaning) ∧ pourClean.kind = .clean ∧ GroupResult.pending.takesPart = true ∧
    (GroupLine.owing ⟨7, true, .pending, 0 - 0, 0, none⟩ = false ∧ GroupLine.owing ⟨7, true, .pending, 1 - 0, 0, none⟩ = true) ∧
    Phase.purge.metered = true ∧ Phase.soak.metered = false := by decide +kernel

theorem witness_teach : ((tailing7 16 250 .target (pour500 501500000)).line 7).cfg = some cfg7 ∧ (pour500 501500000).kind = .portion 2 ∧
    (pour500 501500000).kind ≠ .clean ∧ (pour500 501500000).clamp = false ∧ State.reset.timing.settle ≤ 16 ∧
    State.reset.timing.tailWindow ≤ 250 := by decide +kernel

/-- Line 7 PRIMING from 0 mL with a draw that ran dry, at the end of its window. -/
def dry7 (v : Nat) : State := house .priming (.tailing (pourPrime v) 9 v .lowFlow 0 250) (some .onTap)

theorem witness_lowFlow : (tailing7 16 40 .lowFlow (pour500 501500000)).onTap 7 = some .A ∧
    (tailing7 16 40 .lowFlow (pour500 501500000)).keg 7 .A = some (keg7 .onTap) ∧
    ((tailing7 16 40 .lowFlow (pour500 501500000)).line 7).under = .ready ∧ (pour500 501500000).account = some 210 ∧
    State.reset.timing.emptyMargin < (keg7 .onTap).nominal - 502 ∧
    ({ keg7 .onTap with nominal := 2002 } : KegRec).nominal - 502 ≤ State.reset.timing.emptyMargin ∧
    (∀ v ∈ [1249000000, 1250000000], ((dry7 v).pour 7).record = .tailing (pourPrime v) 9 v .lowFlow 0 250 ∧
      ((dry7 v).line 7).mode = .priming ∧ ((dry7 v).line 7).cfg = some cfg7 ∧ ((dry7 v).line 7).primed = some 0 ∧
      (dry7 v).onTap 7 = some .A ∧ (dry7 v).keg 7 .A = some (keg7 .onTap) ∧ (dry7 v).timing.tailWindow ≤ 250 ∧
      (dry7 v).resetHeld = false) := by decide +kernel

/-- R7 and R83: a PRIME draw that reaches its target and ran dry makes the line READY, and its keg suspect. -/
theorem test_prime_low_flow : ((after (.tailWindow 7) (dry7 1250000000)).line 7).mode = .ready ∧
    ((after (.tailWindow 7) (dry7 1250000000)).keg 7 .A).map (fun k => (k.suspect, k.lowFlows, k.loss)) = some (true, 1, 250) := by
  decide +kernel

/-! Kegs and accounts -/

/-- Line 7 with the read of its keg at A in progress. -/
def reading7 (purpose : ReadPurpose) (k : KegState) (t : Transaction) : State :=
  ((house .dry .idle (some k)).setReadQueue [⟨7, .A, purpose, 0x42#64⟩]).setBus (some t)

theorem witness_couplerQueue : (house .dry .idle none).kegRegister.queue.length < 8 ∧
    (∀ e ∈ (house .dry .idle none).kegRegister.queue, ¬(e.line = 7 ∧ e.position = .B)) ∧ (house .dry .idle none).keg 7 .B = none ∧
    ((house .dry .idle none).line 7).cfg = some cfg7 ∧ cfg7.product = (⟨1#64, 1001, 100000, 7, 1⟩ : KegEnrolArgs).product ∧
    (∀ m q k, (house .dry .idle none).keg m q = some k → k.tag ≠ 1#64) ∧
    (house .dry .idle (some .spent)).keg 7 .A = some (keg7 .spent) ∧ (keg7 .spent).state ≠ .verifying ∧
    (reading7 .enrol .verifying ⟨0, false, false⟩).kegRegister.bus = some ⟨0, false, false⟩ ∧
    (reading7 .enrol .verifying ⟨0, false, false⟩).kegRegister.queue = [⟨7, .A, .enrol, 0x42#64⟩] ∧
    (0xFF#8 : Byte) ≠ 0xA5#8 ∧ (0xFF#8 : Byte) ≠ 0#8 ∧
    (0#128).extractLsb' 0 64 ≠ ~~~((0#128).extractLsb' 64 64) :=
  ⟨by decide, by decide, by decide, by decide, by decide, kegs_of (by decide +kernel), by decide, by decide, by decide, by decide,
    by decide, by decide, by decide⟩

theorem witness_confirmRetire : (house .ready .idle (some .onTap)).keg 7 .A = some (keg7 .onTap) ∧
    ((house .ready .idle (some .onTap)).pour 7).record = .idle ∧ ((house .ready .idle (some .onTap)).line 7).under = .ready ∧
    ((house .ready (.pouring (pour500 0) 0 0 0) (some .onTap) 532).pour 7).record ≠ .idle ∧
    (house .dry .idle (some .standby)).keg 7 .A = some (keg7 .standby) ∧ (keg7 .standby).state = .standby ∧
    (house .dry .idle (some .spent)).keg 7 .A = some (keg7 .spent) ∧
    (house .dry .idle (some .verifying)).keg 7 .A = some (keg7 .verifying) ∧
    (reading7 .enrol .verifying ⟨0, false, false⟩).readInProgress 7 .A = true ∧
    (house .dry .idle (some .verifying)).readInProgress 7 .A = false := by decide +kernel

/-- A tag block of an ID and the complement it carries. -/
def block (id : BitVec 64) : BitVec 128 := id ++ (~~~id : BitVec 64)

theorem witness_couplerOutcomes :
    (reading7 .enrol .verifying ⟨3, true, false⟩).kegRegister.bus = some ⟨3, true, false⟩ ∧
    (reading7 .enrol .verifying ⟨3, true, false⟩).kegRegister.queue = [⟨7, .A, .enrol, 0x42#64⟩] ∧
    (block 0x42#64).extractLsb' 0 64 = ~~~(0x42#64) ∧ (block 0x42#64).extractLsb' 64 64 = 0x42#64 ∧
    (block 0x43#64).extractLsb' 0 64 = ~~~((block 0x43#64).extractLsb' 64 64) ∧ (block 0x43#64).extractLsb' 64 64 ≠ 0x42#64 ∧
    (0#128).extractLsb' 0 64 ≠ ~~~((0#128).extractLsb' 64 64) ∧ 3 ≤ (⟨3, true, false⟩ : Transaction).copy ∧
    (reading7 .enrol .verifying ⟨3, true, false⟩).keg 7 .A = some (keg7 .verifying) ∧
    ((reading7 .enrol .verifying ⟨3, true, false⟩).line 7).mode = .dry ∧
    (reading7 .enrol .verifying ⟨3, true, false⟩).queued 7 = false ∧ (keg7 .verifying).checkFailed = false ∧
    (∀ m q x, (reading7 .enrol .verifying ⟨3, true, false⟩).keg m q = some x → x.state ≠ .onTap) ∧
    (reading7 .check .spent ⟨0, false, true⟩).kegRegister.bus = some ⟨0, false, true⟩ :=
  ⟨by decide, by decide, by decide, by decide, by decide, by decide, by decide, by decide, by decide, by decide, by decide, by decide,
    kegs_of (by decide +kernel), by decide⟩

/-- A table whose 48 places hold the IDs 1 to 48. -/
def fullTable : State :=
  { State.reset with accounts := Vector.ofFn fun i : Fin 48 => some { acc 0 with id := i.val + 1 } }

theorem witness_accountOpen : State.reset.resetHeld = false ∧ (house .ready .idle none).account 3 = some (acc 0) ∧ (acc 0).id = 210 ∧
    (∀ i, ∃ a, fullTable.account i = some a ∧ a.id ≠ 65535) ∧
    (∀ j a, (house .ready .idle none).account j = some a → a.id ≠ 65535) ∧ (house .ready .idle none).account 0 = none ∧
    (∀ j : AccountIx, j < 0 → (house .ready .idle none).account j ≠ none) := by
  refine ⟨by decide, by decide, by decide, fun i => ?_, accounts_of (by decide +kernel), by decide, by decide⟩
  have h : ∀ i : AccountIx, (fullTable.account i).any (fun a => a.id != 65535) = true := by decide +kernel
  have hi := h i
  cases hk : fullTable.account i with
  | none => simp [hk] at hi
  | some a => exact ⟨a, rfl, by simpa [hk] using hi⟩

theorem witness_accounts : (house .ready .idle none).account 3 = some (acc 0) ∧ (acc 0).id = 210 ∧
    (∀ j b, (house .ready .idle none).account j = some b → b.id = 210 → j = 3) ∧
    (∀ j b, (house .ready .idle none).account j = some b → b.id ≠ 1) ∧ (house .ready .idle none).resetHeld = false ∧
    (acc 0).state = .opened ∧ ((2500 : Nat) : Int) ≤ (acc 0).available + (acc 0).float ∧
    (acc 0).available + (acc 0).float < ((2501 : Nat) : Int) :=
  ⟨by decide, by decide, accounts_of (by decide +kernel), accounts_of (by decide +kernel), by decide, by decide, by decide, by decide⟩

/-! Tap loops -/

theorem witness_loops : State.reset.resetHeld = false ∧ (State.reset.loop .A).state = .stopped ∧
    (∀ k : Slot, 2 ≤ k.val → State.reset.bound ⟨.A, k⟩ = none) ∧ ((house .ready .idle none).loop .A).state ≠ .stopped ∧
    ((house .ready .idle none).loop .A).slot ≠ none ∧
    (((house .ready .idle none).setLoop .A { LoopRec.reset with state := .running 250 }).loop .A).slot = none ∧
    (house .ready .idle none).bound ⟨.A, 6⟩ ≠ none ∧ 6 ≤ (6 : Slot).val ∧ (7 < 8 ∧ 63 < 64) := by decide +kernel

theorem witness_loopStop : (State.reset.loop .A).state = .stopped ∧ ((house .ready .idle none).loop .A).state ≠ .stopped ∧
    (house .ready .idle none).bound ⟨.A, 6⟩ = some 7 ∧ (∀ k : Slot, (house .ready .idle none).bound ⟨.A, k⟩ ≠ some 6) ∧
    (house .ready .idle none).cleaning.group = none ∧ ((house .ready .idle none).pour 7).record = .idle ∧
    ((house .ready (.pouring (pour500 0) 1 2 3) none).pour 7).record = .pouring (pour500 0) 1 2 3 ∧
    ((house .ready (.tailing (pour500 0) 1 0 .stop 2 3) none).pour 7).record = .tailing (pour500 0) 1 0 .stop 2 3 ∧
    ((waiting7 3 1).pour 7).record = .waiting (pour500 0) 3 ∧ ((waiting7 3 1).loop .A).state ≠ .stopped := by decide +kernel

/-- A group of line 7 on a loop that stops: taking part in a run, or in RELEASE with its last draw tailing. -/
theorem witness_loopStopGroup : (drawing7 .purge 9).cleaning.group = some (drawing .purge 9) ∧ (drawing .purge 9).phase ≠ .release ∧
    (∀ x ∈ (drawing .purge 9).lines, x.result.takesPart = true ∧ (drawing7 .purge 9).bound ⟨.A, 6⟩ = some x.line) ∧
    ((drawing7 .purge 9).loop .A).state ≠ .stopped ∧ (drawing7 .release 0).cleaning.group = some (drawing .release 0) ∧
    (drawing .release 0).phase = .release ∧ (∃ x ∈ (drawing .release 0).lines, x.draw ≠ none) ∧
    (∀ x ∈ (drawing .release 0).lines, ((drawing7 .release 0).line x.line).mode = .cleaning ∧
      (drawing7 .release 0).bound ⟨.A, 6⟩ = some x.line ∧ 2 ≤ ((drawing7 .release 0).pour x.line).record.code ∧
      ((drawing7 .release 0).pour x.line).record.pour = some pourClean) := by decide +kernel

/-- Line 7 with a receive state on its slot. -/
def heard7 (r : PourRec) (x : RecvState) (h : Nat := 0) : State := (house .ready r (some .onTap) h).setRecv ⟨.A, 6⟩ (some x)

theorem witness_misses : ((heard7 .idle ⟨0, false, some 1#3, some 0#3⟩).loop .A).state ≠ .stopped ∧
    ((heard7 .idle ⟨0, false, some 1#3, some 0#3⟩).loop .A).slot = some 6 ∧
    NextSlot ((heard7 .idle ⟨0, false, some 1#3, some 0#3⟩).loop .A) 6 (some 7) ∧
    NextSlot ((heard7 .idle ⟨0, false, some 1#3, some 0#3⟩).loop .A) 15 none ∧
    (heard7 .idle ⟨0, false, some 1#3, some 0#3⟩).bound ⟨.A, 6⟩ = some 7 ∧
    (heard7 .idle ⟨0, false, some 1#3, some 0#3⟩).recv ⟨.A, 6⟩ = some ⟨0, false, some 1#3, some 0#3⟩ ∧
    (0#24 : SlotWord).extractLsb' 0 8 ≠ ~~~((0#24 : SlotWord).extractLsb' 16 8 ^^^ (0#24 : SlotWord).extractLsb' 8 8) ∧
    (word 9 0 1).extractLsb' 0 8 = ~~~((word 9 0 1).extractLsb' 16 8 ^^^ (word 9 0 1).extractLsb' 8 8) ∧
    some 1#3 = some ((word 9 0 1).extractLsb' 8 3) ∧ 30 + 1 < State.reset.timing.lostThreshold ∧
    748 + 1 < State.reset.timing.waitTimeout ∧ 15 < State.reset.timing.settle ∧
    248 + 1 < State.reset.timing.tailWindow ∧ (State.reset.loop .A).state = .stopped ∧
    ((heard7 .idle ⟨0, false, none, none⟩).loop .A).slot ≠ some 7 ∧ State.reset.bound ⟨.A, 6⟩ = none ∧
    ((State.reset.setLoop .A { LoopRec.reset with state := .running 250, slot := some 6 }).loop .A).slot = some 6 := by
  decide +kernel

theorem witness_lostFaucet : (heard7 (.waiting (pour500 0) 3) ⟨32, false, some 1#3, some 3#3⟩ 532).bound ⟨.A, 6⟩ = some 7 ∧
    (heard7 (.waiting (pour500 0) 3) ⟨32, false, some 1#3, some 3#3⟩ 532).recv ⟨.A, 6⟩ = some ⟨32, false, some 1#3, some 3#3⟩ ∧
    ((heard7 (.waiting (pour500 0) 3) ⟨32, false, some 1#3, some 3#3⟩ 532).loop .A).state ≠ .stopped ∧
    State.reset.timing.lostThreshold ≤ 32 ∧ 31 < State.reset.timing.lostThreshold ∧
    ((heard7 (.waiting (pour500 0) 3) ⟨32, false, none, none⟩ 532).pour 7).record = .waiting (pour500 0) 3 ∧
    (((heard7 .idle ⟨32, false, none, none⟩).setLoop .A LoopRec.reset).loop .A).state = .stopped := by decide +kernel

/-- A good new word reaches line 7 whatever its mode, its pour record and its keg, and slot 7 runs after its slot. -/
theorem witness_hears (m : Mode) (r : PourRec) (k : Option KegState) (h : Nat) (prev : Option (BitVec 3)) (code : Fin 8) :
    ((house m r k h).setRecv ⟨.A, 6⟩ (some ⟨0, true, some 0#3, prev⟩)).Hears ⟨.A, 6⟩ (word 2 code 1) 7 ⟨0, true, some 0#3, prev⟩
      cfg7 (some 7) (BitVec.ofNat 3 code) 2 :=
  ⟨rfl, nofun, rfl, .inr ⟨7, rfl, rfl, (by decide : 7 < 16)⟩, rfl, rfl, rfl, by decide +revert, by decide +revert, by decide +revert,
    by decide +revert⟩

theorem witness_arrivals : (∀ r ∈ [PourRec.idle, .waiting (pour500 0) 749, .pouring (pour500 0) 9 0 0, .pouring pourClean 9 0 0,
      .pouring (pourFree 0) 15000 124 3, .tailing (pour500 9) 3 9 .stop 15 249],
      ((heard7 r ⟨0, true, some 0#3, some 3#3⟩ 532).pour 7).record = r) ∧
    ¬Asks ⟨0, true, some 0#3, some 3#3⟩ 3#3 ∧ ¬Asks ⟨0, true, some 0#3, some 0#3⟩ 6#3 ∧ Asks ⟨0, true, some 0#3, some 0#3⟩ 3#3 ∧
    ((heard7 (.pouring (pour500 0) 9 0 0) ⟨0, true, some 0#3, some 0#3⟩ 532).line 7).mode ≠ .water := by decide +kernel

/-- The first and the last request code, on a line that admits it, and PRIME on a WATER line with an eligible keg. -/
theorem witness_requests : (∀ code ∈ [1#3, 7#3], Asks ⟨0, true, some 0#3, some 0#3⟩ code) ∧
    ((house .ready .idle (some .onTap)).pour 7).record = .idle ∧ (house .ready .idle (some .onTap)).queued 7 = false ∧
    (house .ready .idle (some .onTap)).lineGate 7 ≠ .hot ∧ cfg7.account ≠ 0 ∧
    ((house .ready .idle (some .onTap)).line 7).mode = .ready ∧
    (match (house .ready .idle (some .onTap)).placeHold 210 319 with | .placed _ => true | _ => false) = true ∧
    (house .ready .idle (some .onTap)).trunkPouring 2 < ((house .ready .idle (some .onTap)).trunk 2).limit ∧
    ((house .priming .idle (some .onTap)).line 7).mode = .priming ∧ ((house .water .idle (some .standby)).line 7).mode = .water ∧
    (house .water .idle (some .standby)).queued 7 = false ∧ (house .water .idle (some .standby)).valves.fault = false ∧
    (house .water .idle (some .standby)).onTap 7 = none ∧ (house .water .idle (some .standby)).eligible 7 .A = true ∧
    (house .water .idle none).eligible 7 .A = false ∧ (house .water .idle none).eligible 7 .B = false ∧
    Mode.refusal .held false false none = some .held ∧ Mode.refusal .ready false true none = some .cleanPending := by
  refine ⟨by decide, ?_, ?_, ?_, ?_, ?_, ?_, ?_, ?_, ?_, ?_, ?_, ?_, ?_, ?_, ?_, ?_, ?_⟩ <;> decide +kernel

theorem witness_latches : (house .ready .idle (some .onTap)).Latches cfg7 0 1#3 (.portion 0) 300000000 319 ∧
    (house .ready .idle (some .onTap)).Latches cfg7 0 5#3 .free 1000000000 1000 ∧
    (house .water .idle (some .standby)).Latches cfg7 0 7#3 .prime 1250000000 0 := by
  refine ⟨.inl ⟨0, 300, ?_⟩, .inr (.inl ?_), .inr (.inr ?_)⟩ <;> decide +kernel

/-! Climate -/

theorem witness_scanner : (trunk2 50 .cold).climate.scanner.running = true ∧ State.reset.climate.scanner.running = false ∧
    State.reset.climate.scanner.conversion = none ∧ State.reset.climate.scanner.mask = 0#16 ∧
    (0x8000#16 : BitVec 16).getLsbD (15 : SenseInput).val = true ∧
    (∀ j : SenseInput, j < 15 → (0x8000#16 : BitVec 16).getLsbD j.val = false) ∧ (9 ≠ 8 ∧ 9 ≠ 10 ∧ 9 ≠ 12) ∧
    (Role.trunkBeer 2 ≠ .unused ∧ ∀ j : SenseInput, j ≠ 15 → (((trunk2 50 .cold).input j).role = .trunkBeer 2 ↔ some 3 = some j)) ∧
    (some 3 : Option SenseInput) ≠ some 15 ∧
    (Role.trunkGlycol 2 ≠ .unused ∧ (Role.trunkGlycol 2).trunk = some 2 ∧ ((trunk2 50 .cold).input 3).role.trunk = some 2 ∧
      ∀ j : SenseInput, j ≠ 3 → (((trunk2 50 .cold).input j).role = .trunkGlycol 2 ↔ none = some j)) := by decide +kernel

/-- R121 and R126: trunk 2 loses its beer probe to a glycol role that has not been read, and is degraded. -/
theorem test_channel_set_within_a_trunk : ((after (.channelSet 3 9 (-320) 1600) (trunk2 50 .cold)).zone 2).gate = .warn ∧
    ((after (.channelSet 3 9 (-320) 1600) (trunk2 50 .cold)).zone 2).source = .none := by decide +kernel

theorem witness_gate : ((trunk2 65 .cold).zone 2).warn ≤ ((trunk2 65 .cold).zone 2).stop ∧
    (trunk2 65 .cold).climate.reading (.trunkBeer 2) = some 65 ∧ ((trunk2 65 .cold).input 3).role = .trunkBeer 2 ∧
    (Role.trunkBeer 2).index = some 2 ∧ ((trunk2 65 .cold).role 2).failed = false ∧ ((trunk2 65 .cold).role 2).filtered = some 65 ∧
    ((trunk2 65 .cold).zone 2).gate = .cold ∧ ((trunk2 65 .cold).zone 2).warn < 65 ∧ (65 : Int) ≤ ((trunk2 65 .cold).zone 2).stop ∧
    State.reset.climate.reading (.trunkBeer 0) = none ∧ State.reset.climate.reading (.trunkGlycol 0) = none := by decide +kernel

/-- Trunk 2 with its beer probe after `n` faults in a run. -/
def faulty (n : Nat) : State :=
  (trunk2 50 .cold).setRole 2 { value := some 50, filtered := some 50, faultRun := n, failed := false }

theorem witness_conversions : (faulty 7).climate.scanner.running = true ∧ (faulty 7).climate.scanner.conversion = some ⟨3, 12⟩ ∧
    4095 < 2 ^ 12 ∧ ((faulty 7).input 3).role.index = some 2 ∧ ((faulty 7).role 2).faultRun = 7 ∧ ((faulty 8).role 2).faultRun = 8 ∧
    ((faulty 8).role 2).failed = false ∧ (faulty 7).climate.scanner.mask.getLsbD (3 : SenseInput).val = true ∧
    (∀ m : SenseInput, 3 < m ∨ m < 3 → (faulty 7).climate.scanner.mask.getLsbD m.val = false) ∧
    State.reset.climate.scanner.conversion = none := by decide +kernel

/-- A trunk index in range, an offset of 1 and of 0, and both stages with the bath read or not. -/
theorem witness_climate : (⟨5, 1601, -641, 0, 256, 17⟩ : TrunkClimateArgs).trunk = (5 : Trunk).val ∧ 1 ≤ 1 ∧
    State.reset.climate.window ≠ 0 ∧ (State.reset.setWindow 0).climate.window = 0 ∧ State.reset.climate.reading .bath = none ∧
    State.reset.climate.chiller.surge ≤ 32 ∧ State.reset.resetHeld = false := by decide +kernel

/-! Cleaning, timebase and valves -/

theorem witness_recipes : (⟨3, 1, 99, 201, 59, 301, 0, 20001, 0, 1601, 29⟩ : RecipeSetArgs).recipe = (3 : Fin 4).val ∧
    4 ≤ (⟨4, 1, 100, 100, 60, 100, 1, 0, 0, 0, 30⟩ : RecipeSetArgs).recipe ∧ look State.reset.cleaning.recipes 0 = none ∧
    look (after (.recipeSet ⟨0, 1, 100, 100, 60, 100, 1, 0, 0, 0, 30⟩) State.reset).cleaning.recipes 0 ≠ none ∧
    (∀ l : Line, (0x80#32 : LineSet).getLsbD l.val = true ↔ (0x81#32 : LineSet).getLsbD l.val = true ∧
      (∀ e ∈ (house .water .idle none).cleaning.queue, e.line ≠ l) ∧ ((house .water .idle none).line l).mode ≠ .cleaning ∧
      ((house .water .idle none).line l).mode ≠ .offline) ∧ (0x1#32 : LineSet) = 0x81#32 &&& ~~~0x80#32 := by decide +kernel

theorem witness_cleanAbort : (cleaning (group .purge 9)).resetHeld = false ∧
    (∀ l : Line, (0#32 : LineSet).getLsbD l.val = true ↔
      (0x80#32 : LineSet).getLsbD l.val = true ∧ ∃ e ∈ (cleaning (group .purge 9)).cleaning.queue, e.line = l) ∧
    (cleaning (group .purge 9)).cleaning.group = some (group .purge 9) ∧
    (∃ x ∈ (group .purge 9).lines, (0x80#32 : LineSet).getLsbD x.line.val = true) ∧
    (∀ x ∈ (group .purge 9).lines, (0x7F#32 : LineSet).getLsbD x.line.val = false) ∧
    ((group .purge 9).lines.map GroupLine.line).Nodup ∧ (group .soak 0).phase = .soak ∧ (group .verify 0).phase = .verify ∧
    (∃ x ∈ (group .soak 0).lines, x.result.takesPart = true) ∧ (group .purge 9).phase = .purge := by decide +kernel

theorem witness_halts : State.reset.cleaning.group = none ∧ (cleaning { group .purge 9 with lowPump := 5 }).cleaning.group =
      some { group .purge 9 with lowPump := 5 } ∧ (group .purge 9).phase ≠ .release ∧ (group .purge 9).lowPump < 5 ∧
    (group .take 0).phase.metered = false ∧ ((group .purge 9).lines.map GroupLine.line).Nodup ∧
    (cleaning (group .release 0)).cleaning.group = some (group .release 0) ∧ (group .release 0).phase = .release ∧
    (∀ l : Line, (0x80#32 : LineSet).getLsbD l.val = true ↔ ∃ x ∈ (group .release 0).lines, x.line = l) ∧
    (∀ l : Line, (0#32 : LineSet).getLsbD l.val = true ↔ ∃ e ∈ State.reset.cleaning.queue, e.line = l) := by decide +kernel

theorem witness_timeouts : (group .purge 9).recipe.timeout ≤ 30 ∧ 29 < (group .purge 9).recipe.timeout ∧
    (cleaning { group .caustic 9 with steps := 30 }).cleaning.group = some { group .caustic 9 with steps := 30 } ∧
    (cleaning { group .soak 0 with steps := 60 }).cleaning.group = some { group .soak 0 with steps := 60 } ∧
    (group .soak 0).recipe.soak ≤ 60 ∧ 59 < (group .soak 0).recipe.soak ∧ (∃ x ∈ (group .soak 0).lines, x.result.takesPart = true) ∧
    (∃ x ∈ (group .purge 0).lines, x.result.takesPart = true ∧ x.owed = 0) ∧
    (∀ x ∈ (group .purge 9).lines, x.result.takesPart = true → 0 < x.owed) ∧ ((group .purge 9).lines.map GroupLine.line).Nodup ∧
    (∀ p ∈ [Phase.purge, .caustic, .rinse], (cleaning { group p 0 with steps := 30 }).cleaning.group = some { group p 0 with steps := 30 }) ∧
    (cleaning (group .caustic 0)).climate.reading .solutionCond = none := by decide +kernel

/-- R150 and R154: a PURGE that times out with every line owing charges its loss and goes to RELEASE. -/
theorem test_purge_timeout : ((cleaning { group .purge 9 with steps := 30 }).runTimeout.line 7).totals.loss = 1000 ∧
    ((cleaning { group .purge 9 with steps := 30 }).runTimeout.cleaning.group).map Group.phase = some .release := by decide +kernel

/-- Lines 7 and 8 queued, line 8 untakeable, with recipe 0 valid. -/
def queued7 : State :=
  let s := (house .ready .idle (some .onTap)).setCleanQueue [⟨8, 0⟩, ⟨7, 0⟩]
  { s with cleaning := { s.cleaning with recipes := put s.cleaning.recipes 0 (some recipe) } }

theorem witness_groups : queued7.cleaning.group = none ∧ queued7.valves.fault = false ∧
    queued7.cleaning.queue = [⟨8, 0⟩] ++ ⟨7, 0⟩ :: [] ∧ (queued7.cleaning.queue.map CleanEntry.line).Nodup ∧
    (∀ x ∈ ([⟨8, 0⟩] : List CleanEntry), queued7.takeableEntry x = false) ∧ (queued7.pour 7).record = .idle ∧
    (queued7.line 7).mode = .ready ∧ look queued7.cleaning.recipes 0 = some recipe ∧ 1 ≤ queued7.cleaning.groupSize ∧
    queued7.onTap 7 = some .A ∧ queued7.keg 7 .A = some (keg7 .onTap) ∧
    (∀ e ∈ State.reset.cleaning.queue, State.reset.takeableEntry e = false) ∧
    (cleaning (group .release 0 .pass)).cleaning.group = some (group .release 0 .pass) ∧
    (∀ x ∈ (group .release 0 .pass).lines, x.draw = none) ∧ ((group .release 0 .pass).lines.map GroupLine.line).Nodup ∧
    (∀ x ∈ (group .release 0 .pass).lines, ((cleaning (group .release 0 .pass)).line x.line).mode = .cleaning) ∧
    (group .purge 0).phase ≠ .release := by decide +kernel

theorem witness_timebase : 15 < (16#8 : Byte).toNat ∧ (15#8 : Byte).toNat ≤ 15 ∧ 4 ≤ 4 ∧ (2 = max 2 (min 65535 0) ∧ 1 = max 1 (min (2 - 1) 0)) ∧
    State.reset.pending = [] ∧ (∀ c : Channel, (State.reset.channel c).counter + 1 < (State.reset.channel c).period ∧
      (State.reset.channel c).counter + 1 ≠ (State.reset.channel c).margin) := by decide

/-- A channel whose next millisecond gives its margin event, and one whose next gives its period event. -/
theorem witness_tick : (let s := (State.reset.setChannel 0 ⟨19, 20, 10, none⟩).setChannel 1 ⟨499, 1000, 500, none⟩
    s.pending = [] ∧ (s.channel 0).period ≤ (s.channel 0).counter + 1 ∧ (s.channel 1).counter + 1 < (s.channel 1).period ∧
    (s.channel 1).counter + 1 = (s.channel 1).margin ∧ (s.channel 2).counter + 1 ≠ (s.channel 2).margin ∧
    s.resetHeld = false) := by decide

theorem witness_applies : ((3 : Channel) = 0 ∨ (3 : Channel) = 3) ∧
    (true = true ↔ ∃ g : ValveGroup, (((3 : Channel) = 0 ∧ g.val < 16) ∨ ((3 : Channel) = 3 ∧ g = 17)) ∧
      ((State.reset.setValve 17 ⟨0x13#8, 0x13#8, 0#8, true⟩).valve g).turnOn = true) ∧ State.reset.resetHeld = false := by
  decide +kernel

theorem witness_steps : (cleaning (group .purge 9)).cleaning.group = some (group .purge 9) ∧
    (group .purge 9).steps + 1 < 4 ∧ (group .purge 9).lowPump < 5 ∧ (group .purge 9).steps + 1 < (group .purge 9).recipe.timeout ∧
    (group .purge 9).steps < 65535 ∧ ((group .purge 9).lines.map GroupLine.line).Nodup ∧
    (∃ x ∈ (group .purge 9).lines, x.owing = true ∧ (x.draw ≠ none ∨
      ∀ c ∈ ((cleaning (group .purge 9)).line x.line).cfg, ((cleaning (group .purge 9)).loop c.binding.loop).state ≠ .stopped)) ∧
    (∀ x ∈ (group .purge 9).lines, ((cleaning (group .purge 9)).line x.line).mode = .cleaning ∧
      ((cleaning (group .purge 9)).line x.line).cfg ≠ none) ∧
    (∀ g ∈ (cleaning (group .take 0)).cleaning.group, g.phase = .take ∨ g.phase = .release) := by decide +kernel

/-- Steps on which the pump fails, a run times out, a soak ends or goes on, and a VERIFY decides. -/
theorem witness_dueSteps : (cleaning { group .purge 9 with steps := 3, lowPump := 4 }).timebase.pump <
      (cleaning { group .purge 9 with steps := 3, lowPump := 4 }).cleaning.pumpMin ∧ 5 ≤ 4 + 1 ∧ ¬(min (3 + 1) 65535 < 4) ∧
    (cleaning { group .purge 9 with steps := 29 }).cleaning.group = some { group .purge 9 with steps := 29 } ∧
    (group .purge 9).recipe.timeout ≤ min (29 + 1) 65535 ∧ (group .soak 0).recipe.soak ≤ min (59 + 1) 65535 ∧
    min (58 + 1) 65535 < (group .soak 0).recipe.soak ∧ (group .soak 0).recipe.warm = true ∧
    (∃ x ∈ (group .verify 0).lines, x.result.takesPart = true) ∧ (group .verify 0).recipe.passes ≤ (group .verify 0).run ∧
    (cleaning (group .verify 0)).climate.reading .solutionCond = none := by decide +kernel

/-- R130, R137: a window 0 with one boost cycle left, before which both stages are counted and neither is wanted on. -/
theorem witness_windows : (after (.timebasePeriodEvent 1) (State.reset.setBoost (some ⟨16, 1⟩))).climate.window = 0 ∧
    (State.reset.setBoost (some ⟨16, 1⟩)).climate.boost = some ⟨16, 1⟩ ∧ State.reset.climate.boost = none ∧
    (after (.timebasePeriodEvent 1) (State.reset.setBoost (some ⟨16, 1⟩))).climate.boost = none ∧
    State.reset.climate.reading .bath = none ∧ State.reset.climate.chiller.surge = 0 ∧
    (State.reset.role 12).failed = false := by decide +kernel

theorem witness_shifts : State.reset.valves.shifting = some 0#144 ∧
    (0#144).getLsbD (8 * (17 : ValveGroup).val + (7 : Fin 8).val) ≠ (1#144 <<< 143).getLsbD (8 * (17 : ValveGroup).val + (7 : Fin 8).val) ∧
    (∀ i : Fin 143, (0#144).getLsbD i.val = (1#144 <<< 143 : BitVec 144).getLsbD i.val) ∧
    State.reset.cleaning.group = none ∧ (cleaning (group .purge 9)).valves.fault = false ∧
    (after (.chainShiftEnd 0#144) State.reset).valves.shifting = none ∧
    (after (.chainShiftEnd 1#144) State.reset).valves.fault = true ∧
    (∀ w ∈ [TakeWait.period, .nextShift, .thisShift],
      (cleaning { group .take 0 with takeWait := w }).cleaning.group = some { group .take 0 with takeWait := w } ∧
      (cleaning { group .take 0 with takeWait := w }).valves.shifting = some 0#144) ∧ (group .take 0).phase = .take ∧
    (∃ x ∈ (group .take 0).lines, x.result.takesPart = true) := by decide +kernel

/-! Invariants -/

/-- One line READY and pouring on its account. -/
def pouring7 : State := house .ready (.pouring (pour500 9) 3 0 0) (some .onTap) 532

theorem witness_accountsSound : pouring7.accountsSound := by decide +kernel
theorem witness_holdsMatch : pouring7.holdsMatch := by decide +kernel
theorem witness_kegsSound : pouring7.kegsSound := by decide +kernel
theorem witness_linesSound : pouring7.linesSound := by decide +kernel
theorem witness_tapsSound : pouring7.tapsSound := by decide +kernel
theorem witness_queuesSound : (waiting7 3 1).linesSound ∧ (waiting7 3 1).queuesSound ∧ (waiting7 3 1).clocksSound :=
  ⟨by decide +kernel, by decide +kernel, by decide +kernel⟩
theorem witness_valvesSound : pouring7.valvesSound := by decide +kernel
theorem witness_clocksSound : pouring7.clocksSound := by decide +kernel

theorem witness_step : ∃ t, step { pouring7 with pending := [.lineHold 7] } = .next t := ⟨_, rfl⟩

end Sys2Proof.Tests
end

section
/-! PROOF. The outbound command of a line (R63, R64): what each of its fields shows, and where its word carries them
(R109, R185). -/

namespace Sys2Proof.Outbound

open Sys2Proof Sys2Proof.Machine

/-! ### The lamp, row by row of R64 -/

theorem isClean_iff (r : PourRec) : r.isClean = true ↔ ∃ p, r.pour = some p ∧ p.kind = .clean := by
  simp [PourRec.isClean, Option.any_eq_true]

/-- Row 1. -/
theorem lampOf_of_clean {s : State} {l : Line} (h : (s.pour l).record.isClean = true) : s.lampOf l = .cleaning :=
  if_pos h

/-- Rows 2 and 3: a pour in flight that is no CLEAN draw shows its state. -/
theorem lampOf_of_pour {s : State} {l : Line} (hc : (s.pour l).record.isClean ≠ true)
    (hi : (s.pour l).record ≠ .idle) :
    s.lampOf l = if (s.pour l).record.code = 1 then .waiting else .pouring := by
  refine (if_neg hc).trans ?_
  cases h : (s.pour l).record with
  | idle => exact absurd h hi
  | waiting | pouring | tailing => rfl

/-- Rows 4 to 8: with no pour the shown refusal, the mode, the Cleaning Queue and the gate decide in turn. -/
theorem lampOf_of_idle {s : State} {l : Line} (h : (s.pour l).record = .idle) :
    s.lampOf l =
      if (s.pour l).shown ≠ none then .refused
      else if (s.line l).mode = .held then .held
      else if (s.line l).mode = .cleaning then .cleaning
      else if (s.line l).mode = .ready ∧ s.queued l = false ∧ s.lineGate l ≠ .hot then .ready
      else .notReady := by
  simp only [State.lampOf, h, PourRec.pour, Option.any_none, Bool.false_eq_true, if_false]
  cases (s.pour l).shown with
  | some r => simp
  | none =>
    cases (s.line l).mode with
    | ready => cases s.queued l <;> simp
    | offline | water | priming | dry | held | cleaning | foul => simp

/-- The lamp is the first row of R64 that applies. -/
theorem outbound_lamp (s : State) (l : Line) :
    (s.outbound l).lamp =
      if (∃ p, (s.pour l).record.pour = some p ∧ p.kind = .clean) then .cleaning
      else if (s.pour l).record.code = 2 ∨ (s.pour l).record.code = 3 then .pouring
      else if (s.pour l).record.code = 1 then .waiting
      else if (s.pour l).shown ≠ none then .refused
      else if (s.line l).mode = .held then .held
      else if (s.line l).mode = .cleaning then .cleaning
      else if (s.line l).mode = .ready ∧ s.queued l = false ∧ s.lineGate l ≠ .hot then .ready
      else .notReady := by
  change s.lampOf l = _
  by_cases hc : (s.pour l).record.isClean = true
  · rw [lampOf_of_clean hc, if_pos ((isClean_iff _).mp hc)]
  · rw [if_neg (mt (isClean_iff _).mpr hc)]
    cases h : (s.pour l).record with
    | idle => rw [lampOf_of_idle h]; rfl
    | waiting | pouring | tailing => rw [lampOf_of_pour hc (by simp [h]), h]; rfl

/-! ### The valve, the portion and the value (R63) -/

theorem outbound_valve (s : State) (l : Line) :
    (s.outbound l).valve = true ↔ ∃ p n bf bp, (s.pour l).record = .pouring p n bf bp := by
  cases h : (s.pour l).record with
  | idle | waiting | pouring | tailing => simp [State.outbound, h]

theorem outbound_portion_of_pour {s : State} {l : Line} {p : Pour} (h : (s.pour l).record.pour = some p) :
    (s.outbound l).portion = if p.kind = .clean then 0 else p.kind.code := by
  simp only [State.outbound, PourRec.portionField, h]

theorem outbound_portion_of_idle {s : State} {l : Line} (h : (s.pour l).record = .idle) :
    (s.outbound l).portion = 0 := by
  simp only [State.outbound, PourRec.portionField, PourRec.pour, h]

theorem outbound_value_of_refused {s : State} {l : Line} {r : RefusalReason} (h : (s.outbound l).lamp = .refused)
    (hr : (s.pour l).shown = some r) : (s.outbound l).value = r.code := by
  refine (if_pos h).trans ?_
  rw [hr]; rfl

theorem outbound_value_of_not_refused {s : State} {l : Line} (h : (s.outbound l).lamp ≠ .refused) :
    (s.outbound l).value = (s.pour l).record.progress :=
  if_neg h

/-! ### The word on the wire (R185) -/

theorem lampCode_lt (x : Lamp) : x.code < 8 := by cases x <;> decide

/-- The first payload byte of an outbound word: valve, lamp, portion and a 0 bit. -/
def controlByte (c : OutCommand) : Byte :=
  (BitVec.ofBool c.valve ++ BitVec.ofNat 3 c.lamp.code) ++ (BitVec.ofNat 3 c.portion ++ 0#1)

/-- The second payload byte: two 0 bits and the value. -/
def valueByte (c : OutCommand) : Byte := 0#2 ++ BitVec.ofNat 6 c.value

theorem word_eq (c : OutCommand) :
    c.word = (controlByte c ++ valueByte c) ++ checkByte (controlByte c) (valueByte c) := rfl

theorem word_extract_control (c : OutCommand) (start len : Nat) :
    c.word.extractLsb' (8 + (8 + start)) len = (controlByte c).extractLsb' start len := by
  rw [word_eq, BitVec.extractLsb'_append_eq_of_le (by omega), BitVec.extractLsb'_append_eq_of_le (by omega),
    Nat.add_sub_cancel_left, Nat.add_sub_cancel_left]

theorem word_getLsbD_control (c : OutCommand) (i : Nat) : c.word.getLsbD (8 + (8 + i)) = (controlByte c).getLsbD i := by
  simpa using congrArg (BitVec.getLsbD · 0) (word_extract_control c i 1)

theorem word_extract_value (c : OutCommand) {start len : Nat} (h : start + len ≤ 8) :
    c.word.extractLsb' (8 + start) len = (valueByte c).extractLsb' start len := by
  rw [word_eq, BitVec.extractLsb'_append_eq_of_le (by omega), Nat.add_sub_cancel_left,
    BitVec.extractLsb'_append_eq_of_add_le h]

theorem word_extract_check (c : OutCommand) :
    c.word.extractLsb' 0 8 = checkByte (controlByte c) (valueByte c) := by
  rw [word_eq, BitVec.extractLsb'_append_eq_of_add_le (by omega), BitVec.extractLsb'_eq_self]

theorem controlByte_valve (c : OutCommand) : (controlByte c).getLsbD 7 = c.valve := by
  rw [controlByte, BitVec.getLsbD_append, if_neg (by omega), BitVec.getLsbD_append, if_neg (by omega),
    BitVec.getLsbD_ofBool]
  rfl

theorem controlByte_lamp (c : OutCommand) : (controlByte c).extractLsb' 4 3 = BitVec.ofNat 3 c.lamp.code := by
  rw [controlByte, BitVec.extractLsb'_append_eq_of_le (by omega), BitVec.extractLsb'_append_eq_of_add_le (by omega),
    BitVec.extractLsb'_eq_self]

theorem controlByte_portion (c : OutCommand) : (controlByte c).extractLsb' 1 3 = BitVec.ofNat 3 c.portion := by
  rw [controlByte, BitVec.extractLsb'_append_eq_of_add_le (by omega), BitVec.extractLsb'_append_eq_of_le (by omega),
    BitVec.extractLsb'_eq_self]

theorem controlByte_last (c : OutCommand) : (controlByte c).getLsbD 0 = false := by
  rw [controlByte, BitVec.getLsbD_append, if_pos (by omega), BitVec.getLsbD_append, if_pos (by omega)]
  rfl

theorem valueByte_zeros (c : OutCommand) : (valueByte c).extractLsb' 6 2 = 0#2 := by
  rw [valueByte, BitVec.extractLsb'_append_eq_of_le (by omega), BitVec.extractLsb'_eq_self]

theorem valueByte_value (c : OutCommand) : (valueByte c).extractLsb' 0 6 = BitVec.ofNat 6 c.value := by
  rw [valueByte, BitVec.extractLsb'_append_eq_of_add_le (by omega), BitVec.extractLsb'_eq_self]

/-- The check byte of a word is formed from the two payload bytes that the word carries. -/
theorem word_check (c : OutCommand) :
    c.word.extractLsb' 0 8 = ~~~(c.word.extractLsb' 16 8 ^^^ c.word.extractLsb' 8 8) := by
  have hcontrol : c.word.extractLsb' 16 8 = controlByte c := (word_extract_control c 0 8).trans BitVec.extractLsb'_eq_self
  have hvalue : c.word.extractLsb' 8 8 = valueByte c :=
    (word_extract_value c (Nat.le_refl 8)).trans BitVec.extractLsb'_eq_self
  rw [word_extract_check, hcontrol, hvalue, checkByte]

/-- Settles O35: the lamp by the rows of R64, the other fields by the record's state, the word by its two payload bytes. -/
theorem outboundCommandShowsThePour : Obligations.OutboundCommandShowsThePour := by
  refine ⟨fun s l => ⟨outbound_valve s l, outbound_lamp s l, fun p hp => ?portion, outbound_portion_of_idle,
    fun h _ hr => outbound_value_of_refused h hr, fun h => ?progress⟩, fun c hportion hvalue => ⟨?_, ?_, ?_, ?_, ?_, ?_, ?_⟩⟩
  case portion =>
    rw [outbound_portion_of_pour hp]
    cases p.kind <;> rfl
  case progress =>
    rw [outbound_value_of_not_refused h]
    cases (s.pour l).record <;> rfl
  · exact (word_getLsbD_control c 7).trans (controlByte_valve c)
  · rw [word_extract_control c 4 3, controlByte_lamp, BitVec.toNat_ofNat, Nat.mod_eq_of_lt (lampCode_lt c.lamp)]
  · rw [word_extract_control c 1 3, controlByte_portion, BitVec.toNat_ofNat, Nat.mod_eq_of_lt hportion]
  · exact (word_getLsbD_control c 0).trans (controlByte_last c)
  · exact (word_extract_value c (by omega)).trans (valueByte_zeros c)
  · rw [word_extract_value c (start := 0) (by omega), valueByte_value, BitVec.toNat_ofNat, Nat.mod_eq_of_lt hvalue]
  · exact word_check c

end Sys2Proof.Outbound
end

section
/-! PROOF. The hold operations of the Stand Account Table on the record that holds an ID (R97, R98, R99, R102). -/

namespace Sys2Proof.Machine

/-! ### The end of a hold (R102) -/

/-- The record after the end of one of its holds: CLOSED where it was CLOSING and no hold is left. -/
def Account.ended (a : Account) : Account :=
  { a with state := if a.state = .closing ∧ a.holds = 0 then .closed else a.state }

/-- The end of a hold writes the ended record, and raises ACCOUNT_CLOSED with the last hold of a CLOSING one. -/
theorem State.endHold_eq (s : State) (i : AccountIx) (a : Account) :
    s.endHold i a = { s with
      accounts := put s.accounts i (some a.ended)
      link := if a.state = .closing ∧ a.holds = 0 then (s.raiseAccount i).link else s.link } := by
  rcases s.endHold_cases i a with ⟨hc, hh, he⟩ | ⟨hn, he⟩
  · simp only [he, Account.ended, hc, hh, and_self, if_true]; rfl
  · simp only [he, Account.ended, if_neg hn]; rfl

/-- ACCOUNT_CLOSED gains the index of the record and no other. -/
theorem State.raiseAccount_getLsbD (s : State) (i j : AccountIx) :
    (s.raiseAccount i).link.attention.accountClosed.getLsbD j.val =
      (s.link.attention.accountClosed.getLsbD j.val || j == i) := by
  have hj : (member i.val : BitVec 48).getLsbD j.val = (j == i) := by
    simp only [getLsbD_member, decide_eq_true j.isLt, Bool.true_and, beq_eq_decide, Fin.ext_iff]
  exact (BitVec.getLsbD_or ..).trans (congrArg _ hj)

/-! ### The operations, where the search finds a record -/

section
variable {s : State} {id : Nat} {i : AccountIx} {a : Account} (hf : s.findAccount id = some (i, a))
include hf

theorem State.placeHold_not_open (h : Nat) (ho : a.state ≠ .opened) : s.placeHold id h = .noAccount := by
  simp [State.placeHold, hf, ho]

theorem State.placeHold_short (h : Nat) (ho : a.state = .opened) (hc : a.available + a.float < h) :
    s.placeHold id h = .noCredit := by
  simp [State.placeHold, hf, ho, hc]

theorem State.placeHold_covered (h : Nat) (ho : a.state = .opened) (hc : (h : Int) ≤ a.available + a.float) :
    s.placeHold id h = .placed (s.setAccount i (some (a.place h))) := by
  simp [State.placeHold, hf, ho, Int.not_lt.mpr hc]

theorem State.releaseHold_found (h : Nat) : s.releaseHold id h = s.endHold i (a.release h) := by
  simp [State.releaseHold, hf]

theorem State.settleHold_found (h b : Nat) : s.settleHold id h b = s.endHold i (a.settle h b) := by
  simp [State.settleHold, hf]

end

/-- Settles O33: the search of the table finds the one record with the ID, and each operation acts on it by its state. -/
theorem holdsArePlacedReleasedAndSettled : Obligations.HoldsArePlacedReleasedAndSettled := by
  intro s id h b
  refine ⟨fun hnone => ?_, fun i a ha hid hu => ?_⟩
  · simp [State.placeHold, State.findAccount_eq_none.mpr hnone]
  · have hf := State.findAccount_of_unique ha hid hu
    refine ⟨State.placeHold_not_open hf h, State.placeHold_short hf h, State.placeHold_covered hf h, ?_, ?_,
      s.raiseAccount_getLsbD i⟩
    · rw [State.releaseHold_found hf, State.endHold_eq]; rfl
    · rw [State.settleHold_found hf, State.endHold_eq]; rfl

end Sys2Proof.Machine
end

section
/-! PROOF. What each operation of the blocks leaves of the account table and of the holds of the pours (R100): all but the
settlement, the withdrawal and the admission of a pour leave both. -/

namespace Sys2Proof.Machine

/-! ### The ledger -/

/-- What R100 speaks of: the account table, and the account and the hold of each line's pour. -/
structure Ledger where
  accounts : Vector (Option Account) 48
  held : Line → Option (Nat × Nat)

def State.ledger (s : State) : Ledger := ⟨s.accounts, fun l => (s.pour l).record.heldOn⟩

/-- The ledger once the hold of a line's pour is gone from the pour. -/
def Ledger.clear (b : Ledger) (l : Line) : Ledger := { b with held := Function.update b.held l none }

theorem Ledger.clear_of_none {b : Ledger} {l : Line} (h : b.held l = none) : b.clear l = b := by
  simp [Ledger.clear, ← h]

theorem State.ledger_held (s : State) (l : Line) : s.ledger.held l = (s.pour l).record.heldOn := rfl

/-- The ledger is a function of the account table and the pour records. -/
theorem State.ledger_congr {s t : State} (ha : t.accounts = s.accounts)
    (hp : t.pourControl.pours = s.pourControl.pours) : t.ledger = s.ledger := by
  simp only [State.ledger, State.pour, ha, hp]

/-- A list of operations that each leave the ledger leaves it. -/
theorem State.foldl_ledger {α : Type} {f : State → α → State} (h : ∀ s x, (f s x).ledger = s.ledger) (xs : List α)
    (s : State) : (xs.foldl f s).ledger = s.ledger := by
  induction xs generalizing s with
  | nil => rfl
  | cons x xs ih => rw [List.foldl_cons, ih, h]

/-! ### The hold of a pour -/

/-- The account that a pour holds on, with its hold. -/
def Pour.heldOn (p : Pour) : Option (Nat × Nat) := p.holdAccount.map fun id => (id, p.hold)

section
variable (p : Pour)

@[simp] theorem PourRec.heldOn_idle : PourRec.idle.heldOn = none := rfl
@[simp] theorem PourRec.heldOn_waiting (n : Nat) : (PourRec.waiting p n).heldOn = p.heldOn := rfl
@[simp] theorem PourRec.heldOn_pouring (n bf bp : Nat) : (PourRec.pouring p n bf bp).heldOn = p.heldOn := rfl
@[simp] theorem PourRec.heldOn_tailing (n v : Nat) (r : CloseReason) (q k : Nat) :
    (PourRec.tailing p n v r q k).heldOn = p.heldOn := rfl
@[simp] theorem PourRec.heldOn_enterTailing (n : Nat) (r : CloseReason) :
    (PourRec.enterTailing p n r).heldOn = p.heldOn := rfl

@[simp] theorem Pour.accumulate_heldOn (d k : Nat) : (p.accumulate d k).heldOn = p.heldOn := by
  unfold Pour.accumulate
  split <;> rfl

theorem Pour.heldOn_of_none {p : Pour} (h : p.holdAccount = none) : p.heldOn = none := by simp [Pour.heldOn, h]

theorem Pour.heldOn_of_some {p : Pour} {id : Nat} (h : p.holdAccount = some id) : p.heldOn = some (id, p.hold) := by
  simp [Pour.heldOn, h]

end

/-- A line whose pour is IDLE holds on no account. -/
theorem State.heldOn_of_pourIdle {s : State} {l : Line} (h : s.pourIdle l = true) : (s.pour l).record.heldOn = none := by
  rw [beq_iff_eq.mp h, PourRec.heldOn_idle]

/-! ### The writes of one record -/

section
variable (s : State)

theorem State.setPour_ledger (l : Line) (x : PourSlot) :
    (s.setPour l x).ledger = { s.ledger with held := Function.update s.ledger.held l x.record.heldOn } := by
  simp only [State.ledger, Ledger.mk.injEq]
  refine ⟨rfl, funext fun m => ?_⟩
  by_cases hm : m = l
  · subst hm; simp
  · simp [State.pour_setPour_ne _ _ _ _ hm, hm]

/-- A written pour record that holds what the one before it held leaves the ledger. -/
theorem State.setPour_ledger_of_heldOn {l : Line} {x : PourSlot} (h : x.record.heldOn = (s.pour l).record.heldOn) :
    (s.setPour l x).ledger = s.ledger := by
  rw [s.setPour_ledger, h, ← s.ledger_held, Function.update_eq_self]

theorem State.setRecord_ledger (l : Line) (r : PourRec) :
    (s.setRecord l r).ledger = { s.ledger with held := Function.update s.ledger.held l r.heldOn } := s.setPour_ledger ..

theorem State.setRecord_ledger_of_heldOn {l : Line} {r : PourRec} (h : r.heldOn = (s.pour l).record.heldOn) :
    (s.setRecord l r).ledger = s.ledger := s.setPour_ledger_of_heldOn h

@[simp] theorem State.setShown_ledger (l : Line) (r : Option RefusalReason) : (s.setShown l r).ledger = s.ledger :=
  s.setPour_ledger_of_heldOn rfl

@[simp] theorem State.setLine_ledger (l : Line) (r : LineRec) : (s.setLine l r).ledger = s.ledger := rfl
@[simp] theorem State.setTrunk_ledger (t : Trunk) (d : TrunkDraw) : (s.setTrunk t d).ledger = s.ledger := rfl
@[simp] theorem State.setKeg_ledger (l : Line) (p : Position) (r : Option KegRec) : (s.setKeg l p r).ledger = s.ledger := rfl
@[simp] theorem State.setLastEnrol_ledger (l : Line) (o : Option LastEnrol) : (s.setLastEnrol l o).ledger = s.ledger := rfl
@[simp] theorem State.setReadQueue_ledger (q : List ReadEntry) : (s.setReadQueue q).ledger = s.ledger := rfl
@[simp] theorem State.setBus_ledger (b : Option Transaction) : (s.setBus b).ledger = s.ledger := rfl
@[simp] theorem State.setLoop_ledger (i : LoopId) (r : LoopRec) : (s.setLoop i r).ledger = s.ledger :=
  State.ledger_congr (by simp) (by simp)
@[simp] theorem State.setBound_ledger (b : Binding) (l : Option Line) : (s.setBound b l).ledger = s.ledger :=
  State.ledger_congr (by simp) (by simp)
@[simp] theorem State.setRecv_ledger (b : Binding) (r : Option RecvState) : (s.setRecv b r).ledger = s.ledger :=
  State.ledger_congr (by simp) (by simp)
@[simp] theorem State.setRole_ledger (r : Fin 15) (x : RoleRec) : (s.setRole r x).ledger = s.ledger := rfl
@[simp] theorem State.setInput_ledger (i : SenseInput) (x : InputChannel) : (s.setInput i x).ledger = s.ledger := rfl
@[simp] theorem State.setZone_ledger (t : Trunk) (z : Zone) : (s.setZone t z).ledger = s.ledger := rfl
@[simp] theorem State.setScanner_ledger (x : Scanner) : (s.setScanner x).ledger = s.ledger := rfl
@[simp] theorem State.setBoost_ledger (x : Option Boost) : (s.setBoost x).ledger = s.ledger := rfl
@[simp] theorem State.setWindow_ledger (x : Nat) : (s.setWindow x).ledger = s.ledger := rfl
@[simp] theorem State.setGroup_ledger (g : Option Group) : (s.setGroup g).ledger = s.ledger := rfl
@[simp] theorem State.setCleanQueue_ledger (q : List CleanEntry) : (s.setCleanQueue q).ledger = s.ledger := rfl
@[simp] theorem State.setValve_ledger (g : ValveGroup) (x : GroupPatterns) : (s.setValve g x).ledger = s.ledger := rfl
@[simp] theorem State.setChannel_ledger (c : Channel) (x : TimeChannel) : (s.setChannel c x).ledger = s.ledger := rfl
@[simp] theorem State.storeK_ledger (l : Line) (k : Nat) : (s.storeK l k).ledger = s.ledger := rfl
@[simp] theorem State.setLink_ledger (x : Link) : (s.setLink x).ledger = s.ledger := rfl
@[simp] theorem State.setLinkState_ledger (x : LinkState) : (s.setLinkState x).ledger = s.ledger := rfl
@[simp] theorem State.sendMiso_ledger (bs : List Byte) (n : Nat) : (s.sendMiso bs n).ledger = s.ledger := rfl
@[simp] theorem State.reply_ledger (st : Status) (bs : List Byte) : (s.reply st bs).ledger = s.ledger := rfl
@[simp] theorem State.ok_ledger (bs : List Byte) : (s.ok bs).ledger = s.ledger := rfl
@[simp] theorem State.refuse_ledger (st : Status) : (s.refuse st).ledger = s.ledger := rfl
@[simp] theorem State.raise_ledger (k : LineKind) (l : Line) : (s.raise k l).ledger = s.ledger := rfl
@[simp] theorem State.raiseSet_ledger (k : LineKind) (ls : LineSet) : (s.raiseSet k ls).ledger = s.ledger := rfl
@[simp] theorem State.raiseProbe_ledger (i : SenseInput) : (s.raiseProbe i).ledger = s.ledger := rfl
@[simp] theorem State.raiseTrunk_ledger (t : Trunk) : (s.raiseTrunk t).ledger = s.ledger := rfl
@[simp] theorem State.raiseChain_ledger : s.raiseChain.ledger = s.ledger := rfl
@[simp] theorem State.raisePump_ledger : s.raisePump.ledger = s.ledger := rfl
@[simp] theorem State.ask_ledger (g : ValveGroup) (b : Fin 8) (on : Bool) : (s.ask g b on).ledger = s.ledger := rfl
@[simp] theorem State.askProduct_ledger (l : Line) (on : Bool) : (s.askProduct l on).ledger = s.ledger := rfl
@[simp] theorem State.askCleaning_ledger (l : Line) (on : Bool) : (s.askCleaning l on).ledger = s.ledger := rfl
@[simp] theorem State.askSelector_ledger (l : Line) (p : Position) (on : Bool) :
    (s.askSelector l p on).ledger = s.ledger := rfl

@[simp] theorem State.askShift_ledger : s.askShift.ledger = s.ledger := by
  rcases s.askShift_cases with ⟨-, h⟩ | ⟨-, h⟩ <;> rw [h] <;> rfl

end

/-! ### Lines and kegs -/

section
variable (s : State) (l : Line)

@[simp] theorem State.askValves_ledger : (s.askValves l).ledger = s.ledger := by
  unfold State.askValves
  split <;> simp

@[simp] theorem State.changeLine_ledger (r : LineRec) : (s.changeLine l r).ledger = s.ledger := by
  simp [State.changeLine]

@[simp] theorem State.setKegState_ledger (p : Position) (k : KegState) : (s.setKegState l p k).ledger = s.ledger := by
  unfold State.setKegState
  split <;> simp

theorem State.putOnTap_ledger {s t : State} {l : Line} {p : Position} (h : s.putOnTap l p = some t) :
    t.ledger = s.ledger := by
  obtain ⟨-, rfl⟩ := by simpa [State.putOnTap] using h
  simp

@[simp] theorem State.kegToStandby_ledger : (s.kegToStandby l).ledger = s.ledger := by
  unfold State.kegToStandby
  split <;> simp

theorem State.startPriming_ledger {s t : State} {l : Line} (h : s.startPriming l = .ok t) : t.ledger = s.ledger := by
  unfold State.startPriming at h
  split at h
  · cases h
  · split at h
    · cases h
    · split at h
      · cases h
      · rename_i u hu
        cases h
        rw [State.changeLine_ledger, State.putOnTap_ledger hu]

@[simp] theorem State.dryToReady_ledger (p : Position) : (s.dryToReady l p).ledger = s.ledger := by
  unfold State.dryToReady
  split
  · rfl
  · rename_i u hu
    simp [State.putOnTap_ledger hu]

@[simp] theorem State.settlePrime_ledger (vml loss : Nat) : (s.settlePrime l vml loss).ledger = s.ledger := by
  simp only [State.settlePrime]
  split
  · split <;> simp
  · rfl

@[simp] theorem State.kegReport_ledger (q : Option Position) : (s.kegReport l q).ledger = s.ledger := by
  cases q with
  | some p => simp only [State.kegReport]; split <;> simp
  | none =>
    simp only [State.kegReport]
    split
    · simp
    · split <;> simp

@[simp] theorem State.kegVerified_ledger (p : Position) : (s.kegVerified l p).ledger = s.ledger := by
  unfold State.kegVerified
  split <;> simp

theorem State.takeLine_ledger {s t : State} {l : Line} (h : s.takeLine l = some t) : t.ledger = s.ledger := by
  simp only [State.takeLine, Option.ite_none_right_eq_some, Option.some.injEq] at h
  obtain ⟨-, rfl⟩ := h
  rw [State.changeLine_ledger]
  split <;> simp

@[simp] theorem State.releaseLine_ledger (r : CleanResult) : (s.releaseLine l r).ledger = s.ledger := by
  simp only [State.releaseLine]
  split <;> simp

@[simp] theorem State.bind_ledger (b : Binding) : (s.bind b l).ledger = s.ledger := by simp [State.bind]
@[simp] theorem State.unbind_ledger (b : Binding) : (s.unbind b).ledger = s.ledger := by simp [State.unbind]
@[simp] theorem State.addPour_ledger (account vml billed unbilled : Nat) (warm : Bool) :
    (s.addPour l account vml billed unbilled warm).ledger = s.ledger := rfl
@[simp] theorem State.addPurgeLoss_ledger (fill : Nat) : (s.addPurgeLoss l fill).ledger = s.ledger := rfl
@[simp] theorem State.countSaturated_ledger : (s.countSaturated l).ledger = s.ledger := rfl

@[simp] theorem State.onKeg_ledger (p : Position) (f : KegRec → KegRec) : (s.onKeg l p f).ledger = s.ledger := by
  unfold State.onKeg
  split <;> simp

@[simp] theorem State.kegSettled_ledger (a : Amounts) (reason : CloseReason) (vml : Nat) :
    (s.kegSettled l a reason vml).ledger = s.ledger := by
  unfold State.kegSettled
  split <;> simp

@[simp] theorem State.changeover_ledger (p : Position) : (s.changeover l p).ledger = s.ledger := by
  unfold State.changeover
  split <;> simp

@[simp] theorem State.spend_ledger (p : Position) : (s.spend l p).ledger = s.ledger := by simp [State.spend]

@[simp] theorem State.lowFlowReport_ledger : (s.lowFlowReport l).ledger = s.ledger := by
  unfold State.lowFlowReport
  split
  · rfl
  · split
    · rfl
    · dsimp only
      split <;> simp

@[simp] theorem State.purgeLoss_ledger (fill : Nat) (q : Option Position) : (s.purgeLoss l fill q).ledger = s.ledger := by
  unfold State.purgeLoss
  split
  · rfl
  · split
    · split <;> simp
    · rfl

end

/-! ### The Coupler Read Queue -/

section
variable (s : State)

@[simp] theorem State.startRead_ledger : s.startRead.ledger = s.ledger := by
  unfold State.startRead
  split <;> simp

@[simp] theorem State.enqueueRead_ledger (e : ReadEntry) : (s.enqueueRead e).ledger = s.ledger := by
  simp [State.enqueueRead]

@[simp] theorem State.withdrawRead_ledger (l : Line) (p : Position) : (s.withdrawRead l p).ledger = s.ledger := by
  unfold State.withdrawRead
  split
  · split <;> simp
  · simp

@[simp] theorem State.applyEnrol_ledger (e : ReadEntry) (o : TagOutcome) (r : Option Tag) :
    (s.applyEnrol e o r).ledger = s.ledger := by
  unfold State.applyEnrol
  split
  · rfl
  · dsimp only
    split <;> simp

@[simp] theorem State.applyCheck_ledger (e : ReadEntry) (o : TagOutcome) : (s.applyCheck e o).ledger = s.ledger := by
  simp [State.applyCheck]

@[simp] theorem State.endRead_ledger (e : ReadEntry) (rest : List ReadEntry) (d : Bool) (o : TagOutcome)
    (r : Option Tag) : (s.endRead e rest d o r).ledger = s.ledger := by
  simp only [State.endRead, State.startRead_ledger]
  split
  · simp
  · split <;> simp

@[simp] theorem State.copyRead_ledger (status : Byte) (block : BitVec 128) :
    (s.copyRead status block).ledger = s.ledger := by
  unfold State.copyRead
  split
  · split <;> simp
  · rfl

@[simp] theorem State.retireKeg_ledger (l : Line) (p : Position) (k : KegRec) :
    (s.retireKeg l p k).ledger = s.ledger := by
  simp only [State.retireKeg]
  split <;> simp

end

/-! ### Cellar Climate -/

section
variable (s : State)

@[simp] theorem State.restartRole_ledger (r : Role) : (s.restartRole r).ledger = s.ledger := by
  unfold State.restartRole
  split <;> simp

@[simp] theorem State.evalGate_ledger (t : Trunk) : (s.evalGate t).ledger = s.ledger := by
  simp only [State.evalGate]
  split <;> simp

@[simp] theorem State.evalRoleGate_ledger (r : Role) : (s.evalRoleGate r).ledger = s.ledger := by
  unfold State.evalRoleGate
  split <;> simp

@[simp] theorem State.evalGates_ledger : s.evalGates.ledger = s.ledger :=
  State.foldl_ledger State.evalGate_ledger _ _

@[simp] theorem State.failProbe_ledger (i : SenseInput) : (s.failProbe i).ledger = s.ledger := by
  unfold State.failProbe
  split
  · rfl
  · split <;> simp

@[simp] theorem State.judgeCode_ledger (i : SenseInput) (bits x : Nat) : (s.judgeCode i bits x).ledger = s.ledger := by
  unfold State.judgeCode
  split
  · rfl
  · split <;> simp [State.probeFault, State.goodSample]

@[simp] theorem State.convert_ledger (code : Nat) : (s.convert code).ledger = s.ledger := by
  unfold State.convert
  split <;> simp

@[simp] theorem State.dropRole_ledger (j : Option SenseInput) : (s.dropRole j).ledger = s.ledger := by
  unfold State.dropRole
  split <;> simp

@[simp] theorem State.assign_ledger (i : SenseInput) (r : Role) (base : Int) (span : Nat) :
    (s.assign i r base span).ledger = s.ledger := by
  obtain ⟨u, rfl, ⟨-, h⟩ | ⟨-, h⟩⟩ := s.assign_cases i r base span <;> simp [h]

@[simp] theorem State.fixDuty_ledger (t : Trunk) : (s.fixDuty t).ledger = s.ledger := rfl

@[simp] theorem State.fixDuties_ledger : s.fixDuties.ledger = s.ledger := State.foldl_ledger State.fixDuty_ledger _ _

@[simp] theorem State.endBoost_ledger : s.endBoost.ledger = s.ledger := by
  unfold State.endBoost
  split
  · split <;> simp
  · rfl

@[simp] theorem State.countBoost_ledger : s.countBoost.ledger = s.ledger := by
  unfold State.countBoost
  split <;> simp

@[simp] theorem State.setOverride_ledger (t : Trunk) : (s.setOverride t).ledger = s.ledger := rfl
@[simp] theorem State.clearOverride_ledger (t : Trunk) : (s.clearOverride t).ledger = s.ledger := rfl
@[simp] theorem State.decideStage1_ledger : s.decideStage1.ledger = s.ledger := rfl
@[simp] theorem State.decideStage2_ledger (n : Nat) : (s.decideStage2 n).ledger = s.ledger := rfl
@[simp] theorem State.countStages_ledger : s.countStages.ledger = s.ledger := rfl
@[simp] theorem State.writeClimate_ledger : s.writeClimate.ledger = s.ledger := rfl

@[simp] theorem State.windowDuty_ledger : s.windowDuty.ledger = s.ledger := by
  unfold State.windowDuty
  split <;> simp

@[simp] theorem State.takeWindow_ledger (n : Nat) : (s.takeWindow n).ledger = s.ledger := by
  simp [State.takeWindow]

end

/-! ### The close of a pour, CLEAN draws and promotion -/

section
variable (s : State)

@[simp] theorem State.closePour_ledger (l : Line) (reason : CloseReason) : (s.closePour l reason).ledger = s.ledger := by
  unfold State.closePour
  split
  · rename_i p n _ _ h
    exact s.setRecord_ledger_of_heldOn (by simp [h])
  · rfl

/-- A CLEAN draw is granted on an IDLE pour, and holds on no account. -/
theorem State.issueDraw_ledger {s t : State} {l : Line} {volume : Nat} (h : s.issueDraw l volume = .ok t) :
    t.ledger = s.ledger := by
  unfold State.issueDraw at h
  split at h
  · cases h
  · rename_i hr
    have hi : s.pourIdle l = true := by
      by_contra hn
      rw [Bool.not_eq_true] at hn
      by_cases hm : (s.line l).mode = .cleaning <;> simp [State.drawRefusal, hm, hn] at hr
    cases h
    exact s.setRecord_ledger_of_heldOn (by rw [State.heldOn_of_pourIdle hi]; rfl)

@[simp] theorem State.abortDraw_ledger (l : Line) : (s.abortDraw l).ledger = s.ledger := by
  unfold State.abortDraw
  split
  · rename_i p n _ _ h
    split
    · exact s.setRecord_ledger_of_heldOn (by simp [h])
    · rfl
  · rfl

@[simp] theorem State.leaveQueue_ledger (l : Line) : (s.leaveQueue l).ledger = s.ledger := by
  unfold State.leaveQueue
  split <;> simp

@[simp] theorem State.promoteHead_ledger (t : Trunk) : (s.promoteHead t).ledger = s.ledger := by
  unfold State.promoteHead
  split
  · rfl
  · rename_i l rest _
    dsimp only
    split
    · rename_i p n h
      rw [State.setRecord_ledger_of_heldOn, State.setTrunk_ledger]
      exact (congrArg PourRec.heldOn h).symm
    · simp

theorem State.promoteUpTo_ledger (n : Nat) (t : Trunk) : (State.promoteUpTo n s t).ledger = s.ledger := by
  induction n generalizing s with
  | zero => rfl
  | succ n ih =>
    unfold State.promoteUpTo
    split
    · rw [ih, State.promoteHead_ledger]
    · rfl

@[simp] theorem State.promote_ledger (t : Trunk) : (s.promote t).ledger = s.ledger := s.promoteUpTo_ledger ..

@[simp] theorem State.promoteAll_ledger : s.promoteAll.ledger = s.ledger := State.foldl_ledger State.promote_ledger _ _

end

/-! ### The Cleaning Sequencer -/

section
variable (s : State) (g : Group)

@[simp] theorem State.askSkid_ledger (pump water caustic heater lamp : Bool) :
    (s.askSkid pump water caustic heater lamp).ledger = s.ledger := by
  cases water <;> rfl

@[simp] theorem State.askPhase_ledger (p : Phase) : (s.askPhase p).ledger = s.ledger := by
  cases p <;> exact s.askSkid_ledger ..

@[simp] theorem State.endHeating_ledger : (s.endHeating g).ledger = s.ledger := by
  simp only [State.endHeating]
  split
  · split
    · rw [State.foldl_ledger State.clearOverride_ledger, State.ask_ledger]
    · simp
  · rfl

@[simp] theorem State.reportLine_ledger (x : GroupLine) : (s.reportLine x).ledger = s.ledger := by
  unfold State.reportLine
  split <;> simp

@[simp] theorem State.reportLoss_ledger : (s.reportLoss g).ledger = s.ledger := by
  unfold State.reportLoss
  split
  · rfl
  · exact State.foldl_ledger State.reportLine_ledger _ _

@[simp] theorem State.abortDraws_ledger (xs : List GroupLine) : (s.abortDraws xs).ledger = s.ledger :=
  State.foldl_ledger (fun s (x : GroupLine) => s.abortDraw_ledger x.line) _ _

@[simp] theorem State.enterRelease_ledger : (s.enterRelease g).ledger = s.ledger := by simp [State.enterRelease]

@[simp] theorem State.abandon_ledger : (s.abandon g).ledger = s.ledger := by simp [State.abandon]

@[simp] theorem State.startRun_ledger (p : Phase) (n : Nat) : (s.startRun g p n).ledger = s.ledger := by
  unfold State.startRun
  split <;> simp

@[simp] theorem State.enterVerify_ledger : (s.enterVerify g).ledger = s.ledger := by simp [State.enterVerify]

@[simp] theorem State.decideHeater_ledger : (s.decideHeater g).ledger = s.ledger := by
  simp only [State.decideHeater]
  split <;> simp

@[simp] theorem State.enterSoak_ledger : (s.enterSoak g).ledger = s.ledger := by
  simp only [State.enterSoak, State.decideHeater_ledger]
  split
  · rw [State.foldl_ledger State.setOverride_ledger, State.askPhase_ledger]
  · simp

@[simp] theorem State.endCaustic_ledger : (s.endCaustic g).ledger = s.ledger := by
  unfold State.endCaustic
  split
  · simp
  · split <;> simp

@[simp] theorem State.endRun_ledger : (s.endRun g).ledger = s.ledger := by
  unfold State.endRun
  split
  · split <;> simp
  · simp

@[simp] theorem State.settleRun_ledger : (s.settleRun g).ledger = s.ledger := by
  unfold State.settleRun
  split <;> simp

@[simp] theorem State.releaseGroup_ledger : (s.releaseGroup g).ledger = s.ledger := by
  simp only [State.releaseGroup, State.setGroup_ledger]
  split <;> simp [State.foldl_ledger fun s (x : GroupLine) => s.releaseLine_ledger x.line x.result.toClean]

@[simp] theorem State.considerRelease_ledger : s.considerRelease.ledger = s.ledger := by
  obtain ⟨g, -, -, -, h⟩ | h := s.considerRelease_cases <;> simp [h]

@[simp] theorem State.drawSettled_ledger (l : Line) (vml : Nat) : (s.drawSettled l vml).ledger = s.ledger := by
  unfold State.drawSettled
  split <;> simp

@[simp] theorem State.haltGroup_ledger : (s.haltGroup g).ledger = s.ledger := by
  simp only [State.haltGroup]
  split <;> simp

@[simp] theorem State.pumpFailed_ledger : s.pumpFailed.ledger = s.ledger := by
  unfold State.pumpFailed
  split
  · split <;> simp
  · rfl

@[simp] theorem State.runTimeout_ledger : s.runTimeout.ledger = s.ledger := by
  unfold State.runTimeout
  split
  · split <;> simp
  · rfl

theorem State.askDraws_ledger (p : Phase) (n : Nat) (xs : List GroupLine) :
    (State.askDraws p n s xs).1.ledger = s.ledger := by
  induction xs generalizing s with
  | nil => rfl
  | cons x xs ih =>
    unfold State.askDraws
    split
    · split
      · rename_i u hu
        exact (ih u).trans (State.issueDraw_ledger hu)
      · exact ih s
      · exact ih s
    · exact ih s

@[simp] theorem State.stepDraws_ledger : (s.stepDraws g).ledger = s.ledger := by
  simp [State.stepDraws, State.askDraws_ledger]

@[simp] theorem State.meteredStep_ledger (n : Nat) : (s.meteredStep g n).ledger = s.ledger := by
  simp only [State.meteredStep]
  split
  · simp
  · split <;> simp

@[simp] theorem State.finishSoak_ledger : s.finishSoak.ledger = s.ledger := by
  unfold State.finishSoak
  split
  · split <;> simp
  · rfl

@[simp] theorem State.soakStep_ledger (n : Nat) : (s.soakStep g n).ledger = s.ledger := by
  simp only [State.soakStep]
  split <;> simp

@[simp] theorem State.verifyStep_ledger (n : Nat) : (s.verifyStep g n).ledger = s.ledger := by
  simp only [State.verifyStep]
  split
  · simp
  · split <;> simp

@[simp] theorem State.cleanStep_ledger (n : Nat) : (s.cleanStep n).ledger = s.ledger := by
  unfold State.cleanStep
  split
  · rfl
  · split <;> simp

@[simp] theorem State.endTake_ledger : (s.endTake g).ledger = s.ledger := s.startRun_ledger ..

theorem State.abortGroup_ledger {s t : State} {g : Group} (h : s.abortGroup g = some t) : t.ledger = s.ledger := by
  unfold State.abortGroup at h
  split at h <;> cases h <;> simp

@[simp] theorem State.loopStopReport_ledger (ls : List Line) : (s.loopStopReport ls).ledger = s.ledger := by
  simp only [State.loopStopReport]
  split
  · rfl
  · split <;> simp

theorem State.takeLines_ledger (ls : List Line) : (State.takeLines s ls).1.ledger = s.ledger := by
  induction ls generalizing s with
  | nil => rfl
  | cons l ls ih =>
    unfold State.takeLines
    split
    · exact ih s
    · rename_i u hu
      exact (ih _).trans ((u.setCleanQueue_ledger _).trans (State.takeLine_ledger hu))

@[simp] theorem State.formGroup_ledger : s.formGroup.ledger = s.ledger := by
  unfold State.formGroup
  split
  · rfl
  · split
    · rfl
    · dsimp only
      split
      · rfl
      · rename_i u xs _ hu
        rw [State.setGroup_ledger, State.askPhase_ledger, ← s.takeLines_ledger, hu]

@[simp] theorem State.considerFormation_ledger : s.considerFormation.ledger = s.ledger := by
  unfold State.considerFormation
  split
  · rfl
  · split <;> simp

@[simp] theorem State.follow_ledger : s.follow.ledger = s.ledger := by simp [State.follow]

end

/-! ### The Valve Output Unit and the Cellar Timebase -/

section
variable (s : State)

@[simp] theorem State.onGroups_ledger (gs : List ValveGroup) (f : GroupPatterns → GroupPatterns) :
    (s.onGroups gs f).ledger = s.ledger :=
  State.foldl_ledger (fun s g => s.setValve_ledger g (f (s.valve g))) _ _

@[simp] theorem State.applyPhase1_ledger (c : Channel) : (s.applyPhase1 c).ledger = s.ledger := by
  simp [State.applyPhase1]

@[simp] theorem State.applyPhase2_ledger (c : Channel) : (s.applyPhase2 c).ledger = s.ledger := by
  unfold State.applyPhase2
  split <;> simp

@[simp] theorem State.applyDirect_ledger : s.applyDirect.ledger = s.ledger := by simp [State.applyDirect]

@[simp] theorem State.moveTake_ledger (f : TakeWait → TakeWait) : (s.moveTake f).ledger = s.ledger := by
  unfold State.moveTake
  split
  · split <;> simp
  · rfl

@[simp] theorem State.reportShift_ledger : s.reportShift.ledger = s.ledger := by
  unfold State.reportShift
  split
  · split
    · split
      · simp
      · split <;> simp
    · rfl
  · rfl

@[simp] theorem State.faultHalt_ledger : s.faultHalt.ledger = s.ledger := by
  unfold State.faultHalt
  split <;> simp

@[simp] theorem State.compareEcho_ledger (sent echo : Image) : (s.compareEcho sent echo).ledger = s.ledger := by
  unfold State.compareEcho
  split
  · rfl
  · split
    · rfl
    · rw [State.faultHalt_ledger, State.raiseChain_ledger]; rfl

@[simp] theorem State.startShift_ledger : s.startShift.ledger = s.ledger := by
  unfold State.startShift
  split <;> rfl

@[simp] theorem State.endShift_ledger (echo : Image) : (s.endShift echo).ledger = s.ledger := by
  unfold State.endShift
  split
  · rfl
  · rename_i sent _
    simp only [State.startShift_ledger, State.reportShift_ledger]
    exact s.compareEcho_ledger sent echo

@[simp] theorem State.latchPump_ledger : s.latchPump.ledger = s.ledger := rfl
@[simp] theorem State.countPump_ledger : s.countPump.ledger = s.ledger := rfl
@[simp] theorem State.clearFault_ledger : s.clearFault.ledger = s.ledger := rfl

@[simp] theorem State.periodEvent_ledger (c : Channel) : (s.periodEvent c).ledger = s.ledger := by
  fin_cases c <;> simp [State.periodEvent, State.periodUsers]

@[simp] theorem State.marginEvent_ledger (c : Channel) : (s.marginEvent c).ledger = s.ledger := by
  simp only [State.marginEvent, State.marginUsers]
  split
  · split <;> simp
  · split
    · simp
    · split <;> simp

@[simp] theorem State.tickChannel_ledger (c : Channel) : (s.tickChannel c).ledger = s.ledger := by
  simp only [State.tickChannel]
  split
  · simp
  · split <;> simp

@[simp] theorem State.tick_ledger : s.tick.ledger = s.ledger := by
  unfold State.tick
  split
  · rfl
  · rw [State.follow_ledger, State.foldl_ledger State.tickChannel_ledger]

@[simp] theorem State.restartChannel_ledger (mask : Byte) (c : Channel) : (State.restartChannel mask s c).ledger = s.ledger := by
  unfold State.restartChannel
  split <;> simp

end

end Sys2Proof.Machine
end

section
/-! PROOF. Held and the hold count of each account are those of the pours that charge it (R100): what each way of moving a hold
does to the sums over the pours, and that every operation on a pour moves both sides together. -/

namespace Sys2Proof.Machine

/-! ### Sums over a table that changes in one place -/

theorem sum_indices_add {n : Nat} {f g : Fin n → Nat} (l : Fin n) (h : ∀ m, m ≠ l → f m = g m) :
    ((indices n).map f).sum + g l = ((indices n).map g).sum + f l := by
  have split (k : Fin n → Nat) : ((indices n).map k).sum = k l + ∑ m ∈ Finset.univ.erase l, k m := by
    rw [Finset.add_sum_erase _ _ (Finset.mem_univ l)]
    exact (Fin.sum_univ_def k).symm
  have others : ∑ m ∈ Finset.univ.erase l, f m = ∑ m ∈ Finset.univ.erase l, g m :=
    Finset.sum_congr rfl fun m hm => h m (Finset.ne_of_mem_erase hm)
  rw [split f, split g, others]
  omega

theorem countP_eq_sum_toNat {α : Type} (p : α → Bool) (xs : List α) :
    xs.countP p = (xs.map fun x => (p x).toNat).sum := by
  induction xs with
  | nil => rfl
  | cons x xs ih =>
    rw [List.countP_cons, ih, List.map_cons, List.sum_cons]
    cases p x <;> simp [Nat.add_comm]

theorem countP_indices_add {n : Nat} {p q : Fin n → Bool} (l : Fin n) (h : ∀ m, m ≠ l → p m = q m) :
    (indices n).countP p + (q l).toNat = (indices n).countP q + (p l).toNat := by
  rw [countP_eq_sum_toNat, countP_eq_sum_toNat]
  exact sum_indices_add (f := fun m => (p m).toNat) (g := fun m => (q m).toNat) l fun m hm => congrArg _ (h m hm)

/-! ### What one pour holds on an account -/

theorem State.holdOn_of_held {s : State} {l : Line} {id h : Nat} (hl : s.ledger.held l = some (id, h)) :
    s.holdOn id l = h ∧ s.holdsOn id l = true := by
  rw [State.ledger_held] at hl
  simp [State.holdOn, State.holdsOn, hl]

theorem State.holdOn_of_not_held {s : State} {l : Line} {id : Nat} (hl : ∀ x ∈ s.ledger.held l, x.1 ≠ id) :
    s.holdOn id l = 0 ∧ s.holdsOn id l = false := by
  simp only [State.ledger_held] at hl
  unfold State.holdOn State.holdsOn
  cases h : (s.pour l).record.heldOn with
  | none => simp
  | some x => simp [hl x h]

theorem State.holdOn_congr {s t : State} {l : Line} (h : t.ledger.held l = s.ledger.held l) (id : Nat) :
    t.holdOn id l = s.holdOn id l ∧ t.holdsOn id l = s.holdsOn id l := by
  simp only [State.ledger_held] at h
  simp only [State.holdOn, State.holdsOn, h, and_self]

/-- The sums over the pours for an account, where the pour of one line alone has changed. -/
theorem State.holdOn_sums {s t : State} {l : Line} (h : ∀ m, m ≠ l → t.ledger.held m = s.ledger.held m) (id : Nat) :
    ((indices 32).map (t.holdOn id)).sum + s.holdOn id l = ((indices 32).map (s.holdOn id)).sum + t.holdOn id l ∧
    (indices 32).countP (t.holdsOn id) + (s.holdsOn id l).toNat =
      (indices 32).countP (s.holdsOn id) + (t.holdsOn id l).toNat :=
  ⟨sum_indices_add l fun m hm => (State.holdOn_congr (h m hm) id).1,
    countP_indices_add l fun m hm => (State.holdOn_congr (h m hm) id).2⟩

/-! ### The relation under changes of the ledger -/

/-- The relation speaks of the ledger alone. -/
theorem State.holdsMatch_congr {s t : State} (h : t.ledger = s.ledger) (hs : s.holdsMatch) : t.holdsMatch := by
  have haccount : t.account = s.account := congrArg (fun b i => look (Ledger.accounts b) i) h
  have hheld (l : Line) : (t.pour l).record.heldOn = (s.pour l).record.heldOn := congrArg (fun b => Ledger.held b l) h
  have hon (id : Nat) : t.holdOn id = s.holdOn id ∧ t.holdsOn id = s.holdsOn id :=
    ⟨funext fun l => (State.holdOn_congr (hheld l) id).1, funext fun l => (State.holdOn_congr (hheld l) id).2⟩
  simpa only [State.holdsMatch, haccount, hheld, hon] using hs

/-- Operations that each keep the relation keep it one after another. -/
theorem State.foldl_holdsMatch {α : Type} {f : State → α → State} (h : ∀ s x, s.holdsMatch → (f s x).holdsMatch)
    (xs : List α) {s : State} (hs : s.holdsMatch) : (xs.foldl f s).holdsMatch := by
  induction xs generalizing s with
  | nil => exact hs
  | cons x xs ih => exact ih (h s x hs)

section
variable {s t : State} {i : AccountIx} {a b : Account}

theorem State.account_of_put {x : Option Account} (ht : t.accounts = put s.accounts i x) (j : AccountIx) :
    t.account j = if j = i then x else s.account j := by
  rw [State.account, ht, look_put]; rfl

/-- A record is rewritten under its ID while pours that hold on it alone change: it is enough that the new record agrees
with the new pours. -/
theorem State.holdsMatch_of_record (hs : s.holdsMatch) (ha : s.account i = some a) (hid : b.id = a.id)
    (ht : t.accounts = put s.accounts i (some b))
    (hrest : ∀ l, t.ledger.held l = s.ledger.held l ∨
      (∀ x ∈ s.ledger.held l, x.1 = a.id) ∧ ∀ x ∈ t.ledger.held l, x.1 = a.id)
    (hheld : b.held = (((indices 32).map (t.holdOn a.id)).sum : Nat))
    (hholds : b.holds = (indices 32).countP (t.holdsOn a.id)) (hclosed : b.state = .closed → b.holds = 0) :
    t.holdsMatch := by
  obtain ⟨hunique, hmatch, hexists⟩ := hs
  have haccount := State.account_of_put ht
  have hbefore : ∀ j, ∀ c ∈ t.account j, ∃ d ∈ s.account j, d.id = c.id := by
    intro j c hc
    rw [haccount j] at hc
    split at hc
    · subst j; cases hc; exact ⟨a, ha, hid.symm⟩
    · exact ⟨c, hc, rfl⟩
  refine ⟨fun j k c hc d hd hcd => ?_, fun j c hc => ?_, fun l x hx => ?_⟩
  · obtain ⟨c', hc', hc⟩ := hbefore j c hc
    obtain ⟨d', hd', hd⟩ := hbefore k d hd
    exact hunique j k c' hc' d' hd' (by rw [hc, hd, hcd])
  · rw [haccount j] at hc
    split at hc
    · cases hc
      rw [hid]
      exact ⟨hheld, hholds, hclosed⟩
    · rename_i hji
      have hne : c.id ≠ a.id := fun e => hji (hunique j i c hc a ha e)
      have hother (l : Line) : t.holdOn c.id l = s.holdOn c.id l ∧ t.holdsOn c.id l = s.holdsOn c.id l := by
        rcases hrest l with h | ⟨hb, ht'⟩
        · exact State.holdOn_congr h c.id
        · obtain ⟨h1, h2⟩ := State.holdOn_of_not_held fun x hx => (hb x hx).trans_ne hne.symm
          obtain ⟨h3, h4⟩ := State.holdOn_of_not_held fun x hx => (ht' x hx).trans_ne hne.symm
          exact ⟨h3.trans h1.symm, h4.trans h2.symm⟩
      rw [funext fun l => (hother l).1, funext fun l => (hother l).2]
      exact hmatch j c hc
  · have hafter : ∃ j, ∃ c ∈ s.account j, c.id = x.1 := by
      rcases hrest l with h | ⟨-, ht'⟩
      · exact hexists l x (h.symm.trans hx)
      · exact ⟨i, a, ha, (ht' x hx).symm⟩
    obtain ⟨j, c, hc, hcx⟩ := hafter
    by_cases hj : j = i
    · subst j
      obtain rfl : a = c := Option.some.inj (ha.symm.trans hc)
      exact ⟨i, b, by simp [haccount], hid.trans hcx⟩
    · exact ⟨j, c, by simpa [haccount, hj] using hc, hcx⟩

/-- A record keeps its ID, its holds and what is held, and the pours do not change. -/
theorem State.holdsMatch_setAccount (hs : s.holdsMatch) (ha : s.account i = some a) (hid : b.id = a.id)
    (hheld : b.held = a.held) (hholds : b.holds = a.holds) (hclosed : b.state = .closed → b.holds = 0) :
    (s.setAccount i (some b)).holdsMatch := by
  obtain ⟨ha', hc', -⟩ := hs.2.1 i a ha
  exact State.holdsMatch_of_record hs ha hid rfl (fun l => .inl rfl) (hheld.trans ha') (hholds.trans hc') hclosed

/-- A record without holds is removed. -/
theorem State.holdsMatch_removeAccount (hs : s.holdsMatch) (ha : s.account i = some a) (h0 : a.holds = 0) :
    (s.setAccount i none).holdsMatch := by
  obtain ⟨hunique, hmatch, hexists⟩ := hs
  have hbefore : ∀ j, ∀ c ∈ (s.setAccount i none).account j, c ∈ s.account j := by
    intro j c hc
    rw [State.account_of_put rfl j] at hc
    split at hc
    · cases hc
    · exact hc
  refine ⟨fun j k c hc d hd => hunique j k c (hbefore j c hc) d (hbefore k d hd), fun j c hc => hmatch j c (hbefore j c hc),
    fun l x hx => ?_⟩
  obtain ⟨j, c, hc, hcx⟩ := hexists l x hx
  by_cases hj : j = i
  · subst j
    obtain rfl : a = c := Option.some.inj (ha.symm.trans hc)
    have hnone : s.holdsOn a.id l = false := by
      simpa using (List.countP_eq_zero.mp ((hmatch i a ha).2.1.symm.trans h0)) l (mem_indices l)
    have hl : s.ledger.held l = some (a.id, x.2) := by rw [hcx]; exact hx
    simp [(State.holdOn_of_held hl).2] at hnone
  · exact ⟨j, c, by simpa [State.account_setAccount_ne _ _ _ _ hj] using hc, hcx⟩

/-- A record without holds is opened under an ID that no record holds. -/
theorem State.holdsMatch_openAccount (hs : s.holdsMatch) (hnew : ∀ j c, s.account j = some c → c.id ≠ b.id)
    (hi : s.account i = none) (hheld : b.held = 0) (hholds : b.holds = 0) : (s.setAccount i (some b)).holdsMatch := by
  obtain ⟨hunique, hmatch, hexists⟩ := hs
  have haccount := State.account_of_put (s := s) (t := s.setAccount i (some b)) (i := i) rfl
  have hno (l : Line) : s.holdOn b.id l = 0 ∧ s.holdsOn b.id l = false := by
    refine State.holdOn_of_not_held fun x hx => ?_
    obtain ⟨j, c, hc, hcx⟩ := hexists l x hx
    exact hcx ▸ hnew j c hc
  refine ⟨fun j k c hc d hd hcd => ?_, fun j c hc => ?_, fun l x hx => ?_⟩
  · rw [haccount] at hc hd
    split at hc <;> split at hd
    · rename_i hj hk; exact hj.trans hk.symm
    · cases hc; exact absurd hcd.symm (hnew k d hd)
    · cases hd; exact absurd hcd (hnew j c hc)
    · exact hunique j k c hc d hd hcd
  · rw [haccount] at hc
    split at hc
    · cases hc
      refine ⟨?_, ?_, fun _ => hholds⟩
      · rw [hheld, show (s.setAccount i (some b)).holdOn b.id = s.holdOn b.id from rfl, funext fun l => (hno l).1]; simp
      · rw [hholds, show (s.setAccount i (some b)).holdsOn b.id = s.holdsOn b.id from rfl, funext fun l => (hno l).2]; simp
    · exact hmatch j c hc
  · obtain ⟨j, c, hc, hcx⟩ := hexists l x hx
    have hj : j ≠ i := by rintro rfl; rw [hi] at hc; cases hc
    exact ⟨j, c, by simpa [State.account_setAccount_ne _ _ _ _ hj] using hc, hcx⟩

/-- A part with no accounts and no pours. -/
theorem State.holdsMatch_of_blank (ha : s.accounts = Vector.replicate 48 none) (hp : s.pourControl = PourControl.reset) :
    s.holdsMatch := by
  have haccount (j : AccountIx) : s.account j = none := by rw [State.account, ha, look_replicate]
  have hheld (l : Line) : (s.pour l).record.heldOn = none := by
    simp [State.pour, hp, PourControl.reset, PourSlot.reset, look_replicate]
  exact ⟨fun j k c hc => by simp [haccount] at hc, fun j c hc => by simp [haccount] at hc,
    fun l x hx => by simp [hheld] at hx⟩

end

/-! ### A hold moves (R97, R98, R99) -/

section
variable {s t : State} {l : Line} {id h : Nat} {i : AccountIx} {a b : Account}

/-- The search finds the account of a pour that holds. -/
theorem State.findAccount_of_held (hs : s.holdsMatch) (hl : s.ledger.held l = some (id, h)) :
    ∃ i a, s.findAccount id = some (i, a) := by
  obtain ⟨hunique, -, hexists⟩ := hs
  obtain ⟨i, a, ha, hid⟩ := hexists l (id, h) hl
  exact ⟨i, a, State.findAccount_of_unique ha hid fun j c hc hcid => hunique j i c hc a ha (hcid.trans hid.symm)⟩

/-- A hold is placed on an OPEN record together with the record of its pour. -/
theorem State.holdsMatch_place (hs : s.holdsMatch) (hf : s.findAccount id = some (i, a)) (ho : a.state = .opened)
    (hl : s.ledger.held l = none)
    (ht : t.ledger = ⟨put s.accounts i (some (a.place h)), Function.update s.ledger.held l (some (id, h))⟩) :
    t.holdsMatch := by
  obtain ⟨ha, rfl⟩ := State.findAccount_spec hf
  have hother (m : Line) (hm : m ≠ l) : t.ledger.held m = s.ledger.held m := by rw [ht]; exact Function.update_of_ne hm ..
  have hlt : t.ledger.held l = some (a.id, h) := by rw [ht]; exact Function.update_self ..
  obtain ⟨hamount, hcount⟩ := State.holdOn_sums hother a.id
  obtain ⟨h0, hc0⟩ := State.holdOn_of_not_held (s := s) (l := l) (id := a.id) (by simp [hl])
  obtain ⟨h1, hc1⟩ := State.holdOn_of_held hlt
  obtain ⟨hheld, hholds, -⟩ := hs.2.1 i a ha
  rw [h0, h1] at hamount
  rw [hc0, hc1] at hcount
  refine State.holdsMatch_of_record (b := a.place h) hs ha rfl (congrArg Ledger.accounts ht) (fun m => ?_) ?_ ?_ ?_
  · by_cases hm : m = l
    · subst hm; exact .inr ⟨by simp [hl], by simp [hlt]⟩
    · exact .inl (hother m hm)
  · change a.held + h = _
    omega
  · change a.holds + 1 = _
    simp only [Bool.toNat_false, Bool.toNat_true] at hcount
    omega
  · intro hc
    exact absurd (ho.symm.trans hc) (by decide)

/-- A hold ends, released or settled, together with the record of its pour. -/
theorem State.holdsMatch_endHold (hs : s.holdsMatch) (hl : s.ledger.held l = some (id, h))
    (hf : s.findAccount id = some (i, a)) (hb : b.id = a.id ∧ b.held = a.held - h ∧ b.holds = a.holds - 1)
    (hstate : b.state = a.state) (ht : t.ledger = (s.endHold i b).ledger.clear l) : t.holdsMatch := by
  obtain ⟨ha, rfl⟩ := State.findAccount_spec hf
  obtain ⟨hbid, hbheld, hbholds⟩ := hb
  rw [State.endHold_eq] at ht
  have hother (m : Line) (hm : m ≠ l) : t.ledger.held m = s.ledger.held m := by rw [ht]; exact Function.update_of_ne hm ..
  have hlt : t.ledger.held l = none := by rw [ht]; exact Function.update_self ..
  obtain ⟨hamount, hcount⟩ := State.holdOn_sums hother a.id
  obtain ⟨h0, hc0⟩ := State.holdOn_of_not_held (s := t) (l := l) (id := a.id) (by simp [hlt])
  obtain ⟨h1, hc1⟩ := State.holdOn_of_held hl
  obtain ⟨hheld, hholds, hclosed⟩ := hs.2.1 i a ha
  rw [h0, h1] at hamount
  rw [hc0, hc1] at hcount
  simp only [Bool.toNat_false, Bool.toNat_true] at hcount
  refine State.holdsMatch_of_record (b := b.ended) hs ha hbid (congrArg Ledger.accounts ht) (fun m => ?_) ?_ ?_ ?_
  · by_cases hm : m = l
    · subst hm; exact .inr ⟨by simp [hl], by simp [hlt]⟩
    · exact .inl (hother m hm)
  · change b.held = _
    omega
  · change b.holds = _
    omega
  · intro hc
    change b.holds = 0
    simp only [Account.ended] at hc
    split at hc
    · rename_i h; exact h.2
    · rw [hbholds, hclosed (hstate ▸ hc)]

end

/-! ### Settlement and withdrawal (R50, R58) -/

section
variable {s : State} {l : Line} {p : Pour}

/-- A pour holds nothing, or its hold stands on a record that the search finds. -/
theorem State.held_cases (hs : s.holdsMatch) (hl : s.ledger.held l = p.heldOn) :
    (p.holdAccount = none ∧ s.ledger.held l = none) ∨
    ∃ id i a, p.holdAccount = some id ∧ s.ledger.held l = some (id, p.hold) ∧ s.findAccount id = some (i, a) := by
  cases hp : p.holdAccount with
  | none => exact .inl ⟨rfl, hl.trans (Pour.heldOn_of_none hp)⟩
  | some id =>
    have hheld := hl.trans (Pour.heldOn_of_some hp)
    obtain ⟨i, a, hf⟩ := State.findAccount_of_held hs hheld
    exact .inr ⟨id, i, a, rfl, hheld, hf⟩

/-- The hold of a pour is released and the pour leaves the ledger. -/
theorem State.holdsMatch_releasePour {t : State} (hs : s.holdsMatch) (hl : s.ledger.held l = p.heldOn)
    (ht : t.ledger = (s.releasePour p).ledger.clear l) : t.holdsMatch := by
  obtain ⟨hp, hheld⟩ | ⟨id, i, a, hp, hheld, hf⟩ := State.held_cases hs hl
  · simp only [State.releasePour, hp] at ht
    exact State.holdsMatch_congr (ht.trans (Ledger.clear_of_none hheld)) hs
  · simp only [State.releasePour, hp, State.releaseHold_found hf] at ht
    exact State.holdsMatch_endHold (b := a.release p.hold) hs hheld hf ⟨rfl, rfl, rfl⟩ rfl ht

/-- The hold of a pour is settled and the pour leaves the ledger. -/
theorem State.holdsMatch_settleAccount {t : State} {vml : Nat} (hs : s.holdsMatch) (hl : s.ledger.held l = p.heldOn)
    (ht : t.ledger = (s.settleAccount p vml).ledger.clear l) : t.holdsMatch := by
  obtain ⟨hp, hheld⟩ | ⟨id, i, a, hp, hheld, hf⟩ := State.held_cases hs hl
  · simp only [State.settleAccount, hp] at ht
    exact State.holdsMatch_congr (ht.trans (Ledger.clear_of_none hheld)) hs
  · simp only [State.settleAccount, hp, State.settleHold_found hf] at ht
    exact State.holdsMatch_endHold (b := a.settle p.hold (p.billed vml)) hs hheld hf ⟨rfl, rfl, rfl⟩ rfl ht

@[simp] theorem State.teach_ledger (s : State) (l : Line) (p : Pour) (r : CloseReason) (e : Ending) (m : Nat) :
    (s.teach l p r e m).ledger = s.ledger := by
  unfold State.teach
  split
  · split <;> simp
  · rfl

@[simp] theorem State.settleShares_ledger (s : State) (l : Line) (p : Pour) (r : CloseReason) (vml : Nat) :
    (s.settleShares l p r vml).ledger = s.ledger := by
  unfold State.settleShares
  split <;> simp

@[simp] theorem State.settleLowFlow_ledger (s : State) (l : Line) (p : Pour) (r : CloseReason) :
    (s.settleLowFlow l p r).ledger = s.ledger := by
  unfold State.settleLowFlow
  split <;> simp

@[simp] theorem State.settleClean_ledger (s : State) (l : Line) (p : Pour) (vml : Nat) :
    (s.settleClean l p vml).ledger = s.ledger := by
  unfold State.settleClean
  split <;> simp

theorem State.writeSettlement_ledger (s : State) (l : Line) (x : Settlement) :
    (s.writeSettlement l x).ledger = s.ledger.clear l := s.setPour_ledger ..

theorem State.settle_holdsMatch {vClose : Nat} {r : CloseReason} {e : Ending} (hs : s.holdsMatch)
    (hl : s.ledger.held l = p.heldOn) : (s.settle l p vClose r e).holdsMatch := by
  have hteach := s.teach_ledger l p r e (p.v - vClose)
  refine State.holdsMatch_settleAccount (vml := deliveredML p.v) (State.holdsMatch_congr hteach hs)
    ((congrArg (Ledger.held · l) hteach).trans hl) ?_
  simp only [State.settle, State.writeSettlement_ledger, State.settleClean_ledger, State.settleLowFlow_ledger,
    State.settleShares_ledger]

theorem State.withdraw_holdsMatch (hs : s.holdsMatch) : (s.withdraw l).holdsMatch := by
  unfold State.withdraw
  split
  · rename_i p n h
    have hq := s.leaveQueue_ledger l
    exact State.holdsMatch_releasePour (State.holdsMatch_congr hq hs)
      ((congrArg (Ledger.held · l) hq).trans (congrArg PourRec.heldOn h)) (State.setRecord_ledger ..)
  · exact hs

theorem State.endAtOnce_holdsMatch {r : CloseReason} (hs : s.holdsMatch) : (s.endAtOnce l r).holdsMatch := by
  unfold State.endAtOnce
  split
  · exact hs
  · exact State.withdraw_holdsMatch hs
  · rename_i h; exact State.settle_holdsMatch hs (congrArg PourRec.heldOn h)
  · rename_i h; exact State.settle_holdsMatch hs (congrArg PourRec.heldOn h)

theorem State.quietSettle_holdsMatch (hs : s.holdsMatch) : (s.quietSettle l).holdsMatch := by
  unfold State.quietSettle
  split
  · rename_i h
    split
    · exact State.settle_holdsMatch hs (congrArg PourRec.heldOn h)
    · exact hs
  · exact hs

theorem State.tailWindow_holdsMatch (hs : s.holdsMatch) : (s.tailWindow l).holdsMatch := by
  unfold State.tailWindow
  split
  · rename_i h
    split
    · exact State.settle_holdsMatch hs (congrArg PourRec.heldOn h)
    · exact hs
  · exact hs

theorem State.waitTimeout_holdsMatch (hs : s.holdsMatch) : (s.waitTimeout l).holdsMatch := by
  unfold State.waitTimeout
  split
  · split
    · exact State.holdsMatch_congr (State.setShown_ledger ..) (State.withdraw_holdsMatch hs)
    · exact hs
  · exact hs

end

/-! ### Admission (R45, R46) -/

section
variable {s : State} {l : Line}

/-- The trunk draw gives the line the record of its pour, or releases the pour's hold where the trunk is full. -/
theorem State.admitDraw_ledger (s : State) (l : Line) (t : Trunk) (p : Pour) :
    (s.admitDraw l t p).ledger = { s.ledger with held := Function.update s.ledger.held l p.heldOn } ∨
    (s.admitDraw l t p).ledger = (s.releasePour p).ledger := by
  unfold State.admitDraw
  split
  · exact .inl (by rw [State.setShown_ledger, State.setRecord_ledger]; rfl)
  · split
    · exact .inl (by rw [State.setShown_ledger, State.setRecord_ledger, State.setTrunk_ledger]; rfl)
    · exact .inr (State.setShown_ledger ..)

/-- A hold that is placed and released leaves its record as it was. -/
theorem Account.release_place {a : Account} (ho : a.state = .opened) (h : Nat) : ((a.place h).release h).ended = a := by
  cases a
  cases ho
  simp [Account.ended, Account.release, Account.place]

/-- A pour that is admitted with the hold placed for it, or refused by the trunk draw with the hold released. -/
theorem State.admitDraw_holdsMatch {i : AccountIx} {a : Account} {id : Nat} {t : Trunk} {p : Pour} (hs : s.holdsMatch)
    (hp : p.holdAccount = some id) (hf : s.findAccount id = some (i, a)) (ho : a.state = .opened)
    (hl : s.ledger.held l = none) : ((s.setAccount i (some (a.place p.hold))).admitDraw l t p).holdsMatch := by
  obtain ⟨ha, hid⟩ := State.findAccount_spec hf
  rcases State.admitDraw_ledger (s.setAccount i (some (a.place p.hold))) l t p with h | h
  · exact State.holdsMatch_place hs hf ho hl (h.trans (by rw [Pour.heldOn_of_some hp]; rfl))
  · have hfound : (s.setAccount i (some (a.place p.hold))).findAccount id = some (i, a.place p.hold) := by
      refine State.findAccount_of_unique (State.account_setAccount_same ..) hid fun j c hc hcid => ?_
      by_contra hj
      rw [State.account_setAccount_ne _ _ _ _ hj] at hc
      exact hj (hs.1 j i c hc a ha (hcid.trans hid.symm))
    refine State.holdsMatch_congr (h.trans ?_) hs
    have hput : put s.accounts i (some a) = s.accounts := by
      rw [← ha]; exact put_look ..
    simp only [State.releasePour, hp, State.releaseHold_found hfound, State.endHold_eq, Account.release_place ho,
      State.setAccount_accounts, put_put, hput]
    rfl

theorem State.judgeRequest_holdsMatch {c : LineCfg} {kind : PourKind} (hs : s.holdsMatch) :
    (s.judgeRequest l c kind).holdsMatch := by
  have hshown (r : Option RefusalReason) : (s.setShown l r).holdsMatch := State.holdsMatch_congr (s.setShown_ledger l r) hs
  unfold State.judgeRequest
  split
  · exact hshown _
  split
  · exact hs
  rename_i hidle
  have hl : s.ledger.held l = none := State.heldOn_of_pourIdle (by simpa using hidle)
  split
  · exact hshown _
  dsimp only
  split
  · rename_i hp
    refine State.holdsMatch_congr ?_ hs
    rcases State.admitDraw_ledger s l c.trunk (s.requestPour l c kind (s.lineGate l == .warn)) with h | h
    · rw [h, Pour.heldOn_of_none hp, ← hl, Function.update_eq_self]
    · rw [h, State.releasePour, hp]
  · rename_i id hp
    obtain ⟨h, -⟩ | ⟨i, a, hf, ho, ⟨-, h⟩ | ⟨-, h⟩⟩ := s.placeHold_cases id (s.requestPour l c kind (s.lineGate l == .warn)).hold
    · simp only [h]; exact hshown _
    · simp only [h]; exact hshown _
    · simp only [h]; exact State.admitDraw_holdsMatch hs hp hf ho hl

theorem State.request_holdsMatch {code : BitVec 3} (hs : s.holdsMatch) : (s.request l code).holdsMatch := by
  unfold State.request
  split
  · exact hs
  split
  · exact State.holdsMatch_congr (State.setShown_ledger ..) hs
  · exact State.judgeRequest_holdsMatch hs
  split
  · exact State.holdsMatch_congr (State.setShown_ledger ..) hs
  · rename_i u hu
    exact State.judgeRequest_holdsMatch (State.holdsMatch_congr (State.startPriming_ledger hu) hs)

end

/-! ### Frames (R37, R52, R56) -/

section
variable {s : State} {l : Line}

@[simp] theorem State.overtime_ledger (s : State) (l : Line) : (s.overtime l).ledger = s.ledger := by
  unfold State.overtime
  split
  · split <;> simp
  · rfl

@[simp] theorem State.judgeBlock_ledger (s : State) (l : Line) : (s.judgeBlock l).ledger = s.ledger := by
  unfold State.judgeBlock
  split
  · rename_i h
    split
    · rfl
    split
    · simp
    · exact s.setRecord_ledger_of_heldOn (congrArg PourRec.heldOn h).symm
  · rfl

@[simp] theorem State.countIfSaturated_ledger (s : State) (l : Line) (a : Arrival) :
    (s.countIfSaturated l a).ledger = s.ledger := by
  unfold State.countIfSaturated
  split <;> simp

@[simp] theorem State.pouringFrame_ledger (s : State) (l : Line) (d : Nat) : (s.pouringFrame l d).ledger = s.ledger := by
  unfold State.pouringFrame
  split
  · rename_i p n bf bp h
    have hcount : (s.setRecord l (.pouring p (satCount 65535 n) bf bp)).ledger = s.ledger :=
      s.setRecord_ledger_of_heldOn (congrArg PourRec.heldOn h).symm
    dsimp only
    split
    · exact hcount
    split
    · rename_i h1
      split
      · rw [State.judgeBlock_ledger, State.setRecord_ledger_of_heldOn, State.overtime_ledger, hcount]
        exact (congrArg PourRec.heldOn h1).symm
      · rw [State.overtime_ledger, hcount]
    · rw [State.overtime_ledger, hcount]
  · rfl

@[simp] theorem State.pouringArrival_ledger (s : State) (l : Line) (a : Arrival) :
    (s.pouringArrival l a).ledger = s.ledger := by
  unfold State.pouringArrival
  split
  · rename_i p n bf bp h
    have hl : (s.countIfSaturated l a).ledger.held l = p.heldOn := by
      rw [State.countIfSaturated_ledger]
      exact congrArg PourRec.heldOn h
    have hmetered (r : PourRec) (hr : r.heldOn = p.heldOn) : ((s.countIfSaturated l a).setRecord l r).ledger = s.ledger :=
      (State.setRecord_ledger_of_heldOn _ (hr.trans hl.symm)).trans (s.countIfSaturated_ledger l a)
    dsimp only
    split
    · exact hmetered _ (by simp)
    split <;> simp [hmetered]
  · rfl

theorem State.tailingFrame_holdsMatch {pulses : Option Nat} (hs : s.holdsMatch) : (s.tailingFrame l pulses).holdsMatch := by
  unfold State.tailingFrame
  split
  · rename_i h
    refine State.tailWindow_holdsMatch (State.quietSettle_holdsMatch (State.holdsMatch_congr ?_ hs))
    refine s.setRecord_ledger_of_heldOn ?_
    rw [h]
    cases pulses <;> simp
  · exact hs

theorem State.waitingFrame_holdsMatch (hs : s.holdsMatch) : (s.waitingFrame l).holdsMatch := by
  unfold State.waitingFrame
  split
  · rename_i h
    exact State.waitTimeout_holdsMatch
      (State.holdsMatch_congr (s.setRecord_ledger_of_heldOn (congrArg PourRec.heldOn h).symm) hs)
  · exact hs

theorem State.arrivalFrame_holdsMatch {a : Arrival} (hs : s.holdsMatch) : (s.arrivalFrame l a).holdsMatch := by
  unfold State.arrivalFrame
  split
  · exact hs
  · split
    · exact State.withdraw_holdsMatch hs
    · exact State.waitingFrame_holdsMatch hs
  · exact State.holdsMatch_congr (State.pouringArrival_ledger ..) hs
  · exact State.tailingFrame_holdsMatch (State.holdsMatch_congr (State.countIfSaturated_ledger ..) hs)

theorem State.arrival_holdsMatch {a : Arrival} (hs : s.holdsMatch) : (s.arrival l a).holdsMatch := by
  unfold State.arrival
  extract_lets u
  have hu : u.holdsMatch := State.holdsMatch_congr (by dsimp only [u]; split <;> simp) hs
  have hrequest : (if a.isRequest then u.request l a.effective else u).holdsMatch := by
    split
    · exact State.request_holdsMatch hu
    · exact hu
  split
  · exact hrequest
  · exact State.arrivalFrame_holdsMatch hrequest

theorem State.missFrame_holdsMatch (hs : s.holdsMatch) : (s.missFrame l).holdsMatch := by
  unfold State.missFrame
  split
  · exact hs
  · exact State.waitingFrame_holdsMatch hs
  · exact State.holdsMatch_congr (State.pouringFrame_ledger ..) hs
  · exact State.tailingFrame_holdsMatch hs

end

/-! ### Slots of a loop (R110 to R116) -/

section
variable {s : State}

theorem State.declareLost_holdsMatch {b : Binding} (hs : s.holdsMatch) : (s.declareLost b).holdsMatch := by
  unfold State.declareLost
  split
  · split
    · exact State.holdsMatch_congr (State.raise_ledger ..)
        (State.endAtOnce_holdsMatch (State.holdsMatch_congr (State.setRecv_ledger ..) hs))
    · exact hs
  · exact hs

theorem State.miss_holdsMatch {b : Binding} {l : Line} (hs : s.holdsMatch) : (s.miss b l).holdsMatch := by
  simp only [State.miss]
  split
  · exact State.declareLost_holdsMatch (State.holdsMatch_congr (State.setRecv_ledger ..) (State.missFrame_holdsMatch hs))
  · exact State.missFrame_holdsMatch hs

theorem State.accept_holdsMatch {b : Binding} {l : Line} {r : RecvState} {w : Inbound} (hs : s.holdsMatch) :
    (s.accept b l r w).holdsMatch :=
  State.holdsMatch_congr (State.setRecv_ledger ..)
    (State.arrival_holdsMatch (State.holdsMatch_congr (State.setRecv_ledger ..) hs))

theorem State.takeWord_holdsMatch {b : Binding} {w : Inbound} (hs : s.holdsMatch) : (s.takeWord b w).holdsMatch := by
  unfold State.takeWord
  split
  · split
    · exact State.miss_holdsMatch (State.holdsMatch_congr (State.setLoop_ledger ..) hs)
    split
    · exact State.miss_holdsMatch (State.holdsMatch_congr (State.setLoop_ledger ..) hs)
    · exact State.accept_holdsMatch hs
  · exact hs

theorem State.slotEnd_holdsMatch {b : Binding} {word : SlotWord} (hs : s.holdsMatch) : (s.slotEnd b word).holdsMatch := by
  simp only [State.slotEnd]
  split
  · exact State.takeWord_holdsMatch (State.holdsMatch_congr (State.setLoop_ledger ..) hs)
  · exact hs

theorem State.stopLoop_holdsMatch {i : LoopId} (hs : s.holdsMatch) : (s.stopLoop i).holdsMatch :=
  State.holdsMatch_congr (State.loopStopReport_ledger ..)
    (State.foldl_holdsMatch (fun _ _ h => State.endAtOnce_holdsMatch h) _
      (State.holdsMatch_congr (State.setLoop_ledger ..) hs))

end

end Sys2Proof.Machine
end

section
/-! PROOF. Every command and every step keeps the holds of the accounts those of the pours (R100): the commands that leave the
ledger, the commands that move holds, and the step. -/

namespace Sys2Proof.Machine

/-! ### Commands that leave the ledger -/

section
variable (s : State)

@[simp] theorem takeLineConfig_ledger (a : LineConfigArgs) : (takeLineConfig a s).ledger = s.ledger := by
  unfold takeLineConfig
  split
  · rfl
  split
  · rfl
  split
  · rfl
  split
  · rfl
  · simp [State.configure]

@[simp] theorem State.rebind_ledger (l : Line) (old new : Binding) : (s.rebind l old new).ledger = s.ledger := by
  unfold State.rebind
  split <;> simp

@[simp] theorem takeLineSet_ledger (a : LineSetArgs) : (takeLineSet a s).ledger = s.ledger := by
  unfold takeLineSet
  split
  · rfl
  split
  · rfl
  · rfl
  split
  · rfl
  · dsimp only
    split <;> simp

@[simp] theorem takeLineHold_ledger (n : Nat) : (takeLineHold n s).ledger = s.ledger := by
  unfold takeLineHold
  split
  · rfl
  split
  · rfl
  · dsimp only
    split <;> simp

@[simp] theorem takeLineRelease_ledger (n : Nat) : (takeLineRelease n s).ledger = s.ledger := by
  unfold takeLineRelease
  split
  · rfl
  split <;> simp

@[simp] theorem takeLinePrime_ledger (n : Nat) : (takeLinePrime n s).ledger = s.ledger := by
  unfold takeLinePrime
  split
  · rfl
  split
  · split
    · rename_i u hu; rw [State.ok_ledger, State.startPriming_ledger hu]
    · rfl
  · split <;> simp
  · rfl

@[simp] theorem State.unbindLine_ledger (l : Line) : (s.unbindLine l).ledger = s.ledger := by
  unfold State.unbindLine
  split <;> simp

@[simp] theorem takeLineRetire_ledger (n : Nat) : (takeLineRetire n s).ledger = s.ledger := by
  unfold takeLineRetire
  split
  · rfl
  split
  · rfl
  · rename_i l _ _ _
    have hwritten : (((s.unbindLine l).changeLine l LineRec.reset).setLastEnrol l none).ledger = s.ledger := by simp
    rw [State.ok_ledger, State.setPour_ledger_of_heldOn, hwritten]
    exact congrArg (Ledger.held · l) hwritten.symm

@[simp] theorem takeLineRead_ledger (n : Nat) : (takeLineRead n s).ledger = s.ledger := by
  unfold takeLineRead
  split <;> rfl

@[simp] theorem takePortionSet_ledger (a : PortionSetArgs) : (takePortionSet a s).ledger = s.ledger := by
  unfold takePortionSet
  split <;> rfl

@[simp] theorem takeCalLock_ledger : (takeCalLock s).ledger = s.ledger := rfl

@[simp] theorem takeCalUnlock_ledger (b : Bool) : (takeCalUnlock b s).ledger = s.ledger := by
  unfold takeCalUnlock
  split <;> rfl

@[simp] theorem takePourRead_ledger (n : Nat) : (takePourRead n s).ledger = s.ledger := by
  unfold takePourRead
  split <;> rfl

@[simp] theorem takeTrunkDraw_ledger (t n : Nat) : (takeTrunkDraw t n s).ledger = s.ledger := by
  unfold takeTrunkDraw
  split
  · rfl
  · dsimp only
    split <;> simp

@[simp] theorem takePartSet_ledger (a : PartSetArgs) : (takePartSet a s).ledger = s.ledger := rfl

@[simp] theorem takeKegEnrol_ledger (a : KegEnrolArgs) : (takeKegEnrol a s).ledger = s.ledger := by
  unfold takeKegEnrol
  split
  · rfl
  split
  · split <;> simp
  · rfl

@[simp] theorem takeKegCheck_ledger (n p : Nat) : (takeKegCheck n p s).ledger = s.ledger := by
  unfold takeKegCheck
  split
  · rfl
  split
  · rfl
  split
  · rfl
  split <;> simp

@[simp] theorem State.confirmEmpty_ledger (l : Line) (p : Position) (k : KegRec) :
    (s.confirmEmpty l p k).ledger = s.ledger := by
  unfold State.confirmEmpty
  split
  · split <;> simp
  · simp

@[simp] theorem takeKegConfirm_ledger (n p v : Nat) : (takeKegConfirm n p v s).ledger = s.ledger := by
  unfold takeKegConfirm
  split
  · rfl
  split
  · rfl
  split
  · rfl
  split
  · rfl
  split <;> simp

@[simp] theorem takeKegRetire_ledger (n p : Nat) : (takeKegRetire n p s).ledger = s.ledger := by
  unfold takeKegRetire
  split
  · rfl
  split
  · rfl
  split <;> simp

@[simp] theorem takeKegRead_ledger (n p : Nat) : (takeKegRead n p s).ledger = s.ledger := by
  unfold takeKegRead
  split <;> rfl

@[simp] theorem takeKegFind_ledger (tag : Tag) : (takeKegFind tag s).ledger = s.ledger := by
  unfold takeKegFind
  split <;> rfl

@[simp] theorem takeAccountRead_ledger (selector key page : Nat) :
    (takeAccountRead selector key page s).ledger = s.ledger := by
  unfold takeAccountRead
  split
  · split
    · rfl
    split <;> rfl
  split
  · split
    · split <;> rfl
    · rfl
  · rfl

@[simp] theorem takeLoopSet_ledger (i n : Nat) : (takeLoopSet i n s).ledger = s.ledger := by
  unfold takeLoopSet
  split
  · rfl
  split <;> simp

@[simp] theorem State.frameSync_ledger (i : LoopId) : (s.frameSync i).ledger = s.ledger := s.setLoop_ledger ..

@[simp] theorem takeLoopStart_ledger (i : Nat) : (takeLoopStart i s).ledger = s.ledger := by
  unfold takeLoopStart
  split
  · rfl
  split <;> simp [State.startLoop]

@[simp] theorem takeLoopRead_ledger (i page : Nat) : (takeLoopRead i page s).ledger = s.ledger := by
  unfold takeLoopRead
  split <;> rfl

@[simp] theorem takeScanSet_ledger (r : Nat) (mask : BitVec 16) : (takeScanSet r mask s).ledger = s.ledger := by
  unfold takeScanSet
  split <;> rfl

@[simp] theorem takeScanStart_ledger : (takeScanStart s).ledger = s.ledger := by
  unfold takeScanStart
  split <;> rfl

@[simp] theorem takeScanStop_ledger : (takeScanStop s).ledger = s.ledger := by
  unfold takeScanStop
  split <;> rfl

@[simp] theorem takeChannelSet_ledger (i r : Nat) (base : Int) (span : Nat) :
    (takeChannelSet i r base span s).ledger = s.ledger := by
  unfold takeChannelSet
  split <;> simp

@[simp] theorem takeTrunkClimate_ledger (a : TrunkClimateArgs) : (takeTrunkClimate a s).ledger = s.ledger := by
  unfold takeTrunkClimate
  split <;> simp

@[simp] theorem takeChillerSet_ledger (a : ChillerSetArgs) : (takeChillerSet a s).ledger = s.ledger := rfl
@[simp] theorem takeBoost_ledger (o c : Nat) : (takeBoost o c s).ledger = s.ledger := rfl
@[simp] theorem takeClimateRead_ledger (page : Nat) : (takeClimateRead page s).ledger = s.ledger := rfl

@[simp] theorem takeRecipeSet_ledger (a : RecipeSetArgs) : (takeRecipeSet a s).ledger = s.ledger := by
  unfold takeRecipeSet
  split <;> rfl

@[simp] theorem takeCleanSet_ledger (n m : Nat) : (takeCleanSet n m s).ledger = s.ledger := rfl

@[simp] theorem takeCleanSubmit_ledger (ls : LineSet) (r : Nat) : (takeCleanSubmit ls r s).ledger = s.ledger := by
  unfold takeCleanSubmit
  split
  · rfl
  split <;> simp

@[simp] theorem takeCleanAbort_ledger (ls : LineSet) : (takeCleanAbort ls s).ledger = s.ledger := by
  unfold takeCleanAbort
  dsimp only
  split
  · rfl
  split
  · rfl
  · rename_i u hu
    rw [State.follow_ledger, State.ok_ledger, State.abortGroup_ledger hu]; rfl

@[simp] theorem takeCleanHalt_ledger : (takeCleanHalt s).ledger = s.ledger := by simp [takeCleanHalt]
@[simp] theorem takeCleanRead_ledger (page : Nat) : (takeCleanRead page s).ledger = s.ledger := rfl

@[simp] theorem takeTimebaseSet_ledger (c p m : Nat) : (takeTimebaseSet c p m s).ledger = s.ledger := by
  unfold takeTimebaseSet
  split <;> rfl

@[simp] theorem takeTimebaseSync_ledger (mask : Byte) : (takeTimebaseSync mask s).ledger = s.ledger := by
  unfold takeTimebaseSync
  split
  · rfl
  · rw [State.ok_ledger, State.foldl_ledger fun s c => State.restartChannel_ledger s mask c]

@[simp] theorem takeValveClear_ledger : (takeValveClear s).ledger = s.ledger := by
  unfold takeValveClear
  dsimp only
  split <;> simp

@[simp] theorem takeValveRead_ledger (page : Nat) : (takeValveRead page s).ledger = s.ledger := rfl
@[simp] theorem takeAttnRead_ledger : (takeAttnRead s).ledger = s.ledger := rfl

@[simp] theorem takeAttnMask_ledger (k : BitVec 16) : (takeAttnMask k s).ledger = s.ledger := by
  unfold takeAttnMask
  split <;> rfl

@[simp] theorem State.post_ledger (tag code : Byte) : (s.post tag code).ledger = s.ledger := by
  unfold State.post
  split <;> rfl

end

/-! ### Events that leave the ledger -/

section
variable (s : State)

theorem takePartResetComplete_ledger : (takePartResetComplete s).ledger = s.ledger := by
  unfold takePartResetComplete
  split <;> simp

theorem takeResponseRead_ledger (n : Nat) : (takeResponseRead n s).ledger = s.ledger := by
  unfold takeResponseRead
  split
  · dsimp only
    split <;> rfl
  · rfl

theorem takeUnknownTransaction_ledger (first : Byte) (n : Nat) : (takeUnknownTransaction first n s).ledger = s.ledger := by
  unfold takeUnknownTransaction
  split <;> rfl

theorem takeFrameSync_ledger (i : LoopId) : (takeFrameSync i s).ledger = s.ledger := by
  unfold takeFrameSync
  split <;> simp

theorem takeCycleStart_ledger : (takeCycleStart s).ledger = s.ledger := by
  unfold takeCycleStart
  split <;> simp

theorem takeStageSwitch_ledger (second : Bool) : (takeStageSwitch second s).ledger = s.ledger := by
  cases second <;> rfl

theorem takeGroupRelease_ledger : (takeGroupRelease s).ledger = s.ledger := by
  unfold takeGroupRelease
  split
  · split <;> simp
  · rfl

theorem State.releaseReset_ledger : s.releaseReset.ledger = s.ledger := by
  unfold State.releaseReset
  split <;> rfl

end

/-! ### The account commands (R94, R95, R96, R101) -/

section
variable {s : State}

theorem takeAccountOpen_holdsMatch {id float : Nat} {credit : Int} (hs : s.holdsMatch) :
    (takeAccountOpen id float credit s).holdsMatch := by
  unfold takeAccountOpen
  split
  · exact State.holdsMatch_congr (State.refuse_ledger ..) hs
  split
  · exact State.holdsMatch_congr (State.refuse_ledger ..) hs
  rename_i hnone
  have hnew := State.findAccount_eq_none.mp (Option.not_isSome_iff_eq_none.mp hnone)
  split
  · exact State.holdsMatch_congr (State.refuse_ledger ..) hs
  · rename_i i hi
    have hplace : s.account i = none := by simpa using List.find?_some hi
    exact State.holdsMatch_congr (State.ok_ledger ..)
      (State.holdsMatch_openAccount (b := Account.fresh id float credit) hs hnew hplace rfl rfl)

theorem takeAccountCredit_holdsMatch {id : Nat} {n : Int} (hs : s.holdsMatch) :
    (takeAccountCredit id n s).holdsMatch := by
  unfold takeAccountCredit
  split
  · exact State.holdsMatch_congr (State.refuse_ledger ..) hs
  split
  · exact State.holdsMatch_congr (State.refuse_ledger ..) hs
  rename_i i a hf
  obtain ⟨ha, -⟩ := State.findAccount_spec hf
  split
  · exact State.holdsMatch_congr (State.refuse_ledger ..) hs
  · exact State.holdsMatch_congr (State.ok_ledger ..)
      (State.holdsMatch_setAccount (b := a.credit n) hs ha rfl rfl rfl (hs.2.1 i a ha).2.2)

theorem takeAccountFloat_holdsMatch {id float : Nat} (hs : s.holdsMatch) : (takeAccountFloat id float s).holdsMatch := by
  unfold takeAccountFloat
  split
  · exact State.holdsMatch_congr (State.refuse_ledger ..) hs
  split
  · exact State.holdsMatch_congr (State.refuse_ledger ..) hs
  rename_i i a hf
  obtain ⟨ha, -⟩ := State.findAccount_spec hf
  split
  · exact State.holdsMatch_congr (State.refuse_ledger ..) hs
  · exact State.holdsMatch_congr (State.ok_ledger ..)
      (State.holdsMatch_setAccount (b := { a with float := float }) hs ha rfl rfl rfl (hs.2.1 i a ha).2.2)

theorem takeAccountClose_holdsMatch {id : Nat} (hs : s.holdsMatch) : (takeAccountClose id s).holdsMatch := by
  unfold takeAccountClose
  split
  · exact State.holdsMatch_congr (State.refuse_ledger ..) hs
  split
  · exact State.holdsMatch_congr (State.refuse_ledger ..) hs
  rename_i i a hf
  obtain ⟨ha, -⟩ := State.findAccount_spec hf
  obtain ⟨-, -, hclosed⟩ := hs.2.1 i a ha
  split
  · split
    · rename_i h0
      exact State.holdsMatch_congr (State.ok_ledger ..)
        (State.holdsMatch_setAccount (b := { a with state := .closed }) hs ha rfl rfl rfl fun _ => h0)
    · exact State.holdsMatch_congr (State.ok_ledger ..)
        (State.holdsMatch_setAccount (b := { a with state := .closing }) hs ha rfl rfl rfl nofun)
  · exact State.holdsMatch_congr (State.reply_ledger ..) hs
  · rename_i hstate
    exact State.holdsMatch_congr (State.ok_ledger ..) (State.holdsMatch_removeAccount hs ha (hclosed hstate))

end

/-! ### Commands and events that withdraw or settle pours, and the resets -/

section
variable {s : State}

theorem takePourAbort_holdsMatch {n : Nat} (hs : s.holdsMatch) : (takePourAbort n s).holdsMatch := by
  unfold takePourAbort
  split
  · exact State.holdsMatch_congr (State.refuse_ledger ..) hs
  split
  · exact State.holdsMatch_congr (State.refuse_ledger ..) hs
  split
  · exact State.holdsMatch_congr (State.refuse_ledger ..) hs
  · exact State.holdsMatch_congr ((State.follow_ledger _).trans (State.ok_ledger ..)) (State.withdraw_holdsMatch hs)
  · exact State.holdsMatch_congr (by simp) hs
  · exact State.holdsMatch_congr (State.ok_ledger ..) hs

theorem takeLoopStop_holdsMatch {n : Nat} (hs : s.holdsMatch) : (takeLoopStop n s).holdsMatch := by
  unfold takeLoopStop
  split
  · exact State.holdsMatch_congr (State.refuse_ledger ..) hs
  split
  · exact State.holdsMatch_congr ((State.follow_ledger _).trans (State.ok_ledger ..)) (State.stopLoop_holdsMatch hs)
  · exact State.holdsMatch_congr (State.refuse_ledger ..) hs

theorem takeLoopReset_holdsMatch {n : Nat} (hs : s.holdsMatch) : (takeLoopReset n s).holdsMatch := by
  unfold takeLoopReset
  split
  · exact State.holdsMatch_congr (State.refuse_ledger ..) hs
  · rename_i i _
    have hstop : (if (s.loop i).isRunning then s.stopLoop i else s).holdsMatch := by
      split
      · exact State.stopLoop_holdsMatch hs
      · exact hs
    exact State.holdsMatch_congr (by simp) hstop

theorem takePartReset_holdsMatch (tag : Byte) (s : State) : (takePartReset tag s).holdsMatch :=
  State.holdsMatch_of_blank rfl rfl

theorem State.pinReset_holdsMatch (s : State) : s.pinReset.holdsMatch := State.holdsMatch_of_blank rfl rfl

theorem takeSlotEnd_holdsMatch {i : LoopId} {k : Slot} {w : SlotWord} (hs : s.holdsMatch) :
    (takeSlotEnd i k w s).holdsMatch :=
  State.holdsMatch_congr (State.follow_ledger _) (State.slotEnd_holdsMatch hs)

theorem takeFaucetLost_holdsMatch {i : LoopId} {k : Slot} (hs : s.holdsMatch) : (takeFaucetLost i k s).holdsMatch := by
  unfold takeFaucetLost
  split
  · exact State.holdsMatch_congr (State.follow_ledger _) (State.declareLost_holdsMatch hs)
  · exact hs

theorem takeWaitTimeout_holdsMatch {l : Line} (hs : s.holdsMatch) : (takeWaitTimeout l s).holdsMatch := by
  unfold takeWaitTimeout
  split
  · exact State.holdsMatch_congr (State.considerFormation_ledger _) (State.waitTimeout_holdsMatch hs)
  · exact hs

theorem takeTailQuietSettle_holdsMatch {l : Line} (hs : s.holdsMatch) : (takeTailQuietSettle l s).holdsMatch :=
  State.holdsMatch_congr (State.follow_ledger _) (State.quietSettle_holdsMatch hs)

theorem takeTailWindow_holdsMatch {l : Line} (hs : s.holdsMatch) : (takeTailWindow l s).holdsMatch :=
  State.holdsMatch_congr (State.follow_ledger _) (State.tailWindow_holdsMatch hs)

end

/-! ### The step -/

/-- A command handed to its block keeps the relation. -/
theorem takeCommand_holdsMatch {s : State} (i : Instr) (hs : s.holdsMatch) : (takeCommand i s).holdsMatch := by
  cases i with
  | accountOpen => exact takeAccountOpen_holdsMatch hs
  | accountCredit => exact takeAccountCredit_holdsMatch hs
  | accountFloat => exact takeAccountFloat_holdsMatch hs
  | accountClose => exact takeAccountClose_holdsMatch hs
  | pourAbort => exact takePourAbort_holdsMatch hs
  | loopStop => exact takeLoopStop_holdsMatch hs
  | loopReset => exact takeLoopReset_holdsMatch hs
  | partReset tag => exact takePartReset_holdsMatch tag s
  | _ => exact State.holdsMatch_congr (by simp [takeCommand]) hs

theorem State.acceptFrame_holdsMatch {s : State} {service : Bool} {code tag : Byte} {payload : List Byte}
    (hs : s.holdsMatch) : (s.acceptFrame service code tag payload).holdsMatch := by
  unfold State.acceptFrame
  extract_lets u
  have hu : u.holdsMatch := State.holdsMatch_congr (s.setLinkState_ledger _) hs
  split
  · rename_i i _ _
    split
    · exact State.holdsMatch_congr (by simp) hu
    split
    · exact takeCommand_holdsMatch i hu
    · exact State.holdsMatch_congr (State.post_ledger ..) (takeCommand_holdsMatch i hu)
  · exact State.holdsMatch_congr (by simp) hu

theorem takeCommandWrite_holdsMatch {s : State} {service : Bool} {bytes : List Byte} (hs : s.holdsMatch) :
    (takeCommandWrite service bytes s).holdsMatch := by
  unfold takeCommandWrite
  extract_lets u
  have hu : u.holdsMatch := State.holdsMatch_congr (s.sendMiso_ledger ..) hs
  split
  · split
    · exact State.holdsMatch_congr (by simp [State.frameError]) hu
    · exact State.acceptFrame_holdsMatch hu
  · exact State.holdsMatch_congr (u.setLink_ledger _) hu

/-- A command of the Venue Link taken directly is the command handed to its block (R176). -/
theorem exec_of_encode {i : Instr} {x : Byte × List Byte} (h : encodeCommand i = some x) (s : State) :
    exec i s = s.running (takeCommand i) := by
  cases i <;> simp [encodeCommand] at h <;> rfl

theorem State.holdsMatch_of_running {s t : State} {f : State → State} (hf : s.holdsMatch → (f s).holdsMatch)
    (hs : s.holdsMatch) (h : s.running f = .next t) : t.holdsMatch := by
  rw [State.running_eq_next.mp h]
  split
  · exact hs
  · exact hf hs

/-- Every command and every event keeps the relation. -/
theorem exec_holdsMatch {s t : State} {i : Instr} (hs : s.holdsMatch) (h : exec i s = .next t) : t.holdsMatch := by
  cases hi : encodeCommand i with
  | some x =>
    rw [exec_of_encode hi] at h
    exact State.holdsMatch_of_running (takeCommand_holdsMatch i) hs h
  | none =>
    have leaves {f : State → State} (hf : (f s).ledger = s.ledger) : s.running f = .next t → t.holdsMatch :=
      State.holdsMatch_of_running (State.holdsMatch_congr hf) hs
    cases i with
    | pinReset => cases h; exact s.pinReset_holdsMatch
    | resetNRelease => cases h; exact State.holdsMatch_congr s.releaseReset_ledger hs
    | commandWrite => exact State.holdsMatch_of_running takeCommandWrite_holdsMatch hs h
    | slotEnd => exact State.holdsMatch_of_running takeSlotEnd_holdsMatch hs h
    | faucetLost => exact State.holdsMatch_of_running takeFaucetLost_holdsMatch hs h
    | waitTimeout => exact State.holdsMatch_of_running takeWaitTimeout_holdsMatch hs h
    | tailQuietSettle => exact State.holdsMatch_of_running takeTailQuietSettle_holdsMatch hs h
    | tailWindow => exact State.holdsMatch_of_running takeTailWindow_holdsMatch hs h
    | responseRead n => exact leaves (takeResponseRead_ledger s n) h
    | statusRead => exact leaves (by simp [takeStatusRead]) h
    | unknownTransaction first n => exact leaves (takeUnknownTransaction_ledger s first n) h
    | partResetComplete => exact leaves (takePartResetComplete_ledger s) h
    | frameSync k => exact leaves (takeFrameSync_ledger s k) h
    | pourOvertime => exact leaves (by simp [takePourOvertime]) h
    | lowFlowBlockEnd => exact leaves (by simp [takeLowFlowBlockEnd]) h
    | promotion k => exact leaves (s.promote_ledger k) h
    | couplerReadStart => exact leaves s.startRead_ledger h
    | couplerCopyRead => exact leaves (by simp [takeCouplerCopyRead]) h
    | conversionComplete => exact leaves (by simp [takeConversionComplete]) h
    | probeFailed => exact leaves (by simp [takeProbeFailed]) h
    | timebasePeriodEvent => exact leaves (by simp [takeTimebasePeriodEvent]) h
    | timebaseMarginEvent c => exact leaves (s.marginEvent_ledger c) h
    | cycleStart => exact leaves (takeCycleStart_ledger s) h
    | boostEnd => exact leaves s.endBoost_ledger h
    | stageSwitch second => exact leaves (takeStageSwitch_ledger s second) h
    | pumpFlowPulse => exact leaves s.countPump_ledger h
    | pumpFault => exact leaves (by simp [takePumpFault]) h
    | phaseTimeout => exact leaves (by simp [takePhaseTimeout]) h
    | soakEnd => exact leaves (by simp [takeSoakEnd]) h
    | groupFormation => exact leaves s.considerFormation_ledger h
    | groupRelease => exact leaves (takeGroupRelease_ledger s) h
    | chainShiftStart => exact leaves s.startShift_ledger h
    | chainShiftEnd => exact leaves (by simp [takeChainShiftEnd]) h
    | _ => simp [encodeCommand] at hi

/-- Settles O55: a millisecond leaves the ledger, and a command keeps its two sides together. -/
theorem holdsStayMatched : Obligations.HoldsStayMatched := by
  intro s t hs h
  unfold step at h
  split at h
  · cases h
    exact State.holdsMatch_congr s.tick_ledger hs
  · rename_i rest _
    exact exec_holdsMatch (s := { s with pending := rest }) (State.holdsMatch_congr rfl hs) h

end Sys2Proof.Machine
end

section
/-! PROOF. An evaluation of a trunk's gate (R126, R127, R128): its source and value by the available roles, its new state by the
table, and what the evaluation writes. -/

namespace Sys2Proof.Machine

/-! ### Available roles (R125) -/

section
variable {c : Climate} {r : Role}

theorem Climate.role_of_assigned {i : SenseInput} (h : c.assigned r = some i) : (look c.inputs i).role = r := by
  simpa using List.find?_some h

/-- Only an available role has a reading: assigned, filtered and not FAILED. -/
theorem Climate.available_of_reading {f : Int} (h : c.reading r = some f) : ∃ (i : SenseInput) (k : Fin 15),
    (look c.inputs i).role = r ∧ r.index = some k ∧ (look c.roles k).failed = false ∧ (look c.roles k).filtered = some f := by
  unfold Climate.reading at h
  split at h
  · rename_i k i hk hi
    split at h
    · cases h
    · rename_i hfailed
      exact ⟨i, k, Climate.role_of_assigned hi, hk, by simpa using hfailed, h⟩
  · cases h

end

/-! ### Source and gate value (R126) -/

section
variable {c : Climate} {t : Trunk}

theorem Climate.gateValue_of_beer {f : Int} (hb : c.reading (.trunkBeer t) = some f) :
    c.gateValue t = (.beer, some f) := by
  simp [Climate.gateValue, hb]

theorem Climate.gateValue_of_glycol {f : Int} (hb : c.reading (.trunkBeer t) = none)
    (hg : c.reading (.trunkGlycol t) = some f) : c.gateValue t = (.glycol, some (f + 32)) := by
  simp [Climate.gateValue, hb, hg]

theorem Climate.gateValue_of_none (hb : c.reading (.trunkBeer t) = none) (hg : c.reading (.trunkGlycol t) = none) :
    c.gateValue t = (.none, none) := by
  simp [Climate.gateValue, hb, hg]

end

/-! ### The gate table (R127) -/

/-- The row of the gate table from one state to another, for a trunk with a gate value. -/
def GateRow (warn stop G : Int) : Gate → Gate → Prop
  | .cold, .hot => stop < G
  | .cold, .warn => warn < G ∧ G ≤ stop
  | .cold, .cold => G ≤ warn
  | .warn, .hot => stop < G
  | .warn, .cold => G ≤ warn - 8
  | .warn, .warn => warn - 8 < G ∧ G ≤ stop
  | .hot, .cold => G ≤ warn - 8
  | .hot, .warn => warn - 8 < G ∧ G ≤ stop - 8
  | .hot, .hot => stop - 8 < G

/-- With warn at most stop (R129) the tests, made in order, choose the one row that applies. -/
theorem gateNext_eq_iff_gateRow {before new : Gate} {warn stop G : Int} (h : warn ≤ stop) :
    gateNext before warn stop (some G) = new ↔ GateRow warn stop G before new := by
  cases before with
  | cold | warn | hot =>
    simp only [gateNext]
    split_ifs <;> cases new <;> simp [GateRow] <;> omega

/-! ### What an evaluation writes -/

section
variable (s : State) (t : Trunk)

theorem State.evalGate_zones : (s.evalGate t).climate.zones = put s.climate.zones t { s.zone t with
    gate := gateNext (s.zone t).gate (s.zone t).warn (s.zone t).stop (s.climate.gateValue t).2
    source := (s.climate.gateValue t).1 } := by
  simp only [State.evalGate]
  split <;> rfl

theorem State.raiseTrunk_trunkHot (k : Trunk) : (s.raiseTrunk t).link.attention.trunkHot.getLsbD k.val =
    (s.link.attention.trunkHot.getLsbD k.val || k == t) := by
  simp only [State.raiseTrunk, State.setAttention, BitVec.getLsbD_or, getLsbD_member, k.isLt, decide_true, Bool.true_and,
    Fin.ext_iff, beq_eq_decide]

/-- TRUNK_HOT is raised for the trunk whose gate enters HOT, and only then (R128). -/
theorem State.evalGate_trunkHot (k : Trunk) : (s.evalGate t).link.attention.trunkHot.getLsbD k.val =
    (s.link.attention.trunkHot.getLsbD k.val || (k == t &&
      gateNext (s.zone t).gate (s.zone t).warn (s.zone t).stop (s.climate.gateValue t).2 == .hot &&
      (s.zone t).gate != .hot)) := by
  simp only [State.evalGate]
  split
  case isTrue enters =>
    obtain ⟨hhot, hbefore⟩ := enters
    rw [State.raiseTrunk_trunkHot, hhot, bne_iff_ne.mpr hbefore]
    simp
  case isFalse stays =>
    have hstays : (gateNext (s.zone t).gate (s.zone t).warn (s.zone t).stop (s.climate.gateValue t).2 == .hot &&
        (s.zone t).gate != .hot) = false := by simpa using stays
    simp [Bool.and_assoc, hstays]

theorem State.evalGate_frame : s.evalGate t = { s with
    climate := { s.climate with zones := (s.evalGate t).climate.zones }
    link := { s.link with attention := { s.link.attention with
      trunkHot := (s.evalGate t).link.attention.trunkHot } } } := by
  simp only [State.evalGate]
  split <;> rfl

end

/-- Settles O42: the available roles give the source and the value, the value gives the one row of the table that applies, and
the evaluation writes these two and the attention of a gate that enters HOT. -/
theorem gateFollowsItsTable : Obligations.GateFollowsItsTable := by
  intro s t source g new hws
  refine ⟨fun r => ?_, fun hsource hrow => ?_⟩
  · cases hr : s.climate.reading r with
    | none => exact .inl rfl
    | some f =>
      obtain ⟨i, k, hrole, hk, hworks, hf⟩ := Climate.available_of_reading hr
      exact .inr ⟨i, k, f, hrole, hk, hworks, hf, rfl⟩
  have hvalue : s.climate.gateValue t = (source, g) := by
    obtain ⟨f, hb, rfl, rfl⟩ | ⟨hb, f, hg, rfl, rfl⟩ | ⟨hb, hg, rfl, rfl⟩ := hsource
    · exact Climate.gateValue_of_beer hb
    · exact Climate.gateValue_of_glycol hb hg
    · exact Climate.gateValue_of_none hb hg
  have hnext : gateNext (s.zone t).gate (s.zone t).warn (s.zone t).stop g = new := by
    obtain ⟨rfl, rfl⟩ | ⟨G, rfl, rows⟩ := hrow
    · rfl
    · rw [gateNext_eq_iff_gateRow hws]
      obtain ⟨hz, hot, rfl⟩ | ⟨hz, above, below, rfl⟩ | ⟨hz, cold, rfl⟩ | ⟨hz, hot, rfl⟩ | ⟨hz, cold, rfl⟩ |
        ⟨hz, above, below, rfl⟩ | ⟨hz, cold, rfl⟩ | ⟨hz, above, below, rfl⟩ | ⟨hz, hot, rfl⟩ := rows <;>
        simp [GateRow, *]
  have hzones := s.evalGate_zones t
  rw [hvalue, hnext] at hzones
  refine ⟨by simp [State.zone, hzones], by rw [hzones]; exact sameBut_put _ _ _, fun k => ?_, s.evalGate_frame t⟩
  rw [State.evalGate_trunkHot, hvalue, hnext]

end Sys2Proof.Machine
end

section
/-! PROOF. The two attention commands of the Venue Link (R180, R181): reading the set removes it, and the mask decides only which
of its kinds drive ATTN_N (R179). -/

namespace Sys2Proof.Machine

/-! ### The attention pins (R178, R179) -/

theorem and_ne_zero_iff_common_bit {w : Nat} (x y : BitVec w) :
    x &&& y ≠ 0#w ↔ ∃ k : Fin w, x.getLsbD k.val = true ∧ y.getLsbD k.val = true := by
  rw [ne_eq, BitVec.eq_of_getLsbD_eq_iff, not_forall, Fin.exists_iff]
  simp only [BitVec.getLsbD_and, BitVec.getLsbD_zero, Classical.not_imp, Bool.not_eq_false, Bool.and_eq_true, exists_prop]

theorem Link.attnLow_iff (l : Link) :
    l.attnLow = true ↔ ∃ k : Fin 14, l.attention.kinds.getLsbD k.val = true ∧ l.mask.getLsbD k.val = true :=
  bne_iff_ne.trans (and_ne_zero_iff_common_bit ..)

theorem Attention.kinds_empty : Attention.empty.kinds = 0#14 := by decide

theorem Link.attnLow_of_empty {l : Link} (h : l.attention = Attention.empty) : l.attnLow = false := by
  simp [Link.attnLow, h, Attention.kinds_empty]

theorem Link.attnPending_of_empty {l : Link} (h : l.attention = Attention.empty) : l.attnPending = false := by
  simp [Link.attnPending, h, Attention.kinds_empty]

/-! ### The two outcomes of ATTN_MASK (R181) -/

theorem takeAttnMask_of_lt {kinds : BitVec 16} (h : kinds.toNat < 2 ^ 14) (s : State) : takeAttnMask kinds s =
    (s.setLink { s.link with mask := kinds.setWidth 14 }).ok (bytesBE 2 kinds.toNat) :=
  if_pos h

theorem takeAttnMask_of_le {kinds : BitVec 16} (h : 2 ^ 14 ≤ kinds.toNat) (s : State) :
    takeAttnMask kinds s = s.refuse .badArg :=
  if_neg (Nat.not_lt.mpr h)

/-- Settles O11: the emptied set leaves nothing pending, and a set below 2^14 becomes the mask, each kind keeping its bit. -/
theorem attentionIsReadWholeAndMaskedOnTheLine : Obligations.AttentionIsReadWholeAndMaskedOnTheLine := by
  intro s released
  have taken (i : Instr) {x : Byte × List Byte} (h : encodeCommand i = some x) : exec i s = .next (takeCommand i s) :=
    (exec_of_encode h s).trans (State.running_of_released released)
  refine ⟨⟨_, taken .attnRead rfl, Link.attnLow_of_empty rfl, Link.attnPending_of_empty rfl, rfl⟩,
    fun kinds fits => ?_, fun kinds beyond => ?_⟩
  · refine ⟨_, (taken (.attnMask kinds) rfl).trans (congrArg _ (takeAttnMask_of_lt fits s)), rfl, ?_, rfl⟩
    simp [Link.attnLow_iff, State.ok, State.setLink]
  · exact (taken (.attnMask kinds) rfl).trans (congrArg _ (takeAttnMask_of_le beyond s))

end Sys2Proof.Machine
end

section
/-! PROOF. What a change of the state keeps, one part for each invariant of a step, and the changes that keep all of them because
they leave what the invariants read. -/

namespace Sys2Proof.Machine

/-! ### The parts of the invariants -/

/-- The Keg Register but for the idle bus: sound records, distinct tags, and a queue in its bounds that is empty only on an idle bus
(R69, R72, R73). -/
abbrev State.recordsSound (s : State) : Prop :=
  (∀ l : Line, (∀ k ∈ s.keg l .A, k.sound) ∧ (∀ k ∈ s.keg l .B, k.sound)) ∧
  (∀ l m : Line, (∀ k ∈ s.keg l .A, ∀ k' ∈ s.keg m .B, k.tag ≠ k'.tag) ∧
    (l ≠ m → (∀ k ∈ s.keg l .A, ∀ k' ∈ s.keg m .A, k.tag ≠ k'.tag) ∧
      (∀ k ∈ s.keg l .B, ∀ k' ∈ s.keg m .B, k.tag ≠ k'.tag))) ∧
  s.kegRegister.queue.length ≤ 8 ∧
  (s.kegRegister.queue.map fun e => (e.line, e.position)).Nodup ∧
  (s.kegRegister.queue = [] → s.kegRegister.bus = none)

/-- An idle bus has nothing to read (R73). -/
abbrev State.idleSound (s : State) : Prop := s.kegRegister.bus = none → s.kegRegister.queue = []

theorem State.kegsSound_iff (s : State) : s.kegsSound ↔ s.recordsSound ∧ s.idleSound := by
  unfold State.kegsSound State.recordsSound State.idleSound
  tauto

/-- A live entry of the Coupler Read Queue has its record, VERIFYING for an ENROL entry alone, and a discarded head has none (R73,
R76, R81). -/
abbrev State.readsTrue (s : State) : Prop :=
  ∀ i : Fin s.kegRegister.queue.length,
    if s.kegRegister.live i.val then
      (s.keg s.kegRegister.queue[i].line s.kegRegister.queue[i].position).any (fun k =>
        (k.state == .verifying) == (s.kegRegister.queue[i].purpose == .enrol)) = true
    else s.keg s.kegRegister.queue[i].line s.kegRegister.queue[i].position = none

/-- The modes under which a line has a keg on tap. -/
def Mode.onTap (m : Mode) : Prop := m = .priming ∨ m = .ready

/-- One keg is ON_TAP on a line whose mode has one, and none on another (R70). -/
def State.lineTapped (s : State) (l : Line) : Prop :=
  ¬(s.tapped l .A = true ∧ s.tapped l .B = true) ∧
  ((s.tapped l .A = true ∨ s.tapped l .B = true) ↔ (s.line l).under.onTap)

theorem State.tapsSound_iff (s : State) : s.tapsSound ↔ (∀ l, s.lineTapped l) ∧ s.readsTrue := Iff.rfl

/-- What a change keeps: every invariant of the step but for the idle bus and for the keg on tap of one line, `x`; where `P` holds,
the read queue and the kegs on tap too. -/
structure Guards (x : Option Line) (P : Prop) (s t : State) : Prop where
  accounts : s.accountsSound → t.accountsSound
  records : s.recordsSound → t.recordsSound
  lines : s.linesSound → t.linesSound
  reads : P → s.recordsSound → s.readsTrue → t.readsTrue
  tap : P → ∀ l, x ≠ some l → s.linesSound → s.recordsSound → s.readsTrue → s.lineTapped l → t.lineTapped l
  queues : s.linesSound → s.queuesSound → t.queuesSound
  clocks : s.clocksSound → t.clocksSound
  valves : s.valvesSound → t.valvesSound

/-- What a command keeps: every invariant of the step. -/
structure Keeps (s t : State) : Prop extends Guards none True s t where
  idle : s.idleSound → t.idleSound

theorem Keeps.guards {x : Option Line} {P : Prop} {s t : State} (h : Keeps s t) : Guards x P s t :=
  { h.toGuards with reads := fun _ => h.reads trivial, tap := fun _ l _ => h.tap trivial l nofun }

theorem Guards.trans {x : Option Line} {P : Prop} {s t u : State} (h : Guards x P s t) (k : Guards x P t u) : Guards x P s u where
  accounts := k.accounts ∘ h.accounts
  records := k.records ∘ h.records
  lines := k.lines ∘ h.lines
  reads hp hr hq := k.reads hp (h.records hr) (h.reads hp hr hq)
  tap hp l hx hl hr hq ht := k.tap hp l hx (h.lines hl) (h.records hr) (h.reads hp hr hq) (h.tap hp l hx hl hr hq ht)
  queues hl hq := k.queues (h.lines hl) (h.queues hl hq)
  clocks := k.clocks ∘ h.clocks
  valves := k.valves ∘ h.valves

theorem Keeps.trans {s t u : State} (h : Keeps s t) (k : Keeps t u) : Keeps s u :=
  ⟨h.toGuards.trans k.toGuards, k.idle ∘ h.idle⟩

/-- A change under a condition that sound records and a true read queue meet. -/
theorem Guards.discharge {x : Option Line} {P : Prop} {s t : State} (h : Guards x P s t)
    (hp : s.recordsSound → s.readsTrue → P) : Guards x True s t :=
  { h with
    reads := fun _ hr hq => h.reads (hp hr hq) hr hq
    tap := fun _ l hx hl hr hq => h.tap (hp hr hq) l hx hl hr hq }

/-- A change that keeps the keg on tap of the one line too, and the read queue, keeps the invariants. -/
theorem Guards.keeps {l : Line} {s t : State} (h : Guards (some l) True s t)
    (ht : s.linesSound → s.lineTapped l → t.lineTapped l) (hi : s.idleSound → t.idleSound) : Keeps s t :=
  ⟨{ h with tap := fun _ m _ hl hr hq => if e : m = l then e ▸ ht hl else h.tap trivial m (fun c => e (Option.some.inj c).symm) hl hr hq },
    hi⟩

theorem Keeps.refl (s : State) : Keeps s s := ⟨⟨id, id, id, fun _ _ h => h, fun _ _ _ _ _ _ h => h, fun _ h => h, id, id⟩, id⟩

/-- A list of changes that each keep the invariants keeps them. -/
theorem Keeps.foldl {α : Type} {f : State → α → State} (h : ∀ s x, Keeps s (f s x)) (xs : List α) (s : State) :
    Keeps s (xs.foldl f s) := by
  induction xs generalizing s with
  | nil => exact .refl s
  | cons x xs ih => exact (h s x).trans (ih _)

/-! ### What the invariants read -/

/-- What the invariants read of a line record stays. -/
structure LineKept (r r' : LineRec) : Prop where
  sound : r.sound → r'.sound
  binding : r'.cfg.map LineCfg.binding = r.cfg.map LineCfg.binding
  trunk : r'.cfg.map LineCfg.trunk = r.cfg.map LineCfg.trunk
  under : r'.under = r.under
  mode : r'.mode = r.mode

/-- What the invariants read of a keg position stays. -/
structure KegKept (a b : Option KegRec) : Prop where
  tag : b.map KegRec.tag = a.map KegRec.tag
  state : b.map KegRec.state = a.map KegRec.state
  sound : (∀ k ∈ a, k.sound) → ∀ k ∈ b, k.sound

theorem LineKept.refl (r : LineRec) : LineKept r r := ⟨id, rfl, rfl, rfl, rfl⟩
theorem KegKept.refl (a : Option KegRec) : KegKept a a := ⟨rfl, rfl, id⟩

/-- What the invariants read stays; a part of the state that nothing is said of is as it was. -/
structure Same (s t : State) : Prop where
  accounts : s.accountsSound → t.accountsSound := by exact id
  lines : ∀ l, LineKept (s.line l) (t.line l) := by exact fun _ => LineKept.refl _
  bound : ∀ b, t.bound b = s.bound b := by exact fun _ => rfl
  recv : ∀ b, (t.recv b).isSome = (s.recv b).isSome := by exact fun _ => rfl
  slots : ∀ i, (t.loop i).slotCount = (s.loop i).slotCount := by exact fun _ => rfl
  kegs : ∀ l p, KegKept (s.keg l p) (t.keg l p) := by exact fun _ _ => KegKept.refl _
  reads : t.kegRegister.queue = s.kegRegister.queue := by rfl
  bus : t.kegRegister.bus = s.kegRegister.bus := by rfl
  waits : ∀ l, (t.pour l).record.code = 1 ↔ (s.pour l).record.code = 1 := by exact fun _ => Iff.rfl
  trunks : ∀ k, (t.trunk k).queue = (s.trunk k).queue := by exact fun _ => rfl
  cleanQueue : t.cleaning.queue = s.cleaning.queue := by rfl
  clocks : s.clocksSound → t.clocksSound := by exact id
  valves : s.valvesSound → t.valvesSound := by exact id

/-! ### One part at a time -/

section
variable {s t : State}

/-- The records and the queue stay sound where each record comes from one with its tag, and the queue stays in its bounds. -/
theorem State.recordsSound_of
    (hk : ∀ l p, ∀ k' ∈ t.keg l p, ∃ k ∈ s.keg l p, k'.tag = k.tag ∧ (k.sound → k'.sound))
    (hq : t.kegRegister.queue = s.kegRegister.queue) (hb : t.kegRegister.bus = s.kegRegister.bus)
    (h : s.recordsSound) : t.recordsSound := by
  obtain ⟨hs, ht, hl, hn, he⟩ := h
  refine ⟨fun l => ⟨fun k' hk' => ?_, fun k' hk' => ?_⟩, fun l m => ⟨fun k hx k' hx' => ?_,
    fun hne => ⟨fun k hx k' hx' => ?_, fun k hx k' hx' => ?_⟩⟩, hq ▸ hl, hq ▸ hn, by rw [hq, hb]; exact he⟩
  · obtain ⟨k, hk0, -, hks⟩ := hk l .A k' hk'
    exact hks ((hs l).1 k hk0)
  · obtain ⟨k, hk0, -, hks⟩ := hk l .B k' hk'
    exact hks ((hs l).2 k hk0)
  · obtain ⟨a, ha, hat, -⟩ := hk _ _ k hx
    obtain ⟨b, hb, hbt, -⟩ := hk _ _ k' hx'
    rw [hat, hbt]; exact (ht l m).1 a ha b hb
  · obtain ⟨a, ha, hat, -⟩ := hk _ _ k hx
    obtain ⟨b, hb, hbt, -⟩ := hk _ _ k' hx'
    rw [hat, hbt]; exact ((ht l m).2 hne).1 a ha b hb
  · obtain ⟨a, ha, hat, -⟩ := hk _ _ k hx
    obtain ⟨b, hb, hbt, -⟩ := hk _ _ k' hx'
    rw [hat, hbt]; exact ((ht l m).2 hne).2 a ha b hb

/-- The line records and the binding map stay sound where records stay sound with their bindings, and the loops keep their slots. -/
theorem State.linesSound_of (hl : ∀ l, (s.line l).sound → (t.line l).sound)
    (hc : ∀ l, (t.line l).cfg.map LineCfg.binding = (s.line l).cfg.map LineCfg.binding)
    (hb : ∀ b, t.bound b = s.bound b) (hr : ∀ b, (t.recv b).isSome = (s.recv b).isSome)
    (hn : ∀ i, (t.loop i).slotCount = (s.loop i).slotCount) (h : s.linesSound) : t.linesSound := by
  obtain ⟨hs, hm, hk⟩ := h
  refine ⟨fun l => hl l (hs l), fun l c h => ?_, fun k => ?_⟩
  · have hx : (s.line l).cfg.map LineCfg.binding = some c.binding := by rw [← hc, h]; rfl
    obtain ⟨d, hd, e⟩ := Option.map_eq_some_iff.mp hx
    rw [hb, hn, ← e]
    exact hm l d hd
  · simp only [hb, hc, hr]
    exact hk k

theorem State.keg_any_of {f : KegState → Bool} {l : Line} {p : Position}
    (h : (t.keg l p).map (fun k => f k.state) = (s.keg l p).map fun k => f k.state) :
    (t.keg l p).any (fun k => f k.state) = (s.keg l p).any fun k => f k.state := by
  have := congrArg (Option.any id) h
  simpa only [Option.any_map, Function.comp_def, id] using this

/-- The entries of the read queue keep their records where the records stay, each VERIFYING or not as before. -/
theorem State.readsTrue_of
    (hk : ∀ e ∈ s.kegRegister.queue, (t.keg e.line e.position).map (fun k => k.state == .verifying) =
      (s.keg e.line e.position).map fun k => k.state == .verifying)
    (hq : t.kegRegister.queue = s.kegRegister.queue) (hb : t.kegRegister.bus = s.kegRegister.bus)
    (h : s.readsTrue) : t.readsTrue := by
  have live (i : Nat) : t.kegRegister.live i = s.kegRegister.live i := by simp only [KegRegister.live, hb]
  rintro ⟨i, hi⟩
  have hi' : i < s.kegRegister.queue.length := hq ▸ hi
  have he := hk _ (List.getElem_mem hi')
  have hn : t.keg s.kegRegister.queue[i].line s.kegRegister.queue[i].position = none ↔
      s.keg s.kegRegister.queue[i].line s.kegRegister.queue[i].position = none := by
    rw [← Option.map_eq_none_iff (f := fun k : KegRec => k.state == .verifying), he, Option.map_eq_none_iff]
  have ha (b : Bool) : (t.keg s.kegRegister.queue[i].line s.kegRegister.queue[i].position).any
      (fun k => (k.state == .verifying) == b) =
      (s.keg s.kegRegister.queue[i].line s.kegRegister.queue[i].position).any fun k => (k.state == .verifying) == b := by
    have := congrArg (Option.any (· == b)) he
    simpa only [Option.any_map, Function.comp_def] using this
  have := h ⟨i, hi'⟩
  simp only [live, Fin.getElem_fin, hq, hn, ha] at this ⊢
  exact this

/-- A line keeps its keg on tap where its kegs keep their states and its mode its need of one. -/
theorem State.lineTapped_of {l : Line} (hk : ∀ p, (t.keg l p).map KegRec.state = (s.keg l p).map KegRec.state)
    (hu : (t.line l).under.onTap ↔ (s.line l).under.onTap) (h : s.lineTapped l) : t.lineTapped l := by
  have ht (p : Position) : t.tapped l p = s.tapped l p := by
    refine State.keg_any_of (f := (· == .onTap)) ?_
    have := congrArg (Option.map (· == KegState.onTap)) (hk p)
    simpa only [Option.map_map, Function.comp_def] using this
  unfold State.lineTapped
  rwa [ht, ht, hu]

/-- The Cleaning Queue holds each line at most once and never a line in CLEANING or OFFLINE (R142). -/
abbrev State.cleanQueueSound (s : State) : Prop :=
  (s.cleaning.queue.map CleanEntry.line).Nodup ∧
  (∀ e ∈ s.cleaning.queue, (s.line e.line).mode ≠ .cleaning ∧ (s.line e.line).mode ≠ .offline)

theorem State.cleanQueueSound_of (he : t.cleaning.queue = s.cleaning.queue)
    (hm : ∀ l, (s.line l).mode ≠ .cleaning → (s.line l).mode ≠ .offline →
      (t.line l).mode ≠ .cleaning ∧ (t.line l).mode ≠ .offline) (h : s.cleanQueueSound) : t.cleanQueueSound :=
  ⟨he ▸ h.1, fun e h' => hm _ (h.2 e (he ▸ h')).1 (h.2 e (he ▸ h')).2⟩

/-- The queues stay sound where the wait queues stay, with the lines they name in place. -/
theorem State.queuesSound_of (hq : ∀ k, (t.trunk k).queue = (s.trunk k).queue)
    (hw : ∀ l, (t.pour l).record.code = 1 ↔ (s.pour l).record.code = 1)
    (hc : ∀ l, (t.line l).cfg.map LineCfg.trunk = (s.line l).cfg.map LineCfg.trunk)
    (hu : ∀ l, (s.pour l).record.code = 1 → (s.line l).under.onTap → (t.line l).under.onTap)
    (hm : s.cleanQueueSound → t.cleanQueueSound) (h : s.queuesSound) : t.queuesSound := by
  have any_of (f : Trunk → Bool) (l : Line) : ((t.line l).cfg.any fun c => f c.trunk) = (s.line l).cfg.any fun c => f c.trunk := by
    have := congrArg (Option.any f) (hc l)
    simpa only [Option.any_map, Function.comp_def] using this
  obtain ⟨h1, h2, h3, h4⟩ := h
  refine ⟨fun k => ?_, fun l hl => ?_, hm ⟨h3, h4⟩⟩
  · rw [hq]
    refine ⟨(h1 k).1, (h1 k).2.1, fun l hl => ?_⟩
    obtain ⟨ha, hb⟩ := (h1 k).2.2 l hl
    exact ⟨(hw l).mpr ha, by rw [← hb]; exact any_of (· == k) l⟩
  · have hl' := (hw l).mp hl
    obtain ⟨ha, hb⟩ := h2 l hl'
    simp only [hq]
    exact ⟨by rw [← ha]; exact any_of (fun k => (s.trunk k).queue.contains l) l, (hu l hl' hb.symm).symm⟩

end

/-- A change that leaves what the invariants read keeps them. -/
theorem Same.keeps {s t : State} (h : Same s t) : Keeps s t where
  accounts := h.accounts
  records := State.recordsSound_of (fun l p k' hk' => by
    obtain ⟨ht, -, hs⟩ := h.kegs l p
    rw [hk', Option.map_some] at ht
    obtain ⟨k, hk, e⟩ := Option.map_eq_some_iff.mp ht.symm
    exact ⟨k, hk, e.symm, fun hks => hs (fun x hx => by rw [hk] at hx; cases hx; exact hks) k' hk'⟩) h.reads h.bus
  lines := State.linesSound_of (fun l => (h.lines l).sound) (fun l => (h.lines l).binding) h.bound h.recv h.slots
  reads _ _ := State.readsTrue_of (fun e _ => by
    have := congrArg (Option.map (· == KegState.verifying)) (h.kegs e.line e.position).state
    simpa only [Option.map_map, Function.comp_def] using this) h.reads h.bus
  tap _ l _ _ _ _ := State.lineTapped_of (fun p => (h.kegs l p).state) (by rw [(h.lines l).under])
  queues _ := State.queuesSound_of h.trunks h.waits (fun l => (h.lines l).trunk)
    (fun l _ hu => by rwa [(h.lines l).under])
    (State.cleanQueueSound_of h.cleanQueue fun l => by rw [(h.lines l).mode]; exact fun a b => ⟨a, b⟩)
  clocks := h.clocks
  valves := h.valves
  idle := by simp only [State.idleSound, h.reads, h.bus]; exact id

end Sys2Proof.Machine
end

section
/-! PROOF. The writes of one record keep the invariants of a step where the record stays sound. -/

namespace Sys2Proof.Machine

/-! ### Patterns of the valve groups (R165) -/

/-- The bits of VG17 that no output has. -/
theorem spare_clear_iff (p : Pattern) : p &&& 0xE0#8 = 0#8 ↔ ∀ c : Fin 8, 5 ≤ c.val → p.getLsbD c.val = false := by
  have mask (c : Fin 8) : (0xE0#8).getLsbD c.val = decide (5 ≤ c.val) := by revert c; decide
  constructor
  · intro h c hc
    have hbit : (p &&& 0xE0#8).getLsbD c.val = false := by rw [h]; exact BitVec.getLsbD_zero
    rwa [BitVec.getLsbD_and, mask, decide_eq_true hc, Bool.and_true] at hbit
  · intro h
    refine BitVec.eq_of_getLsbD_eq fun i hi => ?_
    rw [BitVec.getLsbD_and, mask ⟨i, hi⟩]
    by_cases hc : 5 ≤ i
    · simp [h ⟨i, hi⟩ hc]
    · simp [hc]

/-- Partners are two different outputs, each the partner of the other. -/
theorem partner_symm {g : ValveGroup} {b c : Fin 8} : partner g b = some c → partner g c = some b ∧ c ≠ b := by
  revert g b c; decide

theorem pairSafe_zero (g : ValveGroup) : pairSafe g 0 := by
  intro b c _ h
  simp at h

/-- A pattern with fewer outputs on is as safe. -/
theorem pairSafe.mono {g : ValveGroup} {p q : Pattern} (h : pairSafe g p)
    (hq : ∀ b : Fin 8, q.getLsbD b.val = true → p.getLsbD b.val = true) : pairSafe g q :=
  fun b c hc ⟨hb, hd⟩ => h b c hc ⟨hq b hb, hq c hd⟩

/-- An owner request keeps the members of each pair apart. -/
theorem pairSafe_askBit {g : ValveGroup} {p : Pattern} (h : pairSafe g p) (b : Fin 8) (on : Bool) :
    pairSafe g (askBit g p b on) := by
  intro x y hxy ⟨hx, hy⟩
  rw [getLsbD_askBit] at hx hy
  split at hx
  · cases hx
  rename_i hnx
  split at hy
  · cases hy
  rename_i hny
  obtain ⟨hyx, hne⟩ := partner_symm hxy
  by_cases ex : x = b
  · subst ex
    rw [if_pos rfl] at hx
    exact hny ⟨hx, hxy⟩
  by_cases ey : y = b
  · subst ey
    rw [if_pos rfl] at hy
    exact hnx ⟨hy, hyx⟩
  rw [if_neg ex] at hx
  rw [if_neg ey] at hy
  exact h x y hxy ⟨hx, hy⟩

section
variable (s : State)

/-- The patterns of a group stay sound on their own, with VG16 never pending and the spare bits of VG17 clear. -/
structure GroupKept (g : ValveGroup) (x : GroupPatterns) : Prop where
  sound : x.sound g
  direct : g = 16 → x.turnOn = false
  spare : g = 17 → x.next &&& 0xE0#8 = 0#8 ∧ x.snapshot &&& 0xE0#8 = 0#8 ∧ x.current &&& 0xE0#8 = 0#8

theorem State.valvesSound_iff : s.valvesSound ↔ ∀ g, GroupKept g (s.valve g) := by
  constructor
  · rintro ⟨h, h16, h17⟩ g
    exact ⟨h g, fun e => e ▸ h16, fun e => e ▸ h17⟩
  · exact fun h => ⟨fun g => (h g).sound, (h 16).direct rfl, (h 17).spare rfl⟩

theorem State.setValve_keeps {g : ValveGroup} {x : GroupPatterns} (h : GroupKept g (s.valve g) → GroupKept g x) :
    Keeps s (s.setValve g x) := by
  refine Same.keeps { valves := fun hs => ?_ }
  rw [State.valvesSound_iff] at hs ⊢
  intro k
  by_cases e : k = g
  · subst e; simpa using h (hs k)
  · rw [State.valve_setValve_ne _ _ _ _ e]; exact hs k

/-- An owner request of an output that the group has keeps the invariants. -/
theorem State.ask_keeps (g : ValveGroup) (b : Fin 8) (on : Bool) (hb : g = 17 → b.val < 5 := by decide) :
    Keeps s (s.ask g b on) :=
  s.setValve_keeps fun ⟨⟨hn, hs, hc, ht⟩, h16, h17⟩ => by
    refine ⟨⟨pairSafe_askBit hn b on, hs, hc, ht⟩, h16, fun e => ⟨?_, (h17 e).2⟩⟩
    have h := (spare_clear_iff _).mp (h17 e).1
    refine (spare_clear_iff _).mpr fun c hc => ?_
    have hcb : c ≠ b := fun e' => by have := hb e; omega
    rw [getLsbD_askBit, if_neg hcb, h c hc, ite_self]

theorem State.askProduct_keeps (l : Line) (on : Bool) : Keeps s (s.askProduct l on) :=
  s.ask_keeps _ _ _ fun e => by have := congrArg Fin.val e; simp [lineGroup] at this; omega
theorem State.askCleaning_keeps (l : Line) (on : Bool) : Keeps s (s.askCleaning l on) :=
  s.ask_keeps _ _ _ fun e => by have := congrArg Fin.val e; simp [lineGroup] at this; omega
theorem State.askSelector_keeps (l : Line) (p : Position) (on : Bool) : Keeps s (s.askSelector l p on) :=
  s.ask_keeps _ _ _ fun e => by have := congrArg Fin.val e; simp [selectorGroup] at this; omega

theorem State.askValves_keeps (l : Line) : Keeps s (s.askValves l) := by
  unfold State.askValves
  split
  · exact (s.askProduct_keeps ..).trans (State.askCleaning_keeps ..)
  · exact (s.askCleaning_keeps ..).trans (State.askProduct_keeps ..)

end

/-! ### Writes of which the invariants say nothing -/

section
variable (s : State)

theorem State.reply_keeps (st : Status) (bs : List Byte) : Keeps s (s.reply st bs) := Same.keeps {}
theorem State.ok_keeps (bs : List Byte) : Keeps s (s.ok bs) := Same.keeps {}
theorem State.refuse_keeps (st : Status) : Keeps s (s.refuse st) := Same.keeps {}
theorem State.setLink_keeps (x : Link) : Keeps s (s.setLink x) := Same.keeps {}
theorem State.setAttention_keeps (x : Attention) : Keeps s (s.setAttention x) := Same.keeps {}
theorem State.raise_keeps (k : LineKind) (l : Line) : Keeps s (s.raise k l) := s.setAttention_keeps _
theorem State.raiseSet_keeps (k : LineKind) (ls : LineSet) : Keeps s (s.raiseSet k ls) := s.setAttention_keeps _
theorem State.setGroup_keeps (g : Option Group) : Keeps s (s.setGroup g) := Same.keeps {}
theorem State.setTiming_keeps (t : Timing) : Keeps s (s.setTiming t) := Same.keeps {}
theorem State.storeK_keeps (l : Line) (k : Nat) : Keeps s (s.storeK l k) := Same.keeps {}
theorem State.setRole_keeps (r : Fin 15) (x : RoleRec) : Keeps s (s.setRole r x) := Same.keeps {}
theorem State.setScanner_keeps (x : Scanner) : Keeps s (s.setScanner x) := Same.keeps {}
theorem State.setChiller_keeps (x : Chiller) : Keeps s (s.setChiller x) := Same.keeps {}

theorem State.askShift_keeps : Keeps s s.askShift := by
  rcases s.askShift_cases with ⟨-, h⟩ | ⟨-, h⟩ <;> rw [h] <;> exact Same.keeps {}

theorem State.setLastEnrol_keeps (l : Line) (o : Option LastEnrol) : Keeps s (s.setLastEnrol l o) := by
  refine Same.keeps { kegs := fun m p => ?_ }
  have : (s.setLastEnrol l o).keg m p = s.keg m p := by
    by_cases e : m = l
    · subst e; cases p <;> simp [State.keg, State.setLastEnrol, KegSlots.at]
    · simp [State.keg, State.setLastEnrol, State.kegSlots_setKegSlots_ne _ _ _ _ e]
  rw [this]
  exact .refl _

end

/-! ### Writes of a record that stays sound -/

section
variable {s : State}

theorem State.setLine_keeps {l : Line} {r : LineRec} (h : LineKept (s.line l) r) : Keeps s (s.setLine l r) := by
  refine Same.keeps { lines := fun m => ?_ }
  by_cases e : m = l
  · subst e; simpa using h
  · rw [State.line_setLine_ne _ _ _ _ e]; exact .refl _

theorem State.setPour_keeps {l : Line} {x : PourSlot} (h : x.record.code = 1 ↔ (s.pour l).record.code = 1) :
    Keeps s (s.setPour l x) := by
  refine Same.keeps { waits := fun m => ?_ }
  by_cases e : m = l
  · subst e; simpa using h
  · rw [State.pour_setPour_ne _ _ _ _ e]

theorem State.setRecord_keeps {l : Line} {r : PourRec} (h : r.code = 1 ↔ (s.pour l).record.code = 1) :
    Keeps s (s.setRecord l r) := State.setPour_keeps h

theorem State.setShown_keeps (l : Line) (r : Option RefusalReason) : Keeps s (s.setShown l r) := State.setPour_keeps Iff.rfl

theorem State.setTrunk_keeps {k : Trunk} {d : TrunkDraw} (h : d.queue = (s.trunk k).queue) : Keeps s (s.setTrunk k d) := by
  refine Same.keeps { trunks := fun m => ?_ }
  by_cases e : m = k
  · subst e; simpa using h
  · rw [State.trunk_setTrunk_ne _ _ _ _ e]

theorem State.setKeg_keeps {l : Line} {p : Position} {r : Option KegRec} (h : KegKept (s.keg l p) r) :
    Keeps s (s.setKeg l p r) := by
  refine Same.keeps { kegs := fun m q => ?_ }
  by_cases e : m = l ∧ q = p
  · obtain ⟨rfl, rfl⟩ := e; simpa using h
  · rw [State.keg_setKeg_ne _ _ _ _ _ _ (by tauto)]; exact .refl _

theorem State.onKeg_keeps {l : Line} {p : Position} {f : KegRec → KegRec} (ht : ∀ k, (f k).tag = k.tag)
    (hs : ∀ k, (f k).state = k.state) (hd : ∀ k : KegRec, k.sound → (f k).sound) : Keeps s (s.onKeg l p f) := by
  unfold State.onKeg
  split
  · rename_i k hk
    exact State.setKeg_keeps (hk ▸ ⟨by simp [ht], by simp [hs], by simpa using hd k⟩)
  · exact .refl s

theorem State.setAccount_keeps {i : AccountIx} {a : Option Account} (h : s.accountsSound → ∀ b ∈ a, b.sound) :
    Keeps s (s.setAccount i a) := by
  refine Same.keeps { accounts := fun hs j b hb => ?_ }
  by_cases e : j = i
  · subst e; exact h hs b (by simpa using hb)
  · rw [State.account_setAccount_ne _ _ _ _ e] at hb; exact hs j b hb

theorem State.setZone_keeps {k : Trunk} {z : Zone}
    (h : ((s.zone k).duty ≤ 16 ∧ (s.zone k).bias ≤ 16 ∧ (s.zone k).warn ≤ (s.zone k).stop) →
      z.duty ≤ 16 ∧ z.bias ≤ 16 ∧ z.warn ≤ z.stop) : Keeps s (s.setZone k z) :=
  Same.keeps { clocks := fun ⟨hc, hp, hl, hw, hz, hb, hi, ha, hb'⟩ => by
                 refine ⟨hc, hp, hl, hw, fun m => ?_, hb, hi, ha, hb'⟩
                 by_cases e : m = k
                 · subst e; simpa using h (hz m)
                 · simpa [State.zone, look_put_ne _ _ _ _ e] using hz m }

/-- The ranges of a boost in force (R137). -/
def Boost.sound (x : Boost) : Prop := 1 ≤ x.offset ∧ x.offset ≤ 64 ∧ 1 ≤ x.remaining ∧ x.remaining ≤ 255

theorem State.setBoost_keeps {b : Option Boost} (h : (∀ x ∈ s.climate.boost, x.sound) → ∀ x ∈ b, x.sound) :
    Keeps s (s.setBoost b) :=
  Same.keeps { clocks := fun ⟨hc, hp, hl, hw, hz, hx, hi, ha, hb⟩ => ⟨hc, hp, hl, hw, hz, h hx, hi, ha, hb⟩ }

theorem State.setWindow_keeps {n : Nat} (h : n < 16) : Keeps s (s.setWindow n) :=
  Same.keeps { clocks := fun ⟨hc, hp, hl, _, hz, hb, hi, ha, hb'⟩ => ⟨hc, hp, hl, h, hz, hb, hi, ha, hb'⟩ }

theorem State.setChannel_keeps {c : Channel} {x : TimeChannel} (h : (s.channel c).sound → x.sound) :
    Keeps s (s.setChannel c x) :=
  Same.keeps { clocks := fun ⟨hc, hr⟩ => by
                 refine ⟨fun m => ?_, hr⟩
                 by_cases e : m = c
                 · subst e; simpa using h (hc m)
                 · simpa [State.channel, look_put_ne _ _ _ _ e] using hc m }

/-- A loop record that keeps its slot count and which of its slots are bound, and stays sound, keeps the invariants. -/
theorem State.setLoop_keeps {i : LoopId} {r : LoopRec} (hn : r.slotCount = (s.loop i).slotCount)
    (hr : ∀ k, (look r.recv k).isSome = (look (s.loop i).recv k).isSome) (hs : (s.loop i).sound → r.sound) :
    Keeps s (s.setLoop i r) := by
  have hrecv (b : Binding) : ((s.setLoop i r).recv b).isSome = (s.recv b).isSome := by
    by_cases e : b.loop = i
    · subst e; simpa [State.recv] using hr b.slot
    · simp [State.recv, State.loop_setLoop_ne _ _ _ _ e]
  have hslots (j : LoopId) : ((s.setLoop i r).loop j).slotCount = (s.loop j).slotCount := by
    by_cases e : j = i
    · subst e; simpa using hn
    · rw [State.loop_setLoop_ne _ _ _ _ e]
  have hsound (j : LoopId) (h : (s.loop j).sound) : ((s.setLoop i r).loop j).sound := by
    by_cases e : j = i
    · subst e; simpa using hs h
    · rwa [State.loop_setLoop_ne _ _ _ _ e]
  have hclocks : s.clocksSound → (s.setLoop i r).clocksSound := fun ⟨hc, hp, hl, hw, hz, hb, hi, ha, hb'⟩ =>
    have other : (s.setLoop i r).timebase = s.timebase ∧ (s.setLoop i r).climate = s.climate := by simp
    ⟨fun c => by simpa only [State.channel, other] using hc c, by rwa [other.1], by rwa [other.1], by rwa [other.2],
      fun k => by simpa only [State.zone, other] using hz k, by rwa [other.2],
      fun a b => by simpa only [State.input, other] using hi a b, hsound .A ha, hsound .B hb'⟩
  cases i <;> exact Same.keeps { recv := hrecv, slots := hslots, clocks := hclocks }

end

end Sys2Proof.Machine
end

section
/-! PROOF. The changes of lines with their kegs (R5 to R13, R70, R71, R84) keep the invariants of a step: a line and its keg on tap
change together. -/

namespace Sys2Proof.Machine

/-! ### One line and its kegs -/

section
variable {s : State} {l : Line} {P : Prop}

/-- A line record that stays sound on its binding and trunk, that keeps its keg on tap while its pour waits, and that neither goes
into CLEANING nor OFFLINE, guards the invariants. -/
theorem State.setLine_guards {r : LineRec} (hs : (s.line l).sound → r.sound)
    (hb : r.cfg.map LineCfg.binding = (s.line l).cfg.map LineCfg.binding)
    (ht : r.cfg.map LineCfg.trunk = (s.line l).cfg.map LineCfg.trunk)
    (hu : (s.line l).sound → (s.pour l).record.code = 1 → (s.line l).under.onTap → r.under.onTap)
    (hm : (s.line l).sound → (s.line l).mode ≠ .cleaning → (s.line l).mode ≠ .offline → r.mode ≠ .cleaning ∧ r.mode ≠ .offline) :
    Guards (some l) P s (s.setLine l r) := by
  have at_line {f : Line → LineRec → Prop} (h : f l r) (h' : ∀ m, m ≠ l → f m (s.line m)) (m : Line) :
      f m ((s.setLine l r).line m) := by
    by_cases e : m = l
    · subst e; simpa using h
    · rw [State.line_setLine_ne _ _ _ _ e]; exact h' m e
  exact {
    accounts := id
    records := id
    lines := State.linesSound_of (at_line (f := fun m x => (s.line m).sound → x.sound) hs fun _ _ => id)
      (at_line (f := fun m x => x.cfg.map LineCfg.binding = (s.line m).cfg.map LineCfg.binding) hb fun _ _ => rfl)
      (fun _ => rfl) (fun _ => rfl) fun _ => rfl
    reads := fun _ _ => id
    tap := fun _ m hm _ _ _ => State.lineTapped_of (s := s) (fun _ => rfl)
      (by rw [State.line_setLine_ne _ _ _ _ fun e => hm (congrArg some e.symm)])
    queues := fun hl => State.queuesSound_of (fun _ => rfl) (fun _ => Iff.rfl)
      (at_line (f := fun m x => x.cfg.map LineCfg.trunk = (s.line m).cfg.map LineCfg.trunk) ht fun _ _ => rfl)
      (at_line (f := fun m x => (s.pour m).record.code = 1 → (s.line m).under.onTap → x.under.onTap) (hu (hl.1 l)) fun _ _ _ => id)
      (State.cleanQueueSound_of rfl (at_line (f := fun m x => (s.line m).mode ≠ .cleaning → (s.line m).mode ≠ .offline →
        x.mode ≠ .cleaning ∧ x.mode ≠ .offline) (hm (hl.1 l)) fun _ _ a b => ⟨a, b⟩))
    clocks := id
    valves := id }

/-- A keg record with its tag, VERIFYING or not as before, that stays sound guards the invariants. -/
theorem State.setKeg_guards {p : Position} {k k' : KegRec} (hk : s.keg l p = some k) (ht : k'.tag = k.tag)
    (hs : k.sound → k'.sound) (hv : k'.state = .verifying ↔ k.state = .verifying) :
    Guards (some l) P s (s.setKeg l p (some k')) := by
  have other (m : Line) (q : Position) (h : ¬(m = l ∧ q = p)) : (s.setKeg l p (some k')).keg m q = s.keg m q :=
    State.keg_setKeg_ne _ _ _ _ _ _ (by tauto)
  exact {
    accounts := id
    records := State.recordsSound_of (fun m q x hx => by
      by_cases e : m = l ∧ q = p
      · obtain ⟨rfl, rfl⟩ := e
        simp only [State.keg_setKeg_same, Option.mem_def, Option.some.injEq] at hx
        exact ⟨k, hk, hx ▸ ht, hx ▸ hs⟩
      · rw [other _ _ e] at hx
        exact ⟨x, hx, rfl, id⟩) rfl rfl
    lines := id
    reads := fun _ _ => State.readsTrue_of (fun e _ => by
      by_cases h : e.line = l ∧ e.position = p
      · obtain ⟨rfl, rfl⟩ := h
        rw [State.keg_setKeg_same, hk, Option.map_some, Option.map_some, Option.some.injEq, Bool.eq_iff_iff]
        simpa only [beq_iff_eq] using hv
      · rw [other _ _ h]) rfl rfl
    tap := fun _ m hm _ _ _ => State.lineTapped_of (s := s) (fun q => by rw [other _ _ fun e => hm (congrArg some e.1.symm)]) Iff.rfl
    queues := fun _ => id
    clocks := id
    valves := id }

theorem State.setKegState_guards {p : Position} {x : KegState} (hx : x ≠ .verifying)
    (hv : ∀ k ∈ s.keg l p, k.state ≠ .verifying) : Guards (some l) P s (s.setKegState l p x) := by
  unfold State.setKegState
  split
  · rename_i k hk
    exact State.setKeg_guards hk rfl id (by simp [hx, hv k hk])
  · exact (Keeps.refl s).guards

/-! ### Which keg is on tap -/

theorem State.tapped_setKegState (q p : Position) (x : KegState) :
    (s.setKegState l p x).tapped l q = if q = p then (s.keg l p).isSome && x == .onTap else s.tapped l q := by
  unfold State.setKegState State.tapped
  by_cases e : q = p
  · subst e
    cases hk : s.keg l q <;> simp [hk]
  · rw [if_neg e]
    cases hk : s.keg l p <;> simp [State.keg_setKeg_ne, e]

theorem State.setKegState_frame (p : Position) (x : KegState) :
    s.setKegState l p x = { s with kegRegister := { s.kegRegister with kegs := (s.setKegState l p x).kegRegister.kegs } } := by
  unfold State.setKegState
  split <;> rfl

theorem State.onTap_eq (s : State) (l : Line) :
    s.onTap l = if s.tapped l .A = true then some .A else if s.tapped l .B = true then some .B else none := rfl

theorem State.onTap_cases (s : State) (l : Line) :
    (∃ p, s.onTap l = some p ∧ s.tapped l p = true) ∨ s.onTap l = none ∧ ∀ p, s.tapped l p = false := by
  rw [State.onTap_eq]
  by_cases ha : s.tapped l .A = true
  · exact .inl ⟨.A, by rw [if_pos ha], ha⟩
  by_cases hb : s.tapped l .B = true
  · exact .inl ⟨.B, by rw [if_neg ha, if_pos hb], hb⟩
  · right
    refine ⟨by rw [if_neg ha, if_neg hb], fun p => ?_⟩
    cases p
    · simpa using ha
    · simpa using hb

theorem State.tapped_of_onTap {p : Position} (h : s.onTap l = some p) : s.tapped l p = true := by
  obtain ⟨q, hq, ht⟩ | ⟨hn, -⟩ := s.onTap_cases l
  · rw [h] at hq; cases hq; exact ht
  · rw [h] at hn; cases hn

theorem State.tapped_of_onTap_none (h : s.onTap l = none) (p : Position) : s.tapped l p = false := by
  obtain ⟨q, hq, -⟩ | ⟨-, ht⟩ := s.onTap_cases l
  · rw [h] at hq; cases hq
  · exact ht p

theorem State.keg_of_tapped {p : Position} (h : s.tapped l p = true) : ∃ k, s.keg l p = some k ∧ k.state = .onTap := by
  unfold State.tapped at h
  cases hk : s.keg l p with
  | none => simp [hk] at h
  | some k => exact ⟨k, rfl, by simpa [hk] using h⟩

theorem State.keg_of_eligible {p : Position} (h : s.eligible l p = true) :
    ∃ k, s.keg l p = some k ∧ k.state = .standby ∧ k.checkFailed = false := by
  unfold State.eligible at h
  cases hk : s.keg l p with
  | none => simp [hk] at h
  | some k => exact ⟨k, rfl, by simpa [hk] using h⟩

@[simp] theorem Position.other_ne (p : Position) : p.other ≠ p := by cases p <;> nofun
theorem Position.eq_other {p q : Position} (h : q ≠ p) : q = p.other := by
  cases p <;> cases q <;> simp [Position.other] at h ⊢
@[simp] theorem Position.other_other (p : Position) : p.other.other = p := by cases p <;> rfl

/-- With one keg on tap and not the other, the line is one whose mode has a keg. -/
theorem State.lineTapped_of_one {p : Position} (hp : s.tapped l p = true) (ho : s.tapped l p.other = false)
    (hm : (s.line l).under.onTap) : s.lineTapped l := by
  cases p <;> simp_all [State.lineTapped, Position.other]

theorem State.lineTapped_of_none (h : ∀ p, s.tapped l p = false) (hm : ¬(s.line l).under.onTap) : s.lineTapped l := by
  simp_all [State.lineTapped]

theorem State.lineTapped.other {p : Position} (h : s.lineTapped l) (hp : s.tapped l p = true) : s.tapped l p.other = false := by
  cases p <;> simp_all [State.lineTapped, Position.other]

theorem State.lineTapped.under {p : Position} (h : s.lineTapped l) (hp : s.tapped l p = true) : (s.line l).under.onTap := by
  cases p <;> simp_all [State.lineTapped]

theorem State.lineTapped.none (h : s.lineTapped l) (hm : ¬(s.line l).under.onTap) (p : Position) : s.tapped l p = false := by
  cases p <;> simp_all [State.lineTapped]

/-! ### A keg goes on tap (R5, R9, R70) -/

theorem State.putOnTap_eq_some {t : State} {p : Position} (h : s.putOnTap l p = some t) :
    s.eligible l p = true ∧ s.onTap l = none ∧ t = (s.setKegState l p .onTap).askSelector l p true := by
  simp only [State.putOnTap, Option.ite_none_right_eq_some, Bool.and_eq_true, Option.isNone_iff_eq_none, Option.some.injEq] at h
  exact ⟨h.1.1, h.1.2, h.2.symm⟩

/-- What a keg put on tap leaves: all but its own record and its selector. -/
theorem State.putOnTap_frame {t : State} {p : Position} (h : s.putOnTap l p = some t) :
    t = { s with kegRegister := { s.kegRegister with kegs := t.kegRegister.kegs }
                 valves := { s.valves with groups := t.valves.groups } } := by
  obtain ⟨-, -, rfl⟩ := State.putOnTap_eq_some h
  rw [State.setKegState_frame]
  rfl

theorem State.putOnTap_guards {t : State} {p : Position} (h : s.putOnTap l p = some t) :
    Guards (some l) P s t ∧ t.tapped l p = true ∧ t.tapped l p.other = false := by
  obtain ⟨he, hn, rfl⟩ := State.putOnTap_eq_some h
  obtain ⟨k, hk, hst, -⟩ := State.keg_of_eligible he
  refine ⟨(State.setKegState_guards (x := .onTap) nofun fun k' hk' => ?_).trans ((State.askSelector_keeps ..).guards),
    (State.tapped_setKegState ..).trans (by simp [hk]),
    (State.tapped_setKegState ..).trans (by simp [State.tapped_of_onTap_none hn])⟩
  rw [hk] at hk'
  cases hk'
  simp [hst]

/-- A line with a keg put on tap changes to a mode with a keg. -/
theorem State.changeLine_onTap_keeps {t : State} {p : Position} (h : s.putOnTap l p = some t) {r : LineRec}
    (hs : (s.line l).sound → r.sound) (hc : r.cfg = (s.line l).cfg) (hu : r.under.onTap)
    (hm : r.mode ≠ .cleaning ∧ r.mode ≠ .offline) : Keeps s (t.changeLine l r) := by
  obtain ⟨hg, hp, ho⟩ := State.putOnTap_guards h
  have hl : t.line l = s.line l := by rw [State.putOnTap_frame h]; rfl
  have hset : Guards (some l) True t (t.setLine l r) :=
    State.setLine_guards (hl ▸ hs) (by rw [hl, hc]) (by rw [hl, hc]) (fun _ _ _ => hu) fun _ _ _ => hm
  refine ((hg.trans hset).keeps (fun _ _ => ?_) ?_).trans (State.askValves_keeps _ l)
  · exact State.lineTapped_of_one (p := p) hp ho (by simpa using hu)
  · rw [State.putOnTap_frame h]; exact id

/-- PRIMING of a WATER line (R5). -/
theorem State.startPriming_keeps {t : State} (hm : (s.line l).mode = .water) (h : s.startPriming l = .ok t) : Keeps s t := by
  unfold State.startPriming at h
  split at h
  · cases h
  split at h
  · cases h
  split at h
  · cases h
  rename_i p _ u hu
  cases h
  have hl : u.line l = s.line l := by rw [State.putOnTap_frame hu]; rfl
  refine State.changeLine_onTap_keeps hu (fun hs => ?_) (by rw [hl]) (.inl ?_) ⟨by simp, by simp⟩
  · obtain ⟨h1, h2, h3, h4, h5⟩ := hs
    simp [hm] at h1 h2
    simp [LineRec.sound, LineRec.under, hl, h1, h2]
    exact h5
  · rfl

/-- A DRY line back on tap (R5, R9). -/
theorem State.dryToReady_keeps (hm : (s.line l).mode = .dry) (p : Position) : Keeps s (s.dryToReady l p) := by
  unfold State.dryToReady
  split
  · exact .refl s
  rename_i u hu
  have hl : u.line l = s.line l := by rw [State.putOnTap_frame hu]; rfl
  refine (State.changeLine_onTap_keeps hu (fun hs => ?_) (by rw [hl]) (.inr rfl) ⟨by simp, by simp⟩).trans (State.raise_keeps ..)
  obtain ⟨h1, h2, h3, h4, h5⟩ := hs
  simp [hm] at h1 h2
  simp [LineRec.under, hm, h2] at h4
  simp [LineRec.sound, LineRec.under, hl, h1, h2, h4]
  exact h5

theorem State.kegVerified_keeps (p : Position) : Keeps s (s.kegVerified l p) := by
  unfold State.kegVerified
  split
  · rename_i h
    exact State.dryToReady_keeps h.1 p
  · exact .refl s

end

end Sys2Proof.Machine
end

section
/-! PROOF. What the kegs and the cleaning do to a line (R7, R8, R12, R13, R71, R82 to R84, R88) keeps the invariants of a step. -/

namespace Sys2Proof.Machine

section
variable {s : State} {l : Line} {P : Prop}

/-! ### Records of which the invariants read nothing that changes -/

/-- A line record with other totals, counts, results or last product keg, or with a learned tail in its range. -/
theorem LineKept.of_cfg {r r' : LineRec} (hm : r'.mode = r.mode) (hh : r'.heldFrom = r.heldFrom)
    (hp : r'.primed.isSome = r.primed.isSome)
    (hc : r'.cfg = r.cfg ∨ ∃ c n, r.cfg = some c ∧ n ≤ 40000000 ∧ r'.cfg = some { c with tail := n }) : LineKept r r' := by
  have hu : r'.under = r.under := by simp only [LineRec.under, hm, hh]
  rcases hc with hc | ⟨c, n, hr, hn, hc⟩
  · exact ⟨by simp only [LineRec.sound, hm, hh, hp, hc, hu]; exact id, by rw [hc], by rw [hc], hu, hm⟩
  · refine ⟨fun h => ?_, by rw [hc, hr]; rfl, by rw [hc, hr]; rfl, hu, hm⟩
    obtain ⟨h1, h2, h3, h4, -⟩ := h
    refine ⟨by rw [hm, h1, hr, hc]; simp, by rwa [hm, hh], by rwa [hh], by rwa [hp, hu], fun d hd => ?_⟩
    rw [hc] at hd
    cases hd
    exact hn

theorem State.addPour_keeps (account vml billed unbilled : Nat) (warm : Bool) :
    Keeps s (s.addPour l account vml billed unbilled warm) := State.setLine_keeps (.of_cfg rfl rfl rfl (.inl rfl))
theorem State.addPurgeLoss_keeps (fill : Nat) : Keeps s (s.addPurgeLoss l fill) :=
  State.setLine_keeps (.of_cfg rfl rfl rfl (.inl rfl))
theorem State.countSaturated_keeps : Keeps s (s.countSaturated l) := State.setLine_keeps (.of_cfg rfl rfl rfl (.inl rfl))

theorem State.countIfSaturated_keeps (a : Arrival) : Keeps s (s.countIfSaturated l a) := by
  unfold State.countIfSaturated
  split
  · exact State.countSaturated_keeps
  · exact .refl s

theorem learnTail_le (tail measured : Nat) : learnTail tail measured ≤ 40000000 := by
  simp only [learnTail, clampInt]
  omega

theorem State.teach_keeps (p : Pour) (reason : CloseReason) (ending : Ending) (measured : Nat) :
    Keeps s (s.teach l p reason ending measured) := by
  unfold State.teach
  split
  · split
    · rename_i c hc
      exact State.setLine_keeps (.of_cfg rfl rfl rfl (.inr ⟨c, _, hc, learnTail_le .., rfl⟩))
    · exact .refl s
  · exact .refl s

/-! ### Charges on a keg (R69) -/

theorem KegRec.withShares_sound {k : KegRec} (h : k.sound) (b u o n : Nat) : (k.withShares b u o n).sound := by
  simp only [KegRec.sound, KegRec.withShares, maxTotal] at h ⊢
  omega

theorem KegRec.addLoss_sound {k : KegRec} (h : k.sound) (n : Nat) : (k.addLoss n).sound := by
  simp only [KegRec.sound, KegRec.addLoss, KegRec.limit, maxTotal] at h ⊢
  omega

theorem KegRec.settled_eq (k : KegRec) (a : Amounts) (reason : CloseReason) (vml : Nat) :
    k.settled a reason vml = { k.withShares a.billed a.unbilled a.house a.loss with
      suspect := if reason ≠ .lowFlow ∧ vml ≥ 50 then false else k.suspect } := by
  simp only [KegRec.settled, KegRec.charge_eq_withShares]
  split <;> rfl

theorem State.kegSettled_keeps (a : Amounts) (reason : CloseReason) (vml : Nat) : Keeps s (s.kegSettled l a reason vml) := by
  unfold State.kegSettled
  split
  · exact State.onKeg_keeps (fun k => by rw [k.settled_eq]; rfl) (fun k => by rw [k.settled_eq]; rfl)
      fun k h => by rw [k.settled_eq]; exact KegRec.withShares_sound h ..
  · exact .refl s

theorem State.purgeLoss_keeps (fill : Nat) (q : Option Position) : Keeps s (s.purgeLoss l fill q) := by
  unfold State.purgeLoss
  split
  · exact .refl s
  split
  · rename_i k hk
    split
    · exact .refl s
    · exact State.setKeg_keeps (hk ▸ ⟨rfl, rfl, by simpa using fun h => KegRec.addLoss_sound h fill⟩)
  · exact .refl s

/-! ### Priming settles (R7) -/

theorem State.settlePrime_keeps (vml loss : Nat) : Keeps s (s.settlePrime l vml loss) := by
  simp only [State.settlePrime]
  split
  · rename_i c before hm hc hp
    have hsnd (h : (s.line l).sound) : (s.line l).heldFrom = none := by
      have := h.2.1
      simpa [hm] using this
    split
    · refine Keeps.trans ?_ ((State.askValves_keeps ..).trans (State.raise_keeps ..))
      refine (State.setLine_guards (fun h => ?_) (by rfl) (by rfl) (fun _ _ _ => .inr ?_) fun _ _ _ => ?_).keeps
        (fun _ h => ?_) id
      · have hh := hsnd h
        obtain ⟨h1, -, -, -, h5⟩ := h
        simp [LineRec.sound, LineRec.under, hh, hc]
        simpa [hc] using h5
      · rfl
      · exact ⟨by simp, by simp⟩
      · refine State.lineTapped_of (s := s) (fun _ => rfl) ?_ h
        simp [LineRec.under, hm, Mode.onTap]
    · exact State.setLine_keeps (.of_cfg rfl rfl (by simp [hp]) (.inl rfl))
  · exact .refl s

/-! ### A keg leaves its tap (R8, R83, R84) -/

theorem State.askValves_frame :
    s.askValves l = { s with valves := { s.valves with groups := (s.askValves l).valves.groups } } := by
  unfold State.askValves
  split <;> rfl

theorem State.changeLine_frame (r : LineRec) :
    s.changeLine l r = { s.setLine l r with valves := { s.valves with groups := (s.changeLine l r).valves.groups } } := by
  unfold State.changeLine
  rw [State.askValves_frame]
  rfl

theorem State.kegReport_frame (q : Option Position) :
    s.kegReport l q = { s with
      lineTable := { s.lineTable with lines := (s.kegReport l q).lineTable.lines }
      valves := { s.valves with groups := (s.kegReport l q).valves.groups }
      link := { s.link with attention := (s.kegReport l q).link.attention } } := by
  cases q with
  | some p => simp only [State.kegReport]; split <;> rfl
  | none =>
    simp only [State.kegReport]
    split
    · rw [State.changeLine_frame]; rfl
    split
    · rw [State.changeLine_frame]; rfl
    · rfl

theorem State.kegReport_some_keeps (p : Position) : Keeps s (s.kegReport l (some p)) := by
  simp only [State.kegReport]
  split
  · exact State.setLine_keeps (.of_cfg rfl rfl rfl (.inl rfl))
  · exact .refl s

/-- The line of a keg that left its tap with none to follow: DRY, or to be DRY when it is released. -/
theorem State.kegReport_none_guards (hw : (s.pour l).record.code ≠ 1) : Guards (some l) P s (s.kegReport l none) := by
  simp only [State.kegReport]
  split
  · rename_i hm
    refine Guards.trans ?_ (((State.askValves_keeps ..).trans (State.raise_keeps ..)).guards)
    refine State.setLine_guards (fun h => ?_) rfl rfl (fun _ h => absurd h hw) fun _ _ _ => ⟨by simp, by simp⟩
    obtain ⟨h1, h2, -, -, h5⟩ := h
    have hh : (s.line l).heldFrom = none := by rcases hm with hm | hm <;> simpa [hm] using h2
    have hc : (s.line l).cfg ≠ none := by rcases hm with hm | hm <;> simpa [hm] using h1
    simpa [LineRec.sound, LineRec.under, hh, hc] using h5
  split
  · rename_i hm
    refine Guards.trans ?_ (((State.askValves_keeps ..).trans (State.raise_keeps ..)).guards)
    refine State.setLine_guards (fun h => ?_) rfl rfl (fun _ h => absurd h hw) fun _ _ _ => ⟨by simp [hm], by simp [hm]⟩
    obtain ⟨h1, h2, h3, h4, h5⟩ := h
    obtain ⟨m, hh⟩ := Option.isSome_iff_exists.mp (h2.mp hm)
    have hc : (s.line l).cfg ≠ none := by simpa [hm] using h1
    simp only [LineRec.under, hm, hh, Option.mem_def, Option.some.injEq, forall_eq'] at h3 h4 ⊢
    split
    · exact ⟨by simp [hc], by simp, by simp [Mode.holdable], by simp [LineRec.under], h5⟩
    · rename_i hn
      simp only [not_or] at hn
      exact ⟨by simp [hc], by simp, by simpa using h3, by simp [LineRec.under, hn.2], h5⟩
  · exact (Keeps.refl s).guards

/-- What a changeover leaves: all but the line's record, a keg's, next patterns and the attention set. -/
theorem State.changeover_frame (p : Position) :
    s.changeover l p = { s with
      lineTable := { s.lineTable with lines := (s.changeover l p).lineTable.lines }
      kegRegister := { s.kegRegister with kegs := (s.changeover l p).kegRegister.kegs }
      valves := { s.valves with groups := (s.changeover l p).valves.groups }
      link := { s.link with attention := (s.changeover l p).link.attention } } := by
  unfold State.changeover
  split <;> rw [State.kegReport_frame]
  rw [State.setKegState_frame]
  rfl

theorem State.changeover_guards (p : Position) (hw : (s.pour l).record.code ≠ 1) :
    Guards (some l) P s (s.changeover l p) := by
  unfold State.changeover
  split
  · rename_i q hq
    have he : s.eligible l q = true := by
      simp only [State.changeoverTarget, Option.ite_none_right_eq_some, Bool.and_eq_true, Option.some.injEq] at hq
      exact hq.2 ▸ hq.1.1
    obtain ⟨k, hk, hst, -⟩ := State.keg_of_eligible he
    refine ((State.setKegState_guards (x := .onTap) nofun fun k' hk' => ?_).trans ((State.askSelector_keeps ..).guards)).trans
      ((State.kegReport_some_keeps q).guards)
    rw [hk] at hk'
    cases hk'
    simp [hst]
  · exact State.kegReport_none_guards hw

/-- The line after its keg left ON_TAP: a keg across on tap, or a mode without one. -/
theorem State.changeover_tapped {p : Position} (hn : ∀ q, s.tapped l q = false) (hs : (s.line l).sound)
    (hm : (s.line l).under.onTap) : (s.changeover l p).lineTapped l := by
  unfold State.changeover
  split
  · rename_i q hq
    have he : s.eligible l q = true := by
      simp only [State.changeoverTarget, Option.ite_none_right_eq_some, Bool.and_eq_true, Option.some.injEq] at hq
      exact hq.2 ▸ hq.1.1
    obtain ⟨k, hk, -, -⟩ := State.keg_of_eligible he
    have ht (x : Position) : (((s.setKegState l q .onTap).askSelector l q true).kegReport l (some q)).tapped l x =
        if x = q then true else false := by
      rw [State.kegReport_frame]
      exact (State.tapped_setKegState ..).trans (by simp [hk, hn])
    refine State.lineTapped_of_one (p := q) (by simp [ht]) (by simp [ht]) ?_
    have hl : ((s.setKegState l q .onTap).askSelector l q true).line l = s.line l := by rw [State.setKegState_frame]; rfl
    simp only [State.kegReport, hl]
    split
    · simpa [LineRec.under] using hm
    · rwa [hl]
  · have ht (x : Position) : (s.kegReport l none).tapped l x = false := by
      rw [State.kegReport_frame]; exact hn x
    refine State.lineTapped_of_none ht ?_
    have changed_line (r : LineRec) : ((s.changeLine l r).raise .lineDry l).line l = r := by
      rw [State.changeLine_frame]; exact s.line_setLine_same l r
    obtain ⟨-, h2, -, -, -⟩ := hs
    simp only [State.kegReport]
    split
    · rename_i hr
      simp only [changed_line, LineRec.under, Mode.onTap]
      simp
    split
    · rename_i hr
      obtain ⟨m, hh⟩ := Option.isSome_iff_exists.mp (h2.mp hr)
      simp only [LineRec.under, hr, hh, Mode.onTap] at hm
      simp only [changed_line, LineRec.under, hr, hh, Mode.onTap]
      rcases hm with rfl | rfl <;> simp
    · rename_i h1 h3
      exfalso
      unfold LineRec.under at hm
      split at hm
      · contradiction
      · rcases hm with e | e <;> simp [e] at h1

/-- The keg ON_TAP is spent (R84). -/
theorem State.spend_keeps {p : Position} (hp : s.tapped l p = true) (hw : (s.pour l).record.code ≠ 1) :
    Keeps s (s.spend l p) := by
  obtain ⟨k, hk, hst⟩ := State.keg_of_tapped hp
  unfold State.spend
  generalize hu : ((s.setKegState l p .spent).askSelector l p false).raise .kegSpent l = u
  have hg : Guards (some l) True s u := hu ▸
    (State.setKegState_guards (x := .spent) nofun (fun k' hk' => by rw [hk] at hk'; cases hk'; simp [hst])).trans
      (((State.askSelector_keeps ..).trans (State.raise_keeps ..)).guards)
  have hl : u.line = s.line ∧ u.pour = s.pour := by rw [← hu, State.setKegState_frame]; exact ⟨rfl, rfl⟩
  have ht (q : Position) : u.tapped l q = if q = p then false else s.tapped l q := by
    rw [← hu]; exact (State.tapped_setKegState ..).trans (by split <;> simp)
  refine (hg.trans (State.changeover_guards p (by rwa [hl.2]))).keeps (fun hs h => ?_) ?_
  · refine State.changeover_tapped (fun q => ?_) (hl.1 ▸ hs.1 l) (hl.1 ▸ h.under hp)
    rw [ht]
    split
    · rfl
    · have e : q = p.other := Position.eq_other ‹_›
      exact e ▸ h.other hp
  · rw [← hu, State.changeover_frame, State.setKegState_frame]
    exact id

theorem State.lowFlowReport_keeps (hw : (s.pour l).record.code ≠ 1) : Keeps s (s.lowFlowReport l) := by
  unfold State.lowFlowReport
  split
  · exact .refl s
  rename_i p hp
  split
  · exact .refl s
  rename_i k hk
  have kept (b : Bool) : KegKept (s.keg l p) (some { k with lowFlows := satAdd k.lowFlows 1, suspect := b }) :=
    hk ▸ ⟨rfl, rfl, by simp⟩
  have hset := State.setKeg_keeps (kept k.suspect)
  dsimp only
  split
  · refine hset.trans (State.spend_keeps ?_ hw)
    obtain ⟨k', hk', hst⟩ := State.keg_of_tapped (State.tapped_of_onTap hp)
    rw [hk] at hk'
    cases hk'
    simp [State.tapped, hst]
  · refine hset.trans (State.setKeg_keeps ?_)
    rw [State.keg_setKeg_same]
    exact ⟨rfl, rfl, by simp⟩

end

end Sys2Proof.Machine
end

section
/-! PROOF. Holding and releasing a line, and the take and release of a line for cleaning (R10 to R13), keep the invariants of a
step. -/

namespace Sys2Proof.Machine

section
variable {s : State} {l : Line} {P : Prop}

/-! ### LINE_HOLD and LINE_RELEASE (R10, R11) -/

theorem Mode.holdable_iff (m : Mode) : m.holdable = true ↔ m ≠ .offline ∧ m ≠ .held ∧ m ≠ .cleaning ∧ m ≠ .foul := by
  cases m <;> decide

/-- A line held from its mode keeps its keg. -/
theorem State.hold_keeps (h : s.holdRefusal l = none) :
    Keeps s (s.setLine l { s.line l with mode := .held, heldFrom := some (s.line l).mode }) := by
  simp only [State.holdRefusal] at h
  split at h
  · cases h
  rename_i hm
  simp only [not_or] at hm
  obtain ⟨ho, hh, hc, hf⟩ := hm
  have hu (hs : (s.line l).sound) : (s.line l).under = (s.line l).mode := by
    unfold LineRec.under
    split
    · contradiction
    · rfl
  have hu' : ∀ r : LineRec, r.mode = .held → r.heldFrom = some (s.line l).mode → r.under = (s.line l).mode := by
    intro r h1 h2; simp [LineRec.under, h1, h2]
  refine (State.setLine_guards (fun hs => ?_) (by rfl) (by rfl) (fun _ _ ht => ?_) fun _ _ _ => ⟨by simp, by simp⟩).keeps
    (fun hs => State.lineTapped_of (s := s) (fun _ => rfl) ?_) id
  · have hu := hu hs
    obtain ⟨h1, -, -, h4, h5⟩ := hs
    refine ⟨by simpa [ho] using h1, by simp, ?_, by rw [hu' _ rfl rfl, ← hu]; exact h4, h5⟩
    simpa using (Mode.holdable_iff _).mpr ⟨ho, hh, hc, hf⟩
  · rw [hu' _ rfl rfl]
    unfold LineRec.under at ht
    split at ht
    · contradiction
    · exact ht
  · rw [State.line_setLine_same, hu' _ rfl rfl, hu (hs.1 l)]

/-- A HELD line back in the mode it was held from keeps its keg. -/
theorem State.unhold_keeps {m : Mode} (hm : (s.line l).mode = .held) (hh : (s.line l).heldFrom = some m)
    (r : LineRec) (hr : r = { s.line l with mode := m, heldFrom := none }) : Keeps s (s.changeLine l r) := by
  have hu : (s.line l).under = m := by simp [LineRec.under, hm, hh]
  have hu' : r.under = m := by subst hr; simp only [LineRec.under]
  refine Keeps.trans ?_ (State.askValves_keeps _ l)
  have hold (hs : (s.line l).sound) := (Mode.holdable_iff m).mp (hs.2.2.1 m hh)
  refine (State.setLine_guards (fun hs => ?_) (by rw [hr]) (by rw [hr]) (fun _ _ ht => by rw [hu']; exact hu ▸ ht)
    fun hs _ _ => by rw [hr]; exact ⟨(hold hs).2.2.1, (hold hs).1⟩).keeps
    (fun hs => State.lineTapped_of (s := s) (fun _ => rfl) (by rw [State.line_setLine_same, hu', hu])) id
  obtain ⟨ho, hhd, hc, hf⟩ := hold hs
  obtain ⟨h1, -, -, h4, h5⟩ := hs
  rw [hm] at h1
  simp only [LineRec.sound, hu']
  subst hr
  exact ⟨by simpa [ho] using h1, by simp [hhd], by simp, hu ▸ h4, h5⟩

/-! ### The release of a cleaned line (R13) -/

theorem CleanResult.modeAfter_cases (r : CleanResult) : r.modeAfter = .water ∨ r.modeAfter = .foul := by
  cases r <;> simp [CleanResult.modeAfter]

theorem State.releaseLine_keeps (r : CleanResult) : Keeps s (s.releaseLine l r) := by
  simp only [State.releaseLine]
  split
  · rename_i hm
    refine Keeps.trans ?_ (State.askValves_keeps _ l)
    have hne : r.modeAfter ≠ .held ∧ r.modeAfter ≠ .offline ∧ ¬r.modeAfter.onTap := by
      rcases r.modeAfter_cases with e | e <;> rw [e] <;> exact ⟨nofun, nofun, by simp [Mode.onTap]⟩
    obtain ⟨hnh, hno, hnt⟩ := hne
    have hnp : r.modeAfter ≠ .priming := fun e => hnt (.inl e)
    refine (State.setLine_guards (fun hs => ?_) (by rfl) (by rfl) (fun _ _ ht => absurd ht ?_) fun _ hc _ => absurd hm hc).keeps
      (fun hs ht => State.lineTapped_of_none (fun p => (ht.none (fun hu => ?_) p : s.tapped l p = false)) ?_) id
    · obtain ⟨h1, h2, h3, h4, h5⟩ := hs
      have hh : (s.line l).heldFrom = none := by simpa [hm] using h2
      simp [LineRec.under, hm, hh] at h1 h4
      simpa [LineRec.sound, LineRec.under, hnh, hno, hnp, hh, h1, h4] using h5
    · simp [LineRec.under, hm, Mode.onTap]
    · simp [LineRec.under, hm, Mode.onTap] at hu
    · simpa [LineRec.under, hnh] using hnt
  · exact .refl s

/-! ### The take of a line for cleaning (R12, R71, R144) -/

/-- The Cleaning Queue without the entry of a line. -/
def State.without (s : State) (l : Line) : State := s.setCleanQueue (s.cleaning.queue.filter fun e => e.line != l)

theorem State.askValves_without : (s.askValves l).without l = (s.without l).askValves l := by
  unfold State.askValves
  split
  · rw [if_pos (by assumption)]; rfl
  · rw [if_neg (by assumption)]; rfl

/-- A line that changes and leaves the Cleaning Queue with it. -/
theorem State.setLine_without_guards {r : LineRec} (hs : (s.line l).sound → r.sound)
    (hb : r.cfg.map LineCfg.binding = (s.line l).cfg.map LineCfg.binding)
    (ht : r.cfg.map LineCfg.trunk = (s.line l).cfg.map LineCfg.trunk)
    (hw : (s.pour l).record.code ≠ 1) : Guards (some l) P s ((s.setLine l r).without l) := by
  have hline (m : Line) (h : m ≠ l) : ((s.setLine l r).without l).line m = s.line m := State.line_setLine_ne _ _ _ _ h
  have hself : ((s.setLine l r).without l).line l = r := State.line_setLine_same _ _ _
  have at_line {f : Line → LineRec → Prop} (h : f l r) (h' : ∀ m, f m (s.line m)) (m : Line) :
      f m (((s.setLine l r).without l).line m) := by
    by_cases e : m = l
    · subst e; rwa [hself]
    · rw [hline m e]; exact h' m
  exact {
    accounts := id
    records := id
    lines := State.linesSound_of (at_line (f := fun m x => (s.line m).sound → x.sound) hs fun _ => id)
      (at_line (f := fun m x => x.cfg.map LineCfg.binding = (s.line m).cfg.map LineCfg.binding) hb fun _ => rfl)
      (fun _ => rfl) (fun _ => rfl) fun _ => rfl
    reads := fun _ _ => id
    tap := fun _ m hm _ _ _ => State.lineTapped_of (s := s) (fun _ => rfl) (by rw [hline m fun e => hm (congrArg some e.symm)])
    queues := fun _ => State.queuesSound_of (fun _ => rfl) (fun _ => Iff.rfl)
      (at_line (f := fun m x => x.cfg.map LineCfg.trunk = (s.line m).cfg.map LineCfg.trunk) ht fun _ => rfl)
      (at_line (f := fun m x => (s.pour m).record.code = 1 → (s.line m).under.onTap → x.under.onTap) (fun h => absurd h hw)
        fun _ _ => id) fun ⟨hn, he⟩ => by
      refine ⟨hn.sublist (List.filter_sublist.map _), fun e h => ?_⟩
      obtain ⟨h1, h2⟩ := List.mem_filter.mp h
      rw [hline e.line (by simpa using h2)]
      exact he e h1
    clocks := id
    valves := id }

/-- A keg on tap returned to STANDBY: no keg of the line is on tap then (R71). -/
theorem State.kegToStandby_guards : Guards (some l) P s (s.kegToStandby l) := by
  unfold State.kegToStandby
  split
  · rename_i p hp
    obtain ⟨k, hk, hst⟩ := State.keg_of_tapped (State.tapped_of_onTap hp)
    refine (State.setKegState_guards (x := .standby) nofun fun k' hk' => ?_).trans (State.askSelector_keeps ..).guards
    rw [hk] at hk'
    cases hk'
    simp [hst]
  · exact (Keeps.refl s).guards

theorem State.kegToStandby_tapped (h : s.lineTapped l) (p : Position) : (s.kegToStandby l).tapped l p = false := by
  unfold State.kegToStandby
  split
  · rename_i q hq
    refine (State.tapped_setKegState ..).trans ?_
    split
    · simp
    · have e : p = q.other := Position.eq_other ‹_›
      exact e ▸ h.other (State.tapped_of_onTap hq)
  · exact State.tapped_of_onTap_none ‹_› p

theorem State.kegToStandby_frame :
    s.kegToStandby l = { s with
      kegRegister := { s.kegRegister with kegs := (s.kegToStandby l).kegRegister.kegs }
      valves := { s.valves with groups := (s.kegToStandby l).valves.groups } } := by
  unfold State.kegToStandby
  split
  · rw [State.setKegState_frame]; rfl
  · rfl

theorem Mode.takeable_iff (m : Mode) : m.takeable = true ↔ m = .water ∨ m = .ready ∨ m = .dry ∨ m = .foul := by
  cases m <;> simp [Mode.takeable]

/-- A taken line is in CLEANING with no keg on tap, and out of the queue. -/
theorem State.takeLine_keeps {t : State} (h : s.takeLine l = some t) : Keeps s (t.without l) := by
  simp only [State.takeLine, Option.ite_none_right_eq_some, Bool.and_eq_true, Option.some.injEq] at h
  obtain ⟨⟨hm, hi⟩, rfl⟩ := h
  have hw : (s.pour l).record.code ≠ 1 := by
    rw [State.pourIdle, beq_iff_eq] at hi
    rw [hi]; simp [PourRec.code]
  have hnh : (s.line l).mode ≠ .held ∧ (s.line l).mode ≠ .offline ∧ (s.line l).mode ≠ .priming := by
    rcases (Mode.takeable_iff _).mp hm with e | e | e | e <;> simp [e]
  have hu : (s.line l).under = (s.line l).mode := by
    unfold LineRec.under
    split
    · exact absurd ‹_› hnh.1
    · rfl
  generalize hv : (if (s.line l).mode = .ready then s.kegToStandby l else s) = u
  have hg : Guards (some l) True s u := by
    rw [← hv]
    split
    · exact State.kegToStandby_guards
    · exact (Keeps.refl s).guards
  have hf : u.line = s.line ∧ u.pour = s.pour ∧ u.kegRegister.queue = s.kegRegister.queue ∧ u.kegRegister.bus = s.kegRegister.bus := by
    rw [← hv]
    split
    · rw [State.kegToStandby_frame]; exact ⟨rfl, rfl, rfl, rfl⟩
    · exact ⟨rfl, rfl, rfl, rfl⟩
  obtain ⟨hline, hpour, hqueue, hbus⟩ := hf
  rw [State.changeLine, State.askValves_without]
  refine Keeps.trans ((hg.trans (State.setLine_without_guards (fun hs => ?_) (by rw [hline]) (by rw [hline])
    (by rwa [hpour]))).keeps (fun hs ht => State.lineTapped_of_none (fun p => ?_) ?_) ?_) (State.askValves_keeps _ l)
  · rw [hline] at hs
    obtain ⟨h1, h2, -, h4, h5⟩ := hs
    rw [hu] at h4
    simp [hnh] at h1 h2 h4
    simpa [LineRec.sound, LineRec.under, h1, h2, h4] using h5
  · show u.tapped l p = false
    rw [← hv]
    split
    · exact State.kegToStandby_tapped ht p
    · rename_i hr
      refine ht.none (fun ht' => ?_) p
      rw [hu] at ht'
      exact ht'.elim hnh.2.2 hr
  · show ¬(LineRec.under ((u.setLine l _).line l)).onTap
    rw [State.line_setLine_same]
    simp [LineRec.under, Mode.onTap]
  · show _ → u.kegRegister.bus = none → u.kegRegister.queue = []
    rw [hqueue, hbus]
    exact id

end

end Sys2Proof.Machine
end

section
/-! PROOF. The Coupler Read Queue and the keg commands (R72 to R81, R86, R87) keep the invariants of a step. -/

namespace Sys2Proof.Machine

section
variable {s : State} {l : Line} {P : Prop}

/-! ### The bus and the queue -/

/-- A change of the transaction that keeps the head as live as it was. -/
theorem State.setBus_guards {b : Option Transaction} (hl : ∀ i, KegRegister.live { s.kegRegister with bus := b } i = s.kegRegister.live i)
    (hb : s.kegRegister.bus = none → b = none ∨ s.kegRegister.queue ≠ []) (x : Option Line) : Guards x P s (s.setBus b) where
  accounts := id
  records := fun ⟨h1, h2, h3, h4, h5⟩ => ⟨h1, h2, h3, h4, fun e => (hb (h5 e)).resolve_right fun h => h e⟩
  lines := id
  reads _ _ h i := by
    have := h i
    rw [← hl] at this
    exact this
  tap _ _ _ _ _ _ := id
  queues _ := id
  clocks := id
  valves := id

theorem State.startRead_cases (s : State) :
    (s.kegRegister.bus = none ∧ s.kegRegister.queue ≠ [] ∧ s.startRead = s.setBus (some ⟨0, false, false⟩)) ∨
    ((s.kegRegister.bus ≠ none ∨ s.kegRegister.queue = []) ∧ s.startRead = s) := by
  unfold State.startRead
  cases s.kegRegister.bus <;> cases s.kegRegister.queue <;> simp

theorem State.startRead_guards (x : Option Line) : Guards x P s s.startRead := by
  obtain ⟨hb, hq, h⟩ | ⟨-, h⟩ := s.startRead_cases <;> rw [h]
  · refine State.setBus_guards (fun i => ?_) (fun _ => .inr hq) x
    cases i <;> simp [KegRegister.live, hb]
  · exact (Keeps.refl s).guards

/-- After a start of a read the bus is not idle while an entry waits (R73). -/
theorem State.startRead_idle : s.startRead.idleSound := by
  intro hb
  obtain ⟨-, -, h⟩ | ⟨hbq, h⟩ := s.startRead_cases
  · rw [h] at hb; simp at hb
  · rw [h] at hb ⊢; exact hbq.resolve_left fun h => h hb

theorem State.startRead_keeps : Keeps s s.startRead := ⟨State.startRead_guards none, fun _ => State.startRead_idle⟩

theorem State.readBusy_eq_false {p : Position} (h : s.readBusy l p = false) :
    s.kegRegister.queue.length < 8 ∧ ∀ e ∈ s.kegRegister.queue, ¬(e.line = l ∧ e.position = p) := by
  simp only [State.readBusy, State.readQueued, Bool.or_eq_false_iff, decide_eq_false_iff_not, List.any_eq_false, Bool.and_eq_true,
    beq_iff_eq] at h
  exact ⟨by omega, h.2⟩

/-- An entry that joins the queue with its record in place (R72, R73, R79). -/
theorem State.enqueueRead_keeps {e : ReadEntry} (hb : s.readBusy e.line e.position = false)
    (he : (s.keg e.line e.position).any (fun k => (k.state == .verifying) == (e.purpose == .enrol)) = true) :
    Keeps s (s.enqueueRead e) := by
  obtain ⟨hlen, hne⟩ := State.readBusy_eq_false hb
  refine ⟨Guards.trans ?_ (State.startRead_guards none), fun _ => State.startRead_idle⟩
  exact {
    accounts := id
    records := fun ⟨h1, h2, h3, h4, h5⟩ => by
      refine ⟨h1, h2, by simpa using hlen, ?_, by simp⟩
      simp only [State.setReadQueue_kegRegister, List.map_append, List.map_cons, List.map_nil]
      refine h4.append (List.nodup_singleton _) ?_
      simpa [List.disjoint_singleton] using hne
    lines := id
    reads := fun _ hr h => by
      rintro ⟨i, hi⟩
      simp only [State.setReadQueue_kegRegister, List.length_append, List.length_singleton] at hi
      by_cases hlt : i < s.kegRegister.queue.length
      · have := h ⟨i, hlt⟩
        simp only [Fin.getElem_fin] at this
        simp only [State.setReadQueue_kegRegister, Fin.getElem_fin, List.getElem_append_left hlt]
        exact this
      · have hi' : i = s.kegRegister.queue.length := by omega
        subst hi'
        have hlive : s.kegRegister.live s.kegRegister.queue.length = true := by
          unfold KegRegister.live
          split
          · rename_i hz hbus
            have := hr.2.2.2.2 (List.eq_nil_of_length_eq_zero hz)
            rw [hbus] at this
            cases this
          · rfl
        simp only [State.setReadQueue_kegRegister, Fin.getElem_fin, List.getElem_concat_length]
        exact if_pos hlive ▸ he
    tap := fun _ _ _ _ _ _ => id
    queues := fun _ => id
    clocks := id
    valves := id }

/-! ### A keg enters the register (R72) -/

theorem State.findTag_eq_none {tag : Tag} (h : s.findTag tag = none) (m : Line) (q : Position) : ∀ k ∈ s.keg m q, k.tag ≠ tag := by
  intro k hk ht
  simp only [State.findTag, List.findSome?_eq_none_iff, mem_indices, true_implies] at h
  have := h m q (by cases q <;> simp)
  rw [hk] at this
  simp [ht] at this

/-- A new VERIFYING record with a tag of its own at an empty place. -/
theorem State.setKeg_enrolled_keeps {p : Position} {k : KegRec} (hn : s.keg l p = none) (hs : k.sound) (hv : k.state = .verifying)
    (ht : ∀ m q, ∀ x ∈ s.keg m q, x.tag ≠ k.tag) (hb : s.readBusy l p = false) : Keeps s (s.setKeg l p (some k)) := by
  have other (m : Line) (q : Position) (h : ¬(m = l ∧ q = p)) : (s.setKeg l p (some k)).keg m q = s.keg m q :=
    State.keg_setKeg_ne _ _ _ _ _ _ (by tauto)
  have new (m : Line) (q : Position) (x : KegRec) (h : x ∈ (s.setKeg l p (some k)).keg m q) :
      (m = l ∧ q = p ∧ x = k) ∨ (¬(m = l ∧ q = p) ∧ x ∈ s.keg m q) := by
    by_cases e : m = l ∧ q = p
    · obtain ⟨rfl, rfl⟩ := e
      rw [State.keg_setKeg_same] at h
      cases h
      exact .inl ⟨rfl, rfl, rfl⟩
    · exact .inr ⟨e, other m q e ▸ h⟩
  have sound (m : Line) (q : Position) (h : ∀ x ∈ s.keg m q, x.sound) : ∀ x ∈ (s.setKeg l p (some k)).keg m q, x.sound := fun x hx => by
    rcases new m q x hx with ⟨-, -, rfl⟩ | ⟨-, hx⟩
    · exact hs
    · exact h x hx
  have tags (m m' : Line) (q q' : Position) (hne : ¬(m = m' ∧ q = q')) (h : ∀ x ∈ s.keg m q, ∀ y ∈ s.keg m' q', x.tag ≠ y.tag) :
      ∀ x ∈ (s.setKeg l p (some k)).keg m q, ∀ y ∈ (s.setKeg l p (some k)).keg m' q', x.tag ≠ y.tag := fun x hx y hy => by
    rcases new m q x hx with ⟨rfl, rfl, rfl⟩ | ⟨-, hx'⟩ <;> rcases new m' q' y hy with ⟨rfl, rfl, rfl⟩ | ⟨-, hy'⟩
    · exact absurd ⟨rfl, rfl⟩ hne
    · exact (ht m' q' y hy').symm
    · exact ht m q x hx'
    · exact h x hx' y hy'
  have hstate (q : Position) : (s.setKeg l p (some k)).tapped l q = s.tapped l q := by
    unfold State.tapped
    by_cases e : q = p
    · subst e; rw [State.keg_setKeg_same, hn]; simp [hv]
    · rw [other l q fun h => e h.2]
  refine ⟨{
    accounts := id
    records := fun ⟨h1, h2, h3⟩ => ⟨fun m => ⟨sound m .A (h1 m).1, sound m .B (h1 m).2⟩,
      fun m m' => ⟨tags m m' .A .B (by simp) (h2 m m').1, fun hne => ⟨tags m m' .A .A (by simp [hne]) ((h2 m m').2 hne).1,
        tags m m' .B .B (by simp [hne]) ((h2 m m').2 hne).2⟩⟩, h3⟩
    lines := id
    reads := fun _ _ => State.readsTrue_of (fun e he => by rw [other _ _ ((State.readBusy_eq_false hb).2 e he)]) rfl rfl
    tap := fun _ m _ _ _ _ h => by
      by_cases e : m = l
      · subst e
        unfold State.lineTapped
        rw [hstate, hstate]
        exact h
      · exact State.lineTapped_of (s := s) (fun q => by rw [other m q fun h => e h.1]) Iff.rfl h
    queues := fun _ => id
    clocks := id
    valves := id }, id⟩

/-! ### A keg leaves the register (R78, R81, R87) -/

/-- A removed record whose place no entry of the read queue names. -/
theorem State.setKeg_none_guards {p : Position} (hq : P → ∀ e ∈ s.kegRegister.queue, ¬(e.line = l ∧ e.position = p)) :
    Guards (some l) P s (s.setKeg l p none) := by
  have other (m : Line) (q : Position) (h : ¬(m = l ∧ q = p)) : (s.setKeg l p none).keg m q = s.keg m q :=
    State.keg_setKeg_ne _ _ _ _ _ _ (by tauto)
  exact {
    accounts := id
    records := State.recordsSound_of (fun m q x hx => by
      by_cases e : m = l ∧ q = p
      · obtain ⟨rfl, rfl⟩ := e
        rw [State.keg_setKeg_same] at hx
        cases hx
      · rw [other _ _ e] at hx
        exact ⟨x, hx, rfl, id⟩) rfl rfl
    lines := id
    reads := fun hp _ => State.readsTrue_of (fun e he => by rw [other _ _ (hq hp e he)]) rfl rfl
    tap := fun _ m hm _ _ _ => State.lineTapped_of (s := s) (fun q => by rw [other _ _ fun e => hm (congrArg some e.1.symm)]) Iff.rfl
    queues := fun _ => id
    clocks := id
    valves := id }

/-- A verified record goes to STANDBY, where no entry of the read queue names its place. -/
theorem State.setKeg_standby_guards {p : Position} {k : KegRec} (hk : s.keg l p = some k)
    (hq : P → ∀ e ∈ s.kegRegister.queue, ¬(e.line = l ∧ e.position = p)) :
    Guards (some l) P s (s.setKeg l p (some { k with state := .standby })) := by
  have other (m : Line) (q : Position) (h : ¬(m = l ∧ q = p)) :
      (s.setKeg l p (some { k with state := .standby })).keg m q = s.keg m q :=
    State.keg_setKeg_ne _ _ _ _ _ _ (by tauto)
  exact {
    accounts := id
    records := State.recordsSound_of (fun m q x hx => by
      by_cases e : m = l ∧ q = p
      · obtain ⟨rfl, rfl⟩ := e
        rw [State.keg_setKeg_same] at hx
        cases hx
        exact ⟨k, hk, rfl, id⟩
      · rw [other _ _ e] at hx
        exact ⟨x, hx, rfl, id⟩) rfl rfl
    lines := id
    reads := fun hp _ => State.readsTrue_of (fun e he => by rw [other _ _ (hq hp e he)]) rfl rfl
    tap := fun _ m hm _ _ _ => State.lineTapped_of (s := s) (fun q => by rw [other _ _ fun e => hm (congrArg some e.1.symm)]) Iff.rfl
    queues := fun _ => id
    clocks := id
    valves := id }

/-- A record that was not ON_TAP changes to one that is not, and the line keeps its keg on tap. -/
theorem State.lineTapped_setKeg {p : Position} {r : Option KegRec} (ho : s.tapped l p = false)
    (hn : (r.any fun k => k.state == .onTap) = false) (h : s.lineTapped l) : (s.setKeg l p r).lineTapped l := by
  have (q : Position) : (s.setKeg l p r).tapped l q = s.tapped l q := by
    unfold State.tapped at ho ⊢
    by_cases e : q = p
    · subst e; rw [State.keg_setKeg_same, ho, hn]
    · rw [State.keg_setKeg_ne _ _ _ _ _ _ (.inr e)]
  unfold State.lineTapped
  rw [this, this]
  exact h

theorem Guards.of_some {s t : State} (h : Guards (some l) P s t) (ht : P → s.lineTapped l → t.lineTapped l) : Guards none P s t :=
  { h with tap := fun hp m _ hl hr hq => if e : m = l then e ▸ ht hp else h.tap hp m (fun c => e (Option.some.inj c).symm) hl hr hq }

/-! ### The outcome of a read (R76 to R80) -/

/-- The outcome of an enrol read, once its entry has left the queue. -/
theorem State.applyEnrol_guards {e : ReadEntry} {o : TagOutcome} {r : Option Tag}
    (hq : P → ∀ x ∈ s.kegRegister.queue, ¬(x.line = e.line ∧ x.position = e.position))
    (hv : P → ∀ k ∈ s.keg e.line e.position, k.state = .verifying) : Guards none P s (s.applyEnrol e o r) := by
  unfold State.applyEnrol
  split
  · exact (Keeps.refl s).guards
  rename_i k hk
  have ho (hp : P) : s.tapped e.line e.position = false := by simp [State.tapped, hk, hv hp k hk]
  dsimp only
  split
  · refine ((State.setKeg_standby_guards hk hq).of_some fun hp => State.lineTapped_setKeg (ho hp) (by simp)).trans ?_
    exact (((State.setLastEnrol_keeps ..).trans (State.raise_keeps ..)).trans (State.kegVerified_keeps _)).guards
  · refine ((State.setKeg_none_guards hq).of_some fun hp => State.lineTapped_setKeg (ho hp) (by simp)).trans ?_
    exact ((State.setLastEnrol_keeps ..).trans (State.raise_keeps ..)).guards

theorem State.applyCheck_keeps (e : ReadEntry) (o : TagOutcome) : Keeps s (s.applyCheck e o) :=
  (State.onKeg_keeps (f := fun k => { k with lastCheck := some o, checkFailed := !(o == .isMatch) }) (fun _ => rfl) (fun _ => rfl)
    fun _ => id).trans (State.raise_keeps ..)

/-- The entry of a transaction leaves the head of the queue, and the bus is idle. -/
theorem State.popRead_guards {e : ReadEntry} {rest : List ReadEntry}
    (hq : s.kegRegister.queue = e :: rest) (x : Option Line) : Guards x P s ((s.setReadQueue rest).setBus none) where
  accounts := id
  records := fun ⟨h1, h2, h3, h4, _⟩ => by
    rw [hq] at h3 h4
    exact ⟨h1, h2, by simp at h3 ⊢; omega, (List.nodup_cons.mp h4).2, fun _ => rfl⟩
  lines := id
  reads := fun _ _ h => by
    rintro ⟨i, hi⟩
    have hi' : i + 1 < s.kegRegister.queue.length := by rw [hq]; simpa using hi
    have := h ⟨i + 1, hi'⟩
    have hlive : KegRegister.live { s.kegRegister with queue := rest, bus := none } i = true := by cases i <;> rfl
    simp only [Fin.getElem_fin, hq, List.getElem_cons_succ, KegRegister.live, if_true] at this
    exact if_pos hlive ▸ this
  tap := fun _ _ _ _ _ _ => id
  queues := fun _ => id
  clocks := id
  valves := id

theorem State.endRead_keeps {t : Transaction} {e : ReadEntry} {rest : List ReadEntry} {o : TagOutcome} {r : Option Tag}
    (hb : s.kegRegister.bus = some t) (hq : s.kegRegister.queue = e :: rest) : Keeps s (s.endRead e rest t.discard o r) := by
  unfold State.endRead
  extract_lets s1 s2
  refine ⟨Guards.trans ?_ (State.startRead_guards none), fun _ => State.startRead_idle⟩
  have hpop (P : Prop) : Guards none P s s1 := State.popRead_guards hq none
  show Guards none True s s2
  simp only [s2]
  split
  · exact hpop _
  rename_i hd
  split
  · rename_i hp
    refine Guards.discharge (P := s.recordsSound ∧ s.readsTrue) ((hpop _).trans (State.applyEnrol_guards ?_ ?_)) fun h h' => ⟨h, h'⟩
    · rintro ⟨h, -⟩ x hx ⟨h1, h2⟩
      have := h.2.2.2.1
      rw [hq, List.map_cons, List.nodup_cons] at this
      exact this.1 (List.mem_map.mpr ⟨x, hx, by rw [h1, h2]⟩)
    · rintro ⟨-, h⟩ k hk
      have hk' : s.keg e.line e.position = some k := hk
      have h0 := h ⟨0, by rw [hq]; simp⟩
      simpa [hq, KegRegister.live, hb, hd, hk', hp] using h0
  · exact (hpop _).trans (State.applyCheck_keeps e o).toGuards

theorem judgeCopy_again {t t' : Transaction} {x : Tag} {st : Byte} {b : BitVec 128} (h : judgeCopy t x st b = .again t') :
    t'.discard = t.discard := by
  unfold judgeCopy at h
  repeat' split at h
  all_goals first | cases h; done | (cases h; rfl)

theorem State.copyRead_keeps (st : Byte) (b : BitVec 128) : Keeps s (s.copyRead st b) := by
  unfold State.copyRead
  split
  · rename_i t e rest hb hq
    split
    · rename_i t' ht
      refine ⟨State.setBus_guards (fun i => ?_) (fun h => by rw [hb] at h; cases h) none, fun _ h => by cases h⟩
      cases i <;> simp [KegRegister.live, hb, judgeCopy_again ht]
    · exact State.endRead_keeps hb hq
  · exact .refl s

end

end Sys2Proof.Machine
end

section
/-! PROOF. The keg commands (R72, R79, R86, R87) keep the invariants of a step. -/

namespace Sys2Proof.Machine

section
variable {s : State} {l : Line} {P : Prop}

/-! ### What does not read the Keg Register -/

theorem State.askValves_withKegs (x : KegRegister) :
    ({ s with kegRegister := x } : State).askValves l = { s.askValves l with kegRegister := x } := by
  unfold State.askValves
  by_cases h : (s.line l).mode = .cleaning
  · rw [if_pos h, if_pos (show (State.line { s with kegRegister := x } l).mode = .cleaning from h)]; rfl
  · rw [if_neg h, if_neg (show ¬(State.line { s with kegRegister := x } l).mode = .cleaning from h)]; rfl

theorem State.changeLine_withKegs (x : KegRegister) (r : LineRec) :
    ({ s with kegRegister := x } : State).changeLine l r = { s.changeLine l r with kegRegister := x } :=
  State.askValves_withKegs (s := s.setLine l r) x

theorem State.kegReport_withKegs (x : KegRegister) (q : Option Position) :
    ({ s with kegRegister := x } : State).kegReport l q = { s.kegReport l q with kegRegister := x } := by
  have hl : State.line { s with kegRegister := x } l = s.line l := rfl
  cases q <;> simp only [State.kegReport, hl]
  · split
    · rw [State.changeLine_withKegs]; rfl
    split
    · rw [State.changeLine_withKegs]; rfl
    · rfl
  · split <;> rfl

/-- Two records of one line are written in either order. -/
theorem State.setKeg_comm {p q : Position} (h : q ≠ p) (x y : Option KegRec) :
    (s.setKeg l p x).setKeg l q y = (s.setKeg l q y).setKeg l p x := by
  cases p <;> cases q <;> first | exact absurd rfl h | simp [State.setKeg, State.setKegSlots, State.kegSlots, KegSlots.set]

/-- The record whose keg left its tap plays no part in the changeover. -/
theorem State.changeover_setKeg (p : Position) (x : Option KegRec) :
    (s.setKeg l p x).changeover l p = (s.changeover l p).setKeg l p x := by
  have hkeg : (s.setKeg l p x).keg l p.other = s.keg l p.other := State.keg_setKeg_ne _ _ _ _ _ _ (.inr (Position.other_ne p))
  have ht : (s.setKeg l p x).changeoverTarget l p = s.changeoverTarget l p := by
    simp only [State.changeoverTarget, State.eligible, hkeg]
    rfl
  have hreport (u : State) (q : Option Position) : (u.setKeg l p x).kegReport l q = (u.kegReport l q).setKeg l p x := by
    rw [State.setKeg, State.setKegSlots, State.kegReport_withKegs, State.setKeg, State.setKegSlots]
    rw [State.kegReport_frame (s := u)]
    rfl
  unfold State.changeover
  rw [ht]
  cases h : s.changeoverTarget l p with
  | none => exact hreport s none
  | some q =>
    have hq : q = p.other := by
      simp only [State.changeoverTarget, Option.ite_none_right_eq_some, Option.some.injEq] at h
      exact h.2.symm
    subst hq
    dsimp only
    rw [← hreport]
    congr 1
    unfold State.setKegState
    rw [hkeg]
    cases s.keg l p.other with
    | none => rfl
    | some k => exact congrArg (State.askSelector · l p.other true) (State.setKeg_comm (Position.other_ne p) _ _)

/-! ### KEG_RETIRE (R81, R87) -/

/-- One entry of the read queue is true to its record: live, or at a discarded head. -/
def State.entryTrue (s : State) (live : Bool) (e : ReadEntry) : Prop :=
  if live then (s.keg e.line e.position).any (fun k => (k.state == .verifying) == (e.purpose == .enrol)) = true
  else s.keg e.line e.position = none

theorem State.readsTrue_iff : s.readsTrue ↔
    ∀ i e, s.kegRegister.queue[i]? = some e → s.entryTrue (s.kegRegister.live i) e := by
  constructor
  · intro h i e he
    obtain ⟨hi, rfl⟩ := List.getElem?_eq_some_iff.mp he
    exact h ⟨i, hi⟩
  · rintro h ⟨i, hi⟩
    exact h i _ (List.getElem?_eq_getElem hi)

theorem State.entryTrue_of {t : State} {b : Bool} {e : ReadEntry} (hk : t.keg e.line e.position = s.keg e.line e.position)
    (h : s.entryTrue b e) : t.entryTrue b e := by
  unfold State.entryTrue
  rwa [hk]

theorem State.withdrawRead_cases (s : State) (l : Line) (p : Position) :
    (∃ t e rest, s.kegRegister.bus = some t ∧ s.kegRegister.queue = e :: rest ∧ e.line = l ∧ e.position = p ∧
      s.withdrawRead l p = s.setBus (some { t with discard := true })) ∨
    ((∀ t e rest, s.kegRegister.bus = some t → s.kegRegister.queue = e :: rest → ¬(e.line = l ∧ e.position = p)) ∧
      s.withdrawRead l p = s.setReadQueue (s.kegRegister.queue.filter fun e => !(e.line == l && e.position == p))) := by
  unfold State.withdrawRead State.readInProgress
  cases hb : s.kegRegister.bus with
  | none => simp
  | some t =>
    cases hq : s.kegRegister.queue with
    | nil => simp
    | cons e rest =>
      by_cases h : e.line = l ∧ e.position = p
      · obtain ⟨rfl, rfl⟩ := h
        simp
      · refine .inr ⟨?_, ?_⟩
        · rintro t e rest - ⟨⟩
          exact h
        · rw [if_neg (by simpa using h)]

/-- A record is removed, its read entry deleted or its read marked for discard. -/
theorem State.withdrawn_guards (p : Position) :
    Guards (some l) P s ((s.withdrawRead l p).setKeg l p none) ∧
      (s.idleSound → ((s.withdrawRead l p).setKeg l p none).idleSound) := by
  have other (u : State) (m : Line) (q : Position) (h : ¬(m = l ∧ q = p)) : (u.setKeg l p none).keg m q = u.keg m q :=
    State.keg_setKeg_ne _ _ _ _ _ _ (by tauto)
  have kegs (u : State) (hu : u.keg = s.keg) : (∀ m q, ∀ k' ∈ (u.setKeg l p none).keg m q, ∃ k ∈ s.keg m q,
      k'.tag = k.tag ∧ (k.sound → k'.sound)) := fun m q x hx => by
    by_cases e : m = l ∧ q = p
    · obtain ⟨rfl, rfl⟩ := e
      rw [State.keg_setKeg_same] at hx
      cases hx
    · rw [other _ _ _ e, hu] at hx
      exact ⟨x, hx, rfl, id⟩
  have tap (u : State) (hu : u.keg = s.keg) (hl : u.line = s.line) (m : Line) (hm : some l ≠ some m) (h : s.lineTapped m) :
      (u.setKeg l p none).lineTapped m :=
    State.lineTapped_of (s := s) (fun q => by rw [other _ _ _ fun e => hm (congrArg some e.1.symm), hu])
      (by show (u.line m).under.onTap ↔ _; rw [hl]) h
  obtain ⟨t, e, rest, hb, hq, he, hp, h⟩ | ⟨hhead, h⟩ := s.withdrawRead_cases l p <;> rw [h]
  · refine ⟨{
      accounts := id
      records := fun hr => ?_
      lines := id
      reads := fun _ hr hs => ?_
      tap := fun _ m hm _ _ _ => tap (s.setBus _) rfl rfl m hm
      queues := fun _ => id
      clocks := id
      valves := id }, fun _ h => by simp [State.setKeg] at h⟩
    · obtain ⟨h1, h2, h3, h4, h5⟩ := State.recordsSound_of (t := s.setKeg l p none) (kegs s rfl) rfl rfl hr
      refine ⟨h1, h2, h3, h4, fun (h : s.kegRegister.queue = []) => ?_⟩
      rw [hq] at h
      cases h
    · have hn := hr.2.2.2.1
      rw [hq, List.map_cons, List.nodup_cons] at hn
      rw [State.readsTrue_iff] at hs ⊢
      intro i x (hx : s.kegRegister.queue[i]? = some x)
      have hsx := hs i x hx
      rw [hq] at hx
      cases i with
      | zero =>
        cases hx
        subst he hp
        exact State.keg_setKeg_same _ _ _ _
      | succ i =>
        have hne : ¬(x.line = l ∧ x.position = p) := fun ⟨h1, h2⟩ =>
          hn.1 (List.mem_map.mpr ⟨x, List.mem_of_getElem? hx, by rw [h1, h2, he, hp]⟩)
        exact State.entryTrue_of (s := s) (other (s.setBus _) _ _ hne) hsx
  · refine ⟨{
      accounts := id
      records := fun hr => ?_
      lines := id
      reads := fun _ _ hs => ?_
      tap := fun _ m hm _ _ _ => tap (s.setReadQueue _) rfl rfl m hm
      queues := fun _ => id
      clocks := id
      valves := id }, fun hi (hb : s.kegRegister.bus = none) => by
        show List.filter _ s.kegRegister.queue = []
        rw [hi hb]; rfl⟩
    · obtain ⟨h1, h2, h3, h4, h5⟩ := State.recordsSound_of (t := s.setKeg l p none) (kegs s rfl) rfl rfl hr
      refine ⟨h1, h2, (List.length_filter_le _ _).trans h3, h4.sublist (List.filter_sublist.map _),
        fun (hf : s.kegRegister.queue.filter _ = []) => ?_⟩
      cases hq : s.kegRegister.queue with
      | nil => exact h5 hq
      | cons e rest =>
        cases hb : s.kegRegister.bus with
        | none => exact hb
        | some t =>
          have := List.filter_eq_nil_iff.mp hf e (by rw [hq]; exact List.mem_cons_self)
          exact absurd (by simpa using this) (hhead t e rest hb hq)
    · rw [State.readsTrue_iff] at hs ⊢
      intro i x (hx : (s.kegRegister.queue.filter _)[i]? = some x)
      obtain ⟨hmem, hxp⟩ := List.mem_filter.mp (List.mem_of_getElem? hx)
      have hne : ¬(x.line = l ∧ x.position = p) := by simpa only [Bool.not_eq_true', Bool.and_eq_false_iff, beq_eq_false_iff_ne, ← not_and_or] using hxp
      refine State.entryTrue_of (s := s) (other (s.setReadQueue _) _ _ hne) (?_ : s.entryTrue (s.kegRegister.live i) x)
      obtain ⟨j, hj⟩ := List.mem_iff_getElem?.mp hmem
      have hsj := hs j x hj
      cases hb : s.kegRegister.bus with
      | none =>
        have live (n : Nat) : s.kegRegister.live n = true := by simp [KegRegister.live, hb]
        rw [live] at hsj ⊢
        exact hsj
      | some t =>
        cases hq : s.kegRegister.queue with
        | nil => simp [hq] at hj
        | cons e rest =>
          have hkeep : (!(e.line == l && e.position == p)) = true := by
            simpa only [Bool.not_eq_true', Bool.and_eq_false_iff, beq_eq_false_iff_ne, ← not_and_or] using hhead t e rest hb hq
          rw [hq, List.filter_cons, if_pos hkeep] at hx
          cases i with
          | zero => exact hs 0 x (hq ▸ hx)
          | succ i =>
            obtain ⟨n, hn⟩ := List.mem_iff_getElem?.mp (List.mem_filter.mp (List.mem_of_getElem? hx)).1
            exact hs (n + 1) x (hq ▸ hn)

theorem State.withdrawRead_frame (p : Position) :
    s.withdrawRead l p = { s with kegRegister := { s.kegRegister with
      queue := (s.withdrawRead l p).kegRegister.queue, bus := (s.withdrawRead l p).kegRegister.bus } } := by
  obtain ⟨t, e, rest, -, -, -, -, h⟩ | ⟨-, h⟩ := s.withdrawRead_cases l p <;> rw [h] <;> rfl

theorem State.tapped_setKeg (q p : Position) (r : Option KegRec) :
    (s.setKeg l p r).tapped l q = if q = p then r.any (fun k => k.state == .onTap) else s.tapped l q := by
  unfold State.tapped
  by_cases e : q = p
  · subst e; rw [State.keg_setKeg_same, if_pos rfl]
  · rw [State.keg_setKeg_ne _ _ _ _ _ _ (.inr e), if_neg e]

theorem State.setLastEnrol_setKeg (p : Position) (o : Option LastEnrol) (x : Option KegRec) :
    (s.setLastEnrol l o).setKeg l p x = (s.setKeg l p x).setLastEnrol l o := by
  cases p <;> simp [State.setKeg, State.setLastEnrol, State.setKegSlots, State.kegSlots, KegSlots.set]

theorem State.pourIdle_iff : s.pourIdle l = true ↔ (s.pour l).record = .idle := beq_iff_eq

theorem State.not_waiting_of_pourIdle (h : s.pourIdle l = true) : (s.pour l).record.code ≠ 1 := by
  rw [State.pourIdle_iff.mp h]; simp [PourRec.code]

/-- A retired record is removed with its part in the read queue and on its line (R81, R87). -/
theorem State.retireKeg_keeps {p : Position} {k : KegRec} (hk : s.keg l p = some k)
    (hi : k.state = .onTap → s.pourIdle l = true) : Keeps s ((s.retireKeg l p k).setKeg l p none) := by
  obtain ⟨hg, hidle⟩ := State.withdrawn_guards (s := s) (l := l) (P := True) p
  have removed (h : k.state ≠ .onTap) : Keeps s ((s.withdrawRead l p).setKeg l p none) := by
    refine ⟨hg.of_some fun _ ht => ?_, hidle⟩
    have hp : s.tapped l p = false := by simp [State.tapped, hk, h]
    rw [State.withdrawRead_frame]
    exact State.lineTapped_setKeg (s := { s with kegRegister := { s.kegRegister with
      queue := (s.withdrawRead l p).kegRegister.queue, bus := (s.withdrawRead l p).kegRegister.bus } }) hp rfl ht
  simp only [State.retireKeg]
  split
  · rename_i hst
    rw [State.setLastEnrol_setKeg]
    exact (removed (by simp [hst])).trans (State.setLastEnrol_keeps ..)
  · rename_i hst
    rw [← State.changeover_setKeg]
    have hframe := State.withdrawRead_frame (s := s) (l := l) p
    set u := ((s.withdrawRead l p).setKeg l p none).askSelector l p false with hu
    have hcomm : ((s.withdrawRead l p).askSelector l p false).setKeg l p none = u := rfl
    rw [hcomm]
    have hline : u.line = s.line := by rw [hu, hframe]; rfl
    have hpour : u.pour = s.pour := by rw [hu, hframe]; rfl
    have hgu : Guards (some l) True s u := hg.trans (State.askSelector_keeps _ _ _ _).guards
    refine (hgu.trans (State.changeover_guards p ?_)).keeps (fun hs ht => ?_) fun h => ?_
    · rw [hpour]; exact State.not_waiting_of_pourIdle (hi hst)
    · have hp : s.tapped l p = true := by simp [State.tapped, hk, hst]
      refine State.changeover_tapped (fun q => ?_) (hline ▸ hs.1 l) (hline ▸ ht.under hp)
      have : u.tapped l q = if q = p then false else s.tapped l q := by
        refine (State.tapped_setKeg q p none).trans ?_
        rw [hframe]; rfl
      rw [this]
      split
      · rfl
      · have e : q = p.other := Position.eq_other ‹_›
        exact e ▸ ht.other hp
    · rw [State.changeover_frame]
      exact hidle h
  · exact removed (by simp [*])
  · exact removed (by simp [*])

/-! ### KEG_ENROL, KEG_CHECK and KEG_CONFIRM (R72, R79, R86) -/

theorem KegRec.enrolled_sound (tag : Tag) (product nominal : Nat) : (KegRec.enrolled tag product nominal).sound := by
  simp [KegRec.sound, KegRec.enrolled]

/-- A keg that was in STANDBY is found empty. -/
theorem State.setKeg_spent_keeps {p : Position} {k : KegRec} (hk : s.keg l p = some k) (hs : k.state = .standby) :
    Keeps s (s.setKeg l p (some { k with state := .spent })) :=
  (State.setKeg_guards (k' := { k with state := .spent }) hk rfl id (by simp [hs])).keeps
    (fun _ => State.lineTapped_setKeg (by simp [State.tapped, hk, hs]) (by simp)) id

end

end Sys2Proof.Machine
end

section
/-! PROOF. The commands that bind lines to slots (R3, R4, R15, R16, R106) keep the invariants of a step. -/

namespace Sys2Proof.Machine

/-! ### The binding map, read from the lines -/

/-- The binding of a line's record. -/
def State.bindingOf (s : State) (l : Line) : Option Binding := (s.line l).cfg.map LineCfg.binding

/-- The map and the records say the same, each bound slot exists, and the bound slots have receive states. -/
theorem State.mapSound_iff (s : State) : s.mapSound ↔
    (∀ l b, s.bindingOf l = some b ↔ s.bound b = some l) ∧
    (∀ l b, s.bindingOf l = some b → b.slot.val < (s.loop b.loop).slotCount) ∧
    ∀ b, (s.recv b).isSome = (s.bound b).isSome := by
  constructor
  · rintro ⟨hl, hb⟩
    refine ⟨fun l b => ⟨fun h => ?_, fun h => ?_⟩, fun l b h => ?_, ?_⟩
    · obtain ⟨c, hc, rfl⟩ := Option.map_eq_some_iff.mp h
      exact (hl l c hc).1
    · obtain ⟨_ | _, k⟩ := b
      · exact (hb k).1 l h
      · exact (hb k).2.1 l h
    · obtain ⟨c, hc, rfl⟩ := Option.map_eq_some_iff.mp h
      exact (hl l c hc).2
    · rintro ⟨_ | _, k⟩
      · exact (hb k).2.2.1
      · exact (hb k).2.2.2
  · rintro ⟨hb, hn, hr⟩
    refine ⟨fun l c hc => ?_, fun k => ⟨fun l h => (hb l _).mpr h, fun l h => (hb l _).mpr h, hr _, hr _⟩⟩
    have hc' : s.bindingOf l = some c.binding := Option.map_eq_some_iff.mpr ⟨c, hc, rfl⟩
    exact ⟨(hb l _).mp hc', hn l _ hc'⟩

section
variable {s t : State} {l : Line}

/-- Nothing but bindings, receive states and stored K values changes. -/
structure Wired (s t : State) : Prop where
  lines : t.line = s.line
  pours : t.pourControl = s.pourControl
  kegs : t.kegRegister = s.kegRegister
  accounts : t.accounts = s.accounts
  cleaning : t.cleaning = s.cleaning
  valves : t.valves = s.valves
  timebase : t.timebase = s.timebase
  climate : t.climate = s.climate
  loop : ∀ i, { t.loop i with recv := (s.loop i).recv } = s.loop i

theorem Wired.refl (s : State) : Wired s s := ⟨rfl, rfl, rfl, rfl, rfl, rfl, rfl, rfl, fun _ => rfl⟩

theorem Wired.trans {u : State} (h : Wired s t) (k : Wired t u) : Wired s u where
  lines := k.lines.trans h.lines
  pours := k.pours.trans h.pours
  kegs := k.kegs.trans h.kegs
  accounts := k.accounts.trans h.accounts
  cleaning := k.cleaning.trans h.cleaning
  valves := k.valves.trans h.valves
  timebase := k.timebase.trans h.timebase
  climate := k.climate.trans h.climate
  loop i := by
    have hk := congrArg (fun r : LoopRec => { r with recv := (s.loop i).recv }) (k.loop i)
    exact hk.trans (h.loop i)

theorem Wired.slotCount (h : Wired s t) (i : LoopId) : (t.loop i).slotCount = (s.loop i).slotCount := by
  have := congrArg LoopRec.slotCount (h.loop i)
  exact this

theorem Wired.clocks (h : Wired s t) (hs : s.clocksSound) : t.clocksSound := by
  have hl (i : LoopId) (hi : (s.loop i).sound) : (t.loop i).sound := by rw [← h.loop i] at hi; exact hi
  obtain ⟨hc, hp, hlp, hw, hz, hb, hi, ha, hb'⟩ := hs
  refine ⟨?_, ?_, ?_, ?_, ?_, ?_, ?_, hl _ ha, hl _ hb'⟩
  · simpa only [State.channel, h.timebase] using hc
  · simpa only [h.timebase] using hp
  · simpa only [h.timebase] using hlp
  · simpa only [h.climate] using hw
  · simpa only [State.zone, h.climate] using hz
  · simpa only [h.climate] using hb
  · simpa only [State.input, h.climate] using hi

theorem State.setBound_wired (b : Binding) (x : Option Line) : Wired s (s.setBound b x) := by
  obtain ⟨_ | _, k⟩ := b <;> exact ⟨rfl, rfl, rfl, rfl, rfl, rfl, rfl, rfl, fun _ => rfl⟩

theorem State.setRecv_wired (b : Binding) (x : Option RecvState) : Wired s (s.setRecv b x) := by
  obtain ⟨_ | _, k⟩ := b <;> refine ⟨rfl, rfl, rfl, rfl, rfl, rfl, rfl, rfl, fun i => ?_⟩ <;> cases i <;> rfl

theorem State.bind_wired (b : Binding) : Wired s (s.bind b l) := (State.setBound_wired ..).trans (State.setRecv_wired ..)
theorem State.unbind_wired (b : Binding) : Wired s (s.unbind b) := (State.setBound_wired ..).trans (State.setRecv_wired ..)

theorem State.bound_setRecv (b c : Binding) (x : Option RecvState) : (s.setRecv b x).bound c = s.bound c := by
  simp [State.bound]

theorem State.recv_setBound (b c : Binding) (x : Option Line) : (s.setBound b x).recv c = s.recv c := by
  obtain ⟨_ | _, k⟩ := b <;> rfl

/-- The map after a binding enters it. -/
theorem State.bound_bind (b c : Binding) : (s.bind b l).bound c = if c = b then some l else s.bound c := by
  unfold State.bind
  rw [State.bound_setRecv]
  split
  · subst c; simp
  · rw [State.bound_setBound_ne _ _ _ _ ‹_›]

theorem State.recv_bind (b c : Binding) : (s.bind b l).recv c = if c = b then some RecvState.fresh else s.recv c := by
  unfold State.bind
  split
  · subst c; simp
  · rw [State.recv_setRecv_ne _ _ _ _ ‹_›, State.recv_setBound]

/-- The map after a binding leaves it. -/
theorem State.bound_unbind (b c : Binding) : (s.unbind b).bound c = if c = b then none else s.bound c := by
  unfold State.unbind
  rw [State.bound_setRecv]
  split
  · subst c; simp
  · rw [State.bound_setBound_ne _ _ _ _ ‹_›]

theorem State.recv_unbind (b c : Binding) : (s.unbind b).recv c = if c = b then none else s.recv c := by
  unfold State.unbind
  split
  · subst c; simp
  · rw [State.recv_setRecv_ne _ _ _ _ ‹_›, State.recv_setBound]

/-- A line record written with its bindings, under the mode it had in the sight of its kegs. -/
theorem Wired.setLine_keeps {r : LineRec} (h : Wired s t) (hs : s.linesSound → r.sound)
    (hm : s.linesSound → (t.setLine l r).mapSound) (hu : s.linesSound → (r.under.onTap ↔ (s.line l).under.onTap))
    (ht : s.linesSound → (s.pour l).record.code = 1 → (s.line l).under.onTap →
      r.cfg.map LineCfg.trunk = (s.line l).cfg.map LineCfg.trunk)
    (hc : s.queued l = true → r.mode ≠ .cleaning ∧ r.mode ≠ .offline ∨ r.mode = (s.line l).mode) : Keeps s (t.setLine l r) := by
  have hself : (t.setLine l r).line l = r := State.line_setLine_same _ _ _
  have hother (m : Line) (e : m ≠ l) : (t.setLine l r).line m = s.line m := by
    rw [State.line_setLine_ne _ _ _ _ e, h.lines]
  have hpour (m : Line) : (t.setLine l r).pour m = s.pour m := congrArg (fun x : PourControl => look x.pours m) h.pours
  have htrunk (k : Trunk) : (t.setLine l r).trunk k = s.trunk k := congrArg (fun x : PourControl => look x.trunks k) h.pours
  have hkeg : (t.setLine l r).kegRegister = s.kegRegister := h.kegs
  have hk (m : Line) (p : Position) : (t.setLine l r).keg m p = s.keg m p :=
    congrArg (fun x : KegRegister => KegSlots.at (look x.kegs m) p) h.kegs
  have hclean : (t.setLine l r).cleaning = s.cleaning := h.cleaning
  have under (hl : s.linesSound) (m : Line) : ((t.setLine l r).line m).under.onTap ↔ (s.line m).under.onTap := by
    by_cases e : m = l
    · subst e; rw [hself]; exact hu hl
    · rw [hother m e]
  have hcfg (f : Trunk → Bool) (hl : s.linesSound) (m : Line) (hp : (s.pour m).record.code = 1) (ho : (s.line m).under.onTap) :
      (((t.setLine l r).line m).cfg.any fun c => f c.trunk) = (s.line m).cfg.any fun c => f c.trunk := by
    by_cases e : m = l
    · subst e
      rw [hself]
      have := congrArg (Option.any f) (ht hl hp ho)
      simpa only [Option.any_map, Function.comp_def] using this
    · rw [hother m e]
  refine ⟨⟨?_, ?_, ?_, ?_, ?_, ?_, ?_, ?_⟩, ?_⟩
  · intro hs i
    simpa only [State.account, show (t.setLine l r).accounts = s.accounts from h.accounts] using hs i
  · exact State.recordsSound_of (fun m p k hk' => ⟨k, by rwa [hk] at hk', rfl, id⟩) (by rw [hkeg]) (by rw [hkeg])
  · refine fun hl => ⟨fun m => ?_, hm hl⟩
    by_cases e : m = l
    · subst e; rw [hself]; exact hs hl
    · rw [hother m e]; exact hl.1 m
  · exact fun _ _ => State.readsTrue_of (fun e _ => by rw [hk]) (by rw [hkeg]) (by rw [hkeg])
  · exact fun _ m _ hl _ _ => State.lineTapped_of (fun p => by rw [hk]) (under hl m)
  · rintro hl ⟨h1, h2, h3, h4⟩
    refine ⟨fun k => ?_, fun m hw => ?_, by rwa [hclean], fun e he => ?_⟩
    · rw [htrunk]
      refine ⟨(h1 k).1, (h1 k).2.1, fun m hmq => ?_⟩
      obtain ⟨hw, hin⟩ := (h1 k).2.2 m hmq
      rw [hpour]
      exact ⟨hw, (hcfg (· == k) hl m hw (h2 m hw).2.symm).trans hin⟩
    · rw [hpour] at hw
      obtain ⟨hq, ho⟩ := h2 m hw
      simp only [htrunk]
      exact ⟨(hcfg (fun k => (s.trunk k).queue.contains m) hl m hw ho.symm).trans hq, ((under hl m).mpr ho.symm).symm⟩
    · rw [hclean] at he
      by_cases e' : e.line = l
      · rw [e', hself]
        have hq : s.queued l = true := List.any_eq_true.mpr ⟨e, he, by simp [e']⟩
        rcases hc hq with h | h
        · exact h
        · rw [h, ← e']; exact h4 e he
      · rw [hother _ e']; exact h4 e he
  · exact h.clocks
  · simp only [State.valvesSound, State.valve, show (t.setLine l r).valves = s.valves from h.valves]; exact id
  · simp only [State.idleSound, hkeg]; exact id

/-! ### LINE_CONFIG (R3, R15) -/

theorem configOf_tail {a : LineConfigArgs} {c : LineCfg} (h : configOf a = some c) : c.tail ≤ 40000000 := by
  unfold configOf at h
  split at h
  · rename_i hr
    split at h
    · cases h
      simp only [Bool.and_eq_true, within, decide_eq_true_eq] at hr
      exact hr.1.1.2.2
    · cases h
  · cases h

theorem State.configRefusal_none {c : LineCfg} (h : s.configRefusal l c = none) :
    c.binding.slot.val < (s.loop c.binding.loop).slotCount ∧ s.bound c.binding = none := by
  rw [State.configRefusal, firstFail_eq_none] at h
  exact ⟨by simpa using h _ (.head _), by simpa using h _ (.tail _ (.head _))⟩

/-- An OFFLINE line has no binding. -/
theorem State.bindingOf_offline (hl : s.linesSound) (hm : (s.line l).mode = .offline) : s.bindingOf l = none := by
  rw [State.bindingOf, ((hl.1 l).1.mp hm)]
  rfl

theorem LineRec.under_of_not_held {r : LineRec} (h : r.mode ≠ .held) : r.under = r.mode := by
  unfold LineRec.under
  split
  · contradiction
  · rfl

theorem State.configure_keeps {c : LineCfg} {m : Mode} (ho : (s.line l).mode = .offline) (hm : m = .water ∨ m = .dry)
    (ht : c.tail ≤ 40000000) (hc : s.configRefusal l c = none) : Keeps s (s.configure l c m) := by
  obtain ⟨hslot, hfree⟩ := State.configRefusal_none hc
  have hw : Wired s ((s.bind c.binding l).storeK l c.k) :=
    (State.bind_wired _).trans ⟨rfl, rfl, rfl, rfl, rfl, rfl, rfl, rfl, fun i => by cases i <;> rfl⟩
  have hu : ¬(s.line l).under.onTap := by
    rw [LineRec.under_of_not_held (by simp [ho]), ho]; simp [Mode.onTap]
  have hm' : m ≠ .held ∧ m ≠ .offline ∧ m ≠ .cleaning ∧ m ≠ .priming ∧ m ≠ .ready := by rcases hm with rfl | rfl <;> simp
  obtain ⟨hnh, hno, hnc, hnp, hnr⟩ := hm'
  refine Keeps.trans (hw.setLine_keeps (fun hl => ?_) (fun hl => ?_) (fun _ => ?_) (fun _ _ h => absurd h hu)
    fun _ => .inl ⟨hnc, hno⟩) (State.askValves_keeps _ l)
  · simpa [LineRec.sound, LineRec.reset, LineRec.under, hnh, hno, hnp] using ht
  · obtain ⟨h1, h2, h3⟩ := s.mapSound_iff.mp hl.2
    have hbind (n : Line) : State.bindingOf (State.setLine ((s.bind c.binding l).storeK l c.k) l
        { LineRec.reset with mode := m, cfg := some c }) n = if n = l then some c.binding else s.bindingOf n := by
      unfold State.bindingOf
      split
      · subst n; rw [State.line_setLine_same]; rfl
      · rw [State.line_setLine_ne _ _ _ _ ‹_›, hw.lines]
    have hbound (b : Binding) : State.bound (State.setLine ((s.bind c.binding l).storeK l c.k) l
        { LineRec.reset with mode := m, cfg := some c }) b = if b = c.binding then some l else s.bound b :=
      State.bound_bind _ _
    have hrecv (b : Binding) : State.recv (State.setLine ((s.bind c.binding l).storeK l c.k) l
        { LineRec.reset with mode := m, cfg := some c }) b = if b = c.binding then some RecvState.fresh else s.recv b :=
      State.recv_bind _ _
    have hnone := State.bindingOf_offline hl ho
    refine (State.mapSound_iff _).mpr ⟨fun n b => ?_, fun n b hb => ?_, fun b => ?_⟩
    · rw [hbind, hbound]
      split <;> split
      · simp_all
      · subst n
        refine ⟨fun h => by cases h; contradiction, fun h => ?_⟩
        rw [(h1 l b).mpr h] at hnone
        cases hnone
      · subst b
        refine ⟨fun h => ?_, fun h => absurd (Option.some.inj h).symm ‹_›⟩
        rw [(h1 n _).mp h] at hfree
        cases hfree
      · exact h1 n b
    · show b.slot.val < (State.loop (State.storeK (s.bind c.binding l) l c.k) b.loop).slotCount
      rw [hw.slotCount]
      rw [hbind] at hb
      split at hb
      · cases hb; exact hslot
      · exact h2 n b hb
    · rw [hbound, hrecv]
      split
      · rfl
      · exact h3 b
  · refine ⟨fun h => ?_, fun h => absurd h hu⟩
    rw [LineRec.under_of_not_held (r := { LineRec.reset with mode := m, cfg := some c }) hnh] at h
    exact (h.elim hnp hnr).elim

/-! ### LINE_SET (R16) -/

theorem ifSelected_mem {sel i : Nat} {cs : List (Bool × Status)} (hs : selected sel i = true) {c : Bool × Status} (h : c ∈ cs) :
    c ∈ ifSelected sel i cs := by
  rw [ifSelected, if_pos hs]
  exact h

/-- What an accepted LINE_SET has checked of the trunk, of the binding and of the tail. -/
theorem State.lineSetChecks_none {a : LineSetArgs} (h : firstFail (s.lineSetChecks l a) = none) :
    (selected a.selection 3 = true → s.pourIdle l = true) ∧
    (selected a.selection 4 = true → ∃ b, readBinding a.loop a.slot = some b ∧ b.slot.val < (s.loop b.loop).slotCount ∧
      (s.bound b = none ∨ s.bound b = some l)) ∧
    (selected a.selection 8 = true → a.tailReseed ≤ 40000000) := by
  rw [firstFail_eq_none] at h
  simp only [State.lineSetChecks, List.mem_append, or_imp, forall_and] at h
  obtain ⟨⟨⟨⟨⟨⟨-, h3⟩, h4⟩, -⟩, -⟩, -⟩, h8⟩ := h
  refine ⟨fun hs => h3 _ (ifSelected_mem hs (by simp [State.structureChecks] : (s.pourIdle l, Status.pourActive) ∈ _)),
    fun hs => ?_, fun hs => ?_⟩
  · have hslot := h4 _ (ifSelected_mem hs (List.mem_append_left _ (List.mem_cons_self ..)))
    have hfree := h4 _ (ifSelected_mem hs (List.mem_append_right _ (List.mem_cons_self ..)))
    obtain ⟨b, hb, hn⟩ := (Option.any_eq_true _ _).mp hslot
    rw [hb] at hfree
    exact ⟨b, hb, of_decide_eq_true hn, by simpa [State.slotFree] using hfree⟩
  · have := h8 _ (ifSelected_mem hs (List.mem_cons_self ..))
    exact (of_decide_eq_true this).2

/-- The map after a moved binding. -/
theorem State.bound_rebind (old new b : Binding) : (s.rebind l old new).bound b =
    if new = old then s.bound b else if b = new then some l else if b = old then none else s.bound b := by
  unfold State.rebind
  split
  · rfl
  · rw [State.bound_bind, State.bound_unbind]

theorem State.recv_rebind (old new b : Binding) : (s.rebind l old new).recv b =
    if new = old then s.recv b else if b = new then some RecvState.fresh else if b = old then none else s.recv b := by
  unfold State.rebind
  split
  · rfl
  · rw [State.recv_bind, State.recv_unbind]

theorem State.rebind_wired (old new : Binding) : Wired s (s.rebind l old new) := by
  unfold State.rebind
  split
  · exact .refl s
  · exact (State.unbind_wired _).trans (State.bind_wired _)

/-- The record with its selected fields written, on a binding that is free or its own. -/
theorem State.writeLine_keeps {c c' : LineCfg} (hc : (s.line l).cfg = some c)
    (hb : c'.binding = c.binding ∨ c'.binding.slot.val < (s.loop c'.binding.loop).slotCount ∧
      (s.bound c'.binding = none ∨ s.bound c'.binding = some l))
    (ht : c'.trunk = c.trunk ∨ s.pourIdle l = true) (hT : (s.line l).sound → c'.tail ≤ 40000000) :
    Keeps s ((s.rebind l c.binding c'.binding).setLine l { s.line l with cfg := some c' }) := by
  have hold (hl : s.linesSound) : s.bindingOf l = some c.binding := by rw [State.bindingOf, hc]; rfl
  refine (State.rebind_wired c.binding c'.binding).setLine_keeps (fun hl => ?_) (fun hl => ?_) (fun _ => Iff.rfl)
    (fun _ hw _ => ?_) fun _ => .inr rfl
  · obtain ⟨h1, h2, h3, h4, -⟩ := hl.1 l
    refine ⟨?_, h2, h3, h4, fun d hd => ?_⟩
    · rw [hc] at h1; simpa using h1
    · cases hd; exact hT (hl.1 l)
  · obtain ⟨h1, h2, h3⟩ := s.mapSound_iff.mp hl.2
    have hold := hold hl
    have hmine (b : Binding) (h : s.bound b = some l) : b = c.binding := by
      have := (h1 l b).mpr h
      rw [hold] at this
      exact (Option.some.inj this).symm
    have hcb : s.bound c.binding = some l := (h1 l _).mp hold
    have hbind (n : Line) : State.bindingOf ((s.rebind l c.binding c'.binding).setLine l { s.line l with cfg := some c' }) n =
        if n = l then some c'.binding else s.bindingOf n := by
      unfold State.bindingOf
      split
      · subst n; rw [State.line_setLine_same]; rfl
      · rw [State.line_setLine_ne _ _ _ _ ‹_›, (State.rebind_wired _ _).lines]
    have hbound (b : Binding) : State.bound ((s.rebind l c.binding c'.binding).setLine l { s.line l with cfg := some c' }) b = _ :=
      State.bound_rebind c.binding c'.binding b
    have hrecv (b : Binding) : State.recv ((s.rebind l c.binding c'.binding).setLine l { s.line l with cfg := some c' }) b = _ :=
      State.recv_rebind c.binding c'.binding b
    refine (State.mapSound_iff _).mpr ⟨fun n b => ?_, fun n b hn => ?_, fun b => ?_⟩
    · rw [hbind, hbound]
      by_cases hnew : c'.binding = c.binding
      · rw [if_pos hnew]
        split
        · subst n; rw [hnew, ← hold]; exact h1 l b
        · exact h1 n b
      rw [if_neg hnew]
      have hfree : s.bound c'.binding = none := by
        rcases hb with h | ⟨-, h | h⟩
        · exact absurd h hnew
        · exact h
        · exact absurd (hmine _ h) hnew
      split
      · subst n
        refine ⟨fun h => by cases h; simp, fun h => ?_⟩
        split at h
        · subst b; rfl
        split at h
        · cases h
        · exact absurd (hmine b h) ‹_›
      · rename_i hne
        rw [h1 n b]
        split
        · subst b
          refine ⟨fun h => ?_, fun h => absurd (Option.some.inj h).symm hne⟩
          rw [hfree] at h
          cases h
        split
        · subst b
          refine ⟨fun h => ?_, fun h => by cases h⟩
          rw [hcb] at h
          exact absurd (Option.some.inj h).symm hne
        · rfl
    · show b.slot.val < ((s.rebind l c.binding c'.binding).loop b.loop).slotCount
      rw [(State.rebind_wired _ _).slotCount]
      rw [hbind] at hn
      split at hn
      · cases hn
        rcases hb with h | ⟨h, -⟩
        · rw [h]; exact h2 l _ hold
        · exact h
      · exact h2 n b hn
    · rw [hbound, hrecv]
      repeat' split
      all_goals first | rfl | exact h3 b
  · rcases ht with h | h
    · rw [hc]; exact congrArg some h
    · exact absurd hw (State.not_waiting_of_pourIdle h)

theorem takeLineSet_keeps (a : LineSetArgs) : Keeps s (takeLineSet a s) := by
  unfold takeLineSet
  split
  · exact s.refuse_keeps _
  rename_i l hl
  split
  · exact s.refuse_keeps _
  · exact s.refuse_keeps _
  rename_i c hc hm
  split
  · exact s.refuse_keeps _
  rename_i hf
  obtain ⟨h3, h4, h8⟩ := State.lineSetChecks_none hf
  have hw : Keeps s ((s.rebind l c.binding (writeSelected a c).binding).setLine l
      { s.line l with cfg := some (writeSelected a c) }) := by
    refine State.writeLine_keeps hc ?_ ?_ fun hs => ?_
    · by_cases h : selected a.selection 4 = true
      · obtain ⟨b, hb, hn, hfree⟩ := h4 h
        have : (writeSelected a c).binding = b := by simp [writeSelected, h, hb]
        rw [this]
        exact .inr ⟨hn, hfree⟩
      · exact .inl (by simp [writeSelected, h])
    · by_cases h : selected a.selection 3 = true
      · exact .inr (h3 h)
      · exact .inl (by simp [writeSelected, h])
    · by_cases h : selected a.selection 8 = true
      · simpa [writeSelected, h] using h8 h
      · simpa [writeSelected, h] using hs.2.2.2.2 c hc
  dsimp only
  refine hw.trans (Keeps.trans ?_ (State.ok_keeps ..))
  split
  · exact State.storeK_keeps ..
  · exact .refl _

/-! ### LINE_RETIRE (R4) -/

theorem State.retireRefusal_none (h : s.retireRefusal l = none) :
    ((s.line l).mode = .water ∨ (s.line l).mode = .foul ∨ (s.line l).mode = .dry) ∧ s.queued l = false ∧
      s.keg l .A = none ∧ s.keg l .B = none := by
  rw [State.retireRefusal, firstFail_eq_none] at h
  have h1 := h _ (.head _)
  have h2 := h _ (.tail _ (.head _))
  have h3 := h _ (.tail _ (.tail _ (.head _)))
  simp only [Bool.or_eq_true, beq_iff_eq, Bool.not_eq_true', Bool.and_eq_true, Option.isNone_iff_eq_none] at h1 h2 h3
  exact ⟨by tauto, h2, h3⟩

theorem State.bound_unbindLine (b : Binding) :
    (s.unbindLine l).bound b = if s.bindingOf l = some b then none else s.bound b := by
  unfold State.unbindLine State.bindingOf
  split
  · rename_i c hc
    rw [State.bound_unbind, hc]
    simp [eq_comm]
  · rename_i hc; simp [hc]

theorem State.recv_unbindLine (b : Binding) :
    (s.unbindLine l).recv b = if s.bindingOf l = some b then none else s.recv b := by
  unfold State.unbindLine State.bindingOf
  split
  · rename_i c hc
    rw [State.recv_unbind, hc]
    simp [eq_comm]
  · rename_i hc; simp [hc]

theorem State.unbindLine_wired : Wired s (s.unbindLine l) := by
  unfold State.unbindLine
  split
  · exact State.unbind_wired _
  · exact .refl s

theorem State.unbindLine_keeps (h : s.retireRefusal l = none) : Keeps s ((s.unbindLine l).setLine l LineRec.reset) := by
  obtain ⟨hm, hq, -, -⟩ := State.retireRefusal_none h
  have hu : ¬(s.line l).under.onTap := by
    rw [LineRec.under_of_not_held (by rcases hm with h | h | h <;> simp [h])]
    rcases hm with h | h | h <;> simp [h, Mode.onTap]
  refine State.unbindLine_wired.setLine_keeps (fun _ => by simp [LineRec.sound, LineRec.reset, LineRec.under]) (fun hl => ?_)
    (fun _ => ⟨fun h => ?_, fun h => absurd h hu⟩) (fun _ _ h => absurd h hu) fun h => by rw [hq] at h; cases h
  · obtain ⟨h1, h2, h3⟩ := s.mapSound_iff.mp hl.2
    have hbind (n : Line) : State.bindingOf ((s.unbindLine l).setLine l LineRec.reset) n =
        if n = l then none else s.bindingOf n := by
      unfold State.bindingOf
      split
      · subst n; rw [State.line_setLine_same]; rfl
      · rw [State.line_setLine_ne _ _ _ _ ‹_›, State.unbindLine_wired.lines]
    have hbound (b : Binding) : State.bound ((s.unbindLine l).setLine l LineRec.reset) b = _ := State.bound_unbindLine b
    have hrecv (b : Binding) : State.recv ((s.unbindLine l).setLine l LineRec.reset) b = _ := State.recv_unbindLine b
    refine (State.mapSound_iff _).mpr ⟨fun n b => ?_, fun n b hn => ?_, fun b => ?_⟩
    · rw [hbind, hbound]
      split <;> split
      · simp
      · subst n
        exact ⟨nofun, fun h => absurd ((h1 l b).mpr h) ‹_›⟩
      · rename_i hne hlb
        refine ⟨fun h => ?_, nofun⟩
        rw [h1] at h hlb
        rw [h] at hlb
        exact absurd (Option.some.inj hlb) hne
      · exact h1 n b
    · show b.slot.val < ((s.unbindLine l).loop b.loop).slotCount
      rw [State.unbindLine_wired.slotCount]
      rw [hbind] at hn
      split at hn
      · cases hn
      · exact h2 n b hn
    · rw [hbound, hrecv]
      split
      · rfl
      · exact h3 b
  · simp [LineRec.reset, LineRec.under, Mode.onTap] at h

/-! ### LOOP_SET (R106) -/

/-- A STOPPED loop with a slot count above every bound slot. -/
theorem State.setSlots_keeps {i : LoopId} {n : Nat} (hn : 2 ≤ n ∧ n ≤ 24) (hs : (s.loop i).isRunning = false)
    (hb : s.noneBoundFrom i n = true) : Keeps s (s.setLoop i { s.loop i with slotCount := n }) := by
  have hrecv (b : Binding) : (s.setLoop i { s.loop i with slotCount := n }).recv b = s.recv b := by
    by_cases e : b.loop = i
    · subst e; simp [State.recv]
    · simp [State.recv, State.loop_setLoop_ne _ _ _ _ e]
  have hslots (j : LoopId) : ((s.setLoop i { s.loop i with slotCount := n }).loop j).slotCount =
      if j = i then n else (s.loop j).slotCount := by
    split
    · subst j; simp
    · rw [State.loop_setLoop_ne _ _ _ _ ‹_›]
  have hbound (b : Binding) (h : (s.bound b).isSome = true) (e : b.loop = i) : b.slot.val < n := by
    obtain ⟨j, k⟩ := b
    obtain rfl : j = i := e
    simp only [State.noneBoundFrom, List.all_eq_true, mem_indices, true_implies, Bool.or_eq_true, decide_eq_true_eq,
      Option.isNone_iff_eq_none] at hb
    exact (hb k).resolve_right fun h' => by rw [h'] at h; cases h
  have hsound (j : LoopId) (h : (s.loop j).sound) : ((s.setLoop i { s.loop i with slotCount := n }).loop j).sound := by
    by_cases e : j = i
    · subst e
      have hst : (s.loop j).state = .stopped := by simpa [LoopRec.isRunning] using hs
      obtain ⟨-, -, h3, -⟩ := h
      rw [State.loop_setLoop_same]
      exact ⟨hn.1, hn.2, h3, fun k hk => by rw [h3 hst] at hk; cases hk⟩
    · rwa [State.loop_setLoop_ne _ _ _ _ e]
  have hlines : s.linesSound → (s.setLoop i { s.loop i with slotCount := n }).linesSound := fun hl => by
    obtain ⟨h1, h2, h3⟩ := s.mapSound_iff.mp hl.2
    refine ⟨by simpa [State.line] using hl.1, (State.mapSound_iff _).mpr ⟨fun m b => ?_, fun m b hm => ?_, fun b => ?_⟩⟩
    · simpa [State.bindingOf, State.line, State.bound] using h1 m b
    · have hm' : s.bindingOf m = some b := by simpa [State.bindingOf, State.line] using hm
      rw [hslots]
      split
      · exact hbound b (by rw [(h1 m b).mp hm']; rfl) ‹_›
      · exact h2 m b hm'
    · rw [hrecv, h3 b]; simp [State.bound]
  have hclocks : s.clocksSound → (s.setLoop i { s.loop i with slotCount := n }).clocksSound :=
    fun ⟨hc, hp, hl, hw, hz, hb, hi, ha, hb'⟩ =>
    have other : (s.setLoop i { s.loop i with slotCount := n }).timebase = s.timebase ∧
      (s.setLoop i { s.loop i with slotCount := n }).climate = s.climate := by simp
    ⟨fun c => by simpa only [State.channel, other] using hc c, by rwa [other.1], by rwa [other.1], by rwa [other.2],
      fun k => by simpa only [State.zone, other] using hz k, by rwa [other.2],
      fun a b => by simpa only [State.input, other] using hi a b, hsound .A ha, hsound .B hb'⟩
  cases i <;> exact ⟨⟨id, id, hlines, fun _ _ => id, fun _ _ _ _ _ _ => id, fun _ => id, hclocks, id⟩, id⟩

end

end Sys2Proof.Machine
end

section
/-! PROOF. The holds and the commands of the accounts (R94 to R101), and the wait queues (R48 to R50), keep the invariants of a
step. -/

namespace Sys2Proof.Machine

section
variable {s : State} {l : Line}

/-! ### Accounts (R93) -/

theorem State.account_sound {id : Nat} {i : AccountIx} {a : Account} (hs : s.accountsSound) (h : s.findAccount id = some (i, a)) :
    a.sound := hs i a (State.findAccount_spec h).1

theorem State.placeHold_keeps {id h : Nat} {t : State} (hp : s.placeHold id h = .placed t) : Keeps s t := by
  obtain ⟨e, -⟩ | ⟨i, a, hf, -, ⟨-, e⟩ | ⟨hc, e⟩⟩ := s.placeHold_cases id h <;> rw [e] at hp
  · cases hp
  · cases hp
  · cases hp
    refine State.setAccount_keeps fun hs b hb => ?_
    obtain ⟨h1, h2⟩ := State.account_sound hs hf
    cases hb
    simp only [Account.sound, Account.place]
    omega

theorem State.raiseAccount_keeps (i : AccountIx) : Keeps s (s.raiseAccount i) := s.setAttention_keeps _

theorem State.endHold_keeps {i : AccountIx} {a : Account} (h : s.accountsSound → a.sound) : Keeps s (s.endHold i a) := by
  obtain ⟨-, -, e⟩ | ⟨-, e⟩ := s.endHold_cases i a <;> rw [e]
  · exact (State.setAccount_keeps fun hs b hb => by cases hb; exact h hs).trans (State.raiseAccount_keeps i)
  · exact State.setAccount_keeps fun hs b hb => by cases hb; exact h hs

theorem State.releaseHold_keeps (id h : Nat) : Keeps s (s.releaseHold id h) := by
  unfold State.releaseHold
  split
  · exact .refl s
  · rename_i i a hf
    refine State.endHold_keeps fun hs => ?_
    obtain ⟨h1, h2⟩ := State.account_sound hs hf
    simp only [Account.sound, Account.release]
    omega

/-- A hold is settled with no more than itself. -/
theorem State.settleHold_keeps {id h b : Nat} (hb : b ≤ h) : Keeps s (s.settleHold id h b) := by
  unfold State.settleHold
  split
  · exact .refl s
  · rename_i i a hf
    refine State.endHold_keeps fun hs => ?_
    obtain ⟨h1, h2⟩ := State.account_sound hs hf
    simp only [Account.sound, Account.settle]
    omega

theorem State.releasePour_keeps (p : Pour) : Keeps s (s.releasePour p) := by
  unfold State.releasePour
  split
  · exact State.releaseHold_keeps ..
  · exact .refl s

theorem Pour.billed_le (p : Pour) (vml : Nat) : p.billed vml ≤ p.hold := by
  unfold Pour.billed
  split
  · exact Nat.min_le_right ..
  · exact Nat.zero_le _

theorem State.settleAccount_keeps (p : Pour) (vml : Nat) : Keeps s (s.settleAccount p vml) := by
  unfold State.settleAccount
  split
  · exact State.settleHold_keeps (p.billed_le vml)
  · exact .refl s

theorem takeAccountOpen_keeps (id float : Nat) (credit : Int) : Keeps s (takeAccountOpen id float credit s) := by
  unfold takeAccountOpen
  split
  · exact s.refuse_keeps _
  rename_i hr
  split
  · exact s.refuse_keeps _
  split
  · exact s.refuse_keeps _
  · refine Keeps.trans (State.setAccount_keeps fun _ b hb => ?_) (State.ok_keeps ..)
    cases hb
    simp only [Bool.not_eq_false, Bool.and_eq_true, decide_eq_true_eq] at hr
    obtain ⟨-, h0, -⟩ := hr
    simp only [Account.sound, Account.fresh]
    omega

theorem takeAccountCredit_keeps (id : Nat) (amount : Int) : Keeps s (takeAccountCredit id amount s) := by
  unfold takeAccountCredit
  split
  · exact s.refuse_keeps _
  split
  · exact s.refuse_keeps _
  rename_i i a hf
  split
  · exact s.refuse_keeps _
  · rename_i hc
    refine Keeps.trans (State.setAccount_keeps fun hs b hb => ?_) (State.ok_keeps ..)
    rw [firstFail_eq_none] at hc
    have h3 := of_decide_eq_true (hc _ (.tail _ (.tail _ (.head _))))
    obtain ⟨h1, h2⟩ := State.account_sound hs hf
    cases hb
    simp only [Account.sound, Account.credit]
    omega

theorem takeAccountFloat_keeps (id float : Nat) : Keeps s (takeAccountFloat id float s) := by
  unfold takeAccountFloat
  split
  · exact s.refuse_keeps _
  split
  · exact s.refuse_keeps _
  rename_i i a hf
  split
  · exact s.refuse_keeps _
  · rename_i hc
    refine Keeps.trans (State.setAccount_keeps fun hs b hb => ?_) (State.ok_keeps ..)
    rw [firstFail_eq_none] at hc
    have h2 := of_decide_eq_true (hc _ (.tail _ (.head _)))
    cases hb
    exact ⟨(State.account_sound hs hf).1, by simpa using h2⟩

theorem takeAccountClose_keeps (id : Nat) : Keeps s (takeAccountClose id s) := by
  unfold takeAccountClose
  split
  · exact s.refuse_keeps _
  split
  · exact s.refuse_keeps _
  rename_i i a hf
  have closed (x : AccountState) : Keeps s (s.setAccount i (some { a with state := x })) :=
    State.setAccount_keeps fun hs b hb => by
      have ha := State.account_sound hs hf
      cases hb
      exact ha
  split
  · split
    · exact (closed _).trans (State.ok_keeps ..)
    · exact (closed _).trans (State.ok_keeps ..)
  · exact State.reply_keeps ..
  · exact (State.setAccount_keeps fun _ b hb => by cases hb).trans (State.ok_keeps ..)

/-! ### The wait queues (R48) -/

/-- A change of Pour Control alone keeps the invariants where it keeps the queues. -/
theorem Keeps.of_pourControl {x : PourControl}
    (h : s.linesSound → s.queuesSound → State.queuesSound { s with pourControl := x }) : Keeps s { s with pourControl := x } :=
  ⟨⟨id, id, id, fun _ _ => id, fun _ _ _ _ _ _ => id, h, id, id⟩, id⟩

/-- A line whose pour waits is in the queue of its trunk alone. -/
theorem State.queuesSound.trunk_unique (hq : s.queuesSound) {k m : Trunk} (hk : l ∈ (s.trunk k).queue)
    (hm : l ∈ (s.trunk m).queue) : k = m := by
  have h1 := ((hq.1 k).2.2 l hk).2
  have h2 := ((hq.1 m).2.2 l hm).2
  unfold LineRec.inTrunk at h1 h2
  cases hc : (s.line l).cfg with
  | none => simp [hc] at h1
  | some c =>
    simp only [hc, Option.any_some, beq_iff_eq] at h1 h2
    exact h1.symm.trans h2

/-- A line that leaves the queues as its pour leaves WAITING. -/
theorem State.queuesSound_leave {x : PourControl}
    (hq : ∀ k, (look x.trunks k).queue = (s.trunk k).queue.filter (· != l))
    (hp : ∀ m, m ≠ l → ((look x.pours m).record.code = 1 ↔ (s.pour m).record.code = 1))
    (hl : (look x.pours l).record.code ≠ 1) (h : s.queuesSound) : State.queuesSound { s with pourControl := x } := by
  obtain ⟨h1, h2, h3⟩ := h
  have mem (k : Trunk) (m : Line) : m ∈ (look x.trunks k).queue ↔ m ∈ (s.trunk k).queue ∧ m ≠ l := by
    rw [hq, List.mem_filter, bne_iff_ne]
  refine ⟨fun k => ?_, fun m hw => ?_, h3⟩
  · refine ⟨?_, ?_, fun m hm => ?_⟩
    · show (look x.trunks k).queue.length ≤ 8
      rw [hq]
      exact (List.length_filter_le _ _).trans (h1 k).1
    · show (look x.trunks k).queue.Nodup
      rw [hq]
      exact (h1 k).2.1.filter _
    · obtain ⟨hm, hne⟩ := (mem k m).mp hm
      obtain ⟨ha, hb⟩ := (h1 k).2.2 m hm
      exact ⟨(hp m hne).mpr ha, hb⟩
  · have hne : m ≠ l := by rintro rfl; exact hl hw
    obtain ⟨ha, hb⟩ := h2 m ((hp m hne).mp hw)
    refine ⟨?_, hb⟩
    obtain ⟨c, hc, hin⟩ := (Option.any_eq_true _ _).mp ha
    refine (Option.any_eq_true _ _).mpr ⟨c, hc, List.contains_iff_mem.mpr ((mem c.trunk m).mpr ⟨?_, hne⟩)⟩
    exact List.contains_iff_mem.mp hin

/-- A line that joins the queue of its trunk as its pour begins to wait. -/
theorem State.queuesSound_join {x : PourControl} {c : LineCfg} (hc : (s.line l).cfg = some c)
    (ho : (s.line l).under.onTap) (hi : (s.pour l).record.code ≠ 1) (hn : (s.trunk c.trunk).queue.length < 8)
    (hq : (look x.trunks c.trunk).queue = (s.trunk c.trunk).queue ++ [l])
    (hqo : ∀ k, k ≠ c.trunk → (look x.trunks k).queue = (s.trunk k).queue)
    (hp : ∀ m, m ≠ l → ((look x.pours m).record.code = 1 ↔ (s.pour m).record.code = 1))
    (hl : (look x.pours l).record.code = 1) (h : s.queuesSound) : State.queuesSound { s with pourControl := x } := by
  obtain ⟨h1, h2, h3⟩ := h
  have hnot (k : Trunk) : l ∉ (s.trunk k).queue := fun hm => hi ((h1 k).2.2 l hm).1
  have mem (k : Trunk) (m : Line) : m ∈ (look x.trunks k).queue ↔ m ∈ (s.trunk k).queue ∨ k = c.trunk ∧ m = l := by
    by_cases e : k = c.trunk
    · subst e; rw [hq]; simp
    · rw [hqo k e]; simp [e]
  refine ⟨fun k => ⟨?_, ?_, fun m hm => ?_⟩, fun m hw => ?_, h3⟩
  · show (look x.trunks k).queue.length ≤ 8
    by_cases e : k = c.trunk
    · subst e; rw [hq]; simpa using hn
    · rw [hqo k e]; exact (h1 k).1
  · show (look x.trunks k).queue.Nodup
    by_cases e : k = c.trunk
    · subst e
      rw [hq]
      exact (h1 _).2.1.append (List.nodup_singleton _) (by simpa using hnot c.trunk)
    · rw [hqo k e]; exact (h1 k).2.1
  · rcases (mem k m).mp hm with hm | ⟨rfl, rfl⟩
    · obtain ⟨ha, hb⟩ := (h1 k).2.2 m hm
      have hne : m ≠ l := by rintro rfl; exact hi ha
      exact ⟨(hp m hne).mpr ha, hb⟩
    · refine ⟨hl, ?_⟩
      show (s.line m).inTrunk _ = true
      simp [LineRec.inTrunk, hc]
  · by_cases e : m = l
    · subst e
      refine ⟨?_, ho.symm⟩
      show ((s.line m).cfg.any _) = true
      rw [hc]
      exact List.contains_iff_mem.mpr ((mem _ _).mpr (.inr ⟨rfl, rfl⟩))
    · obtain ⟨ha, hb⟩ := h2 m ((hp m e).mp hw)
      refine ⟨?_, hb⟩
      obtain ⟨d, hd, hin⟩ := (Option.any_eq_true _ _).mp ha
      exact (Option.any_eq_true _ _).mpr ⟨d, hd, List.contains_iff_mem.mpr ((mem _ _).mpr (.inl (List.contains_iff_mem.mp hin)))⟩

/-! ### Withdrawal (R50) -/

theorem State.releasePour_withPours (p : Pour) (x : PourControl) :
    ({ s with pourControl := x } : State).releasePour p = { s.releasePour p with pourControl := x } := by
  have hend (u : State) (i : AccountIx) (a : Account) :
      ({ u with pourControl := x } : State).endHold i a = { u.endHold i a with pourControl := x } := by
    unfold State.endHold
    split <;> rfl
  have hfind (id : Nat) : ({ s with pourControl := x } : State).findAccount id = s.findAccount id := rfl
  unfold State.releasePour State.releaseHold
  simp only [hfind]
  split
  · split
    · rfl
    · exact hend ..
  · rfl

theorem State.leaveQueue_eq (s : State) (l : Line) : s.leaveQueue l = { s with pourControl := (s.leaveQueue l).pourControl } := by
  unfold State.leaveQueue
  split <;> rfl

theorem State.leaveQueue_pour (m : Line) : (s.leaveQueue l).pour m = s.pour m := by
  unfold State.leaveQueue
  split <;> rfl

/-- With sound queues a line that leaves its trunk's queue is in none. -/
theorem State.leaveQueue_queue (hq : s.queuesSound) (k : Trunk) :
    ((s.leaveQueue l).trunk k).queue = (s.trunk k).queue.filter (· != l) := by
  have hsame (h : ∀ c, (s.line l).cfg = some c → k ≠ c.trunk) : (s.trunk k).queue.filter (· != l) = (s.trunk k).queue := by
    refine List.filter_eq_self.mpr fun m hm => bne_iff_ne.mpr ?_
    rintro rfl
    have hin := ((hq.1 k).2.2 m hm).2
    unfold LineRec.inTrunk at hin
    obtain ⟨c, hc, e⟩ := (Option.any_eq_true _ _).mp hin
    exact h c hc (beq_iff_eq.mp e).symm
  unfold State.leaveQueue
  split
  · rename_i c hc
    by_cases e : k = c.trunk
    · subst e; simp
    · rw [State.trunk_setTrunk_ne _ _ _ _ e, hsame]
      intro d hd
      rw [hc] at hd
      cases hd
      exact e
  · rename_i hc
    rw [hsame]
    intro d hd
    rw [hc] at hd
    cases hd

theorem State.withdraw_keeps : Keeps s (s.withdraw l) := by
  unfold State.withdraw
  split
  · rename_i p w hp
    have hcomm : ((s.leaveQueue l).releasePour p).setRecord l .idle =
        State.releasePour { s with pourControl := ((s.leaveQueue l).setRecord l .idle).pourControl } p := by
      have hrel : (s.leaveQueue l).releasePour p = { s.releasePour p with pourControl := (s.leaveQueue l).pourControl } := by
        conv_lhs => rw [State.leaveQueue_eq]
        exact State.releasePour_withPours p _
      rw [hrel]
      exact (State.releasePour_withPours p _).symm
    rw [hcomm]
    refine Keeps.trans (t := { s with pourControl := ((s.leaveQueue l).setRecord l .idle).pourControl })
      (Keeps.of_pourControl fun _ hq => State.queuesSound_leave (l := l) (s := s) (State.leaveQueue_queue hq)
      (fun m hm => ?_) ?_ hq) (State.releasePour_keeps p)
    · show (((s.leaveQueue l).setRecord l .idle).pour m).record.code = 1 ↔ _
      rw [State.setRecord, State.pour_setPour_ne _ _ _ _ hm, State.leaveQueue_pour]
    · show (((s.leaveQueue l).setRecord l .idle).pour l).record.code ≠ 1
      simp [State.setRecord, PourRec.code]
  · exact .refl s

/-! ### Promotion (R48) -/

theorem State.promoteHead_keeps (t : Trunk) : Keeps s (s.promoteHead t) := by
  rw [State.promoteHead_frame]
  refine Keeps.of_pourControl fun _ hq => ?_
  cases hh : (s.trunk t).queue with
  | nil =>
    have : s.promoteHead t = s := by simp [State.promoteHead, hh]
    rw [this]
    exact hq
  | cons l rest =>
    have hmem : l ∈ (s.trunk t).queue := by rw [hh]; exact List.mem_cons_self
    obtain ⟨hw, -⟩ := (hq.1 t).2.2 l hmem
    have hnd := (hq.1 t).2.1
    rw [hh, List.nodup_cons] at hnd
    obtain ⟨p, w, hp⟩ : ∃ p w, (s.pour l).record = .waiting p w := by
      cases h : (s.pour l).record <;> simp [h, PourRec.code] at hw
      exact ⟨_, _, rfl⟩
    have he : s.promoteHead t = (s.setTrunk t { s.trunk t with queue := rest }).setRecord l (.enterPouring p) := by
      simp only [State.promoteHead, hh, hp]
    rw [he]
    refine State.queuesSound_leave (l := l) (fun k => ?_) (fun m hm => ?_) ?_ hq
    · show (((s.setTrunk t { s.trunk t with queue := rest })).trunk k).queue = _
      by_cases e : k = t
      · subst e
        rw [State.trunk_setTrunk_same, hh, List.filter_cons]
        simp only [bne_self_eq_false, Bool.false_eq_true, if_false]
        exact (List.filter_eq_self.mpr fun m hm => bne_iff_ne.mpr fun (h : m = l) => hnd.1 (h ▸ hm)).symm
      · rw [State.trunk_setTrunk_ne _ _ _ _ e]
        exact (List.filter_eq_self.mpr fun m hm => bne_iff_ne.mpr fun (h : m = l) => e (hq.trunk_unique (h ▸ hm) hmem)).symm
    · show ((State.setRecord (s.setTrunk t _) l _).pour m).record.code = 1 ↔ _
      rw [State.setRecord, State.pour_setPour_ne _ _ _ _ hm]
      rfl
    · show ((State.setRecord (s.setTrunk t _) l _).pour l).record.code ≠ 1
      simp [State.setRecord, PourRec.enterPouring, PourRec.code]

theorem State.promoteUpTo_keeps (n : Nat) (s : State) (t : Trunk) : Keeps s (State.promoteUpTo n s t) := by
  induction n generalizing s with
  | zero => exact .refl s
  | succ n ih =>
    unfold State.promoteUpTo
    split
    · exact (State.promoteHead_keeps t).trans (ih _)
    · exact .refl s

theorem State.promoteAll_keeps : Keeps s s.promoteAll := Keeps.foldl (fun s t => State.promoteUpTo_keeps _ s t) _ _

/-! ### The trunk draw (R46) -/

/-- A request that passed its checks pours, waits or is refused. -/
theorem State.admitDraw_keeps {c : LineCfg} {p : Pour} (hc : (s.line l).cfg = some c) (ho : (s.line l).under.onTap)
    (hi : s.pourIdle l = true) : Keeps s (s.admitDraw l c.trunk p) := by
  have hw := State.not_waiting_of_pourIdle hi
  unfold State.admitDraw
  split
  · exact (State.setRecord_keeps (iff_of_false (by simp [PourRec.enterPouring, PourRec.code]) hw)).trans (State.setShown_keeps ..)
  split
  · rename_i hn
    refine Keeps.of_pourControl (x := (((s.setTrunk c.trunk
      { s.trunk c.trunk with queue := (s.trunk c.trunk).queue ++ [l] }).setRecord l (.waiting p 0)).setShown l none).pourControl)
      fun _ hq => State.queuesSound_join hc ho hw hn ?_ (fun k hk => ?_) (fun m hm => ?_) ?_ hq
    · exact congrArg TrunkDraw.queue (s.trunk_setTrunk_same c.trunk _)
    · exact congrArg TrunkDraw.queue (s.trunk_setTrunk_ne c.trunk k _ hk)
    · show ((State.setShown (State.setRecord (s.setTrunk c.trunk _) l _) l none).pour m).record.code = 1 ↔ _
      rw [State.setShown, State.pour_setPour_ne _ _ _ _ hm, State.setRecord, State.pour_setPour_ne _ _ _ _ hm]
      rfl
    · show ((State.setShown (State.setRecord (s.setTrunk c.trunk _) l _) l none).pour l).record.code = 1
      simp [State.setShown, State.setRecord, PourRec.code]
  · exact (State.releasePour_keeps p).trans (State.setShown_keeps ..)

end

end Sys2Proof.Machine
end

section
/-! PROOF. Cellar Climate (Chapter 7), the applies of the valve groups (R166 to R168), the timebase channels (R161 to R164) and the
loops' own records keep the invariants of a step. -/

namespace Sys2Proof.Machine

section
variable {s : State}

/-! ### Gates, duties and the boost -/

theorem State.raiseTrunk_keeps (t : Trunk) : Keeps s (s.raiseTrunk t) := s.setAttention_keeps _
theorem State.raiseProbe_keeps (i : SenseInput) : Keeps s (s.raiseProbe i) := s.setAttention_keeps _
theorem State.raiseChain_keeps : Keeps s s.raiseChain := s.setAttention_keeps _
theorem State.raisePump_keeps : Keeps s s.raisePump := s.setAttention_keeps _

theorem State.evalGate_keeps (t : Trunk) : Keeps s (s.evalGate t) := by
  unfold State.evalGate
  dsimp only
  split
  · refine Keeps.trans ?_ (State.raiseTrunk_keeps t)
    exact State.setZone_keeps id
  · exact State.setZone_keeps id

theorem State.evalRoleGate_keeps (r : Role) : Keeps s (s.evalRoleGate r) := by
  unfold State.evalRoleGate
  split
  · exact State.evalGate_keeps _
  · exact .refl s

theorem State.evalGates_keeps : Keeps s s.evalGates := Keeps.foldl (fun _ t => State.evalGate_keeps t) _ _

/-- A duty runs from 0 to 16 where the bias does (R131). -/
theorem Climate.dutyOf_le (c : Climate) (t : Trunk) (h : (look c.zones t).bias ≤ 16) : c.dutyOf t ≤ 16 := by
  unfold Climate.dutyOf
  dsimp only
  split
  · exact Nat.zero_le _
  split
  · exact h
  · simp only [clampInt]
    omega

theorem State.fixDuties_keeps : Keeps s s.fixDuties :=
  Keeps.foldl (fun u _ => State.setZone_keeps (s := u) fun ⟨_, hb, hw⟩ => ⟨Climate.dutyOf_le _ _ hb, hb, hw⟩) _ _

theorem State.endBoost_keeps : Keeps s s.endBoost := by
  unfold State.endBoost
  split
  · split
    · exact State.setBoost_keeps nofun
    · exact .refl s
  · exact .refl s

/-- Window 0 counts a cycle of the boost, and ends it at 0 (R137). -/
theorem State.countBoost_keeps : Keeps s s.countBoost := by
  unfold State.countBoost
  split
  · rename_i b hb
    unfold State.endBoost
    simp only [State.setBoost_climate]
    split
    · exact State.setBoost_keeps nofun
    · rename_i hn
      refine State.setBoost_keeps fun hx x hx' => ?_
      obtain ⟨h1, h2, h3, h4⟩ := hx b hb
      cases hx'
      exact ⟨h1, h2, by dsimp only; omega, by dsimp only; omega⟩
  · exact .refl s

theorem State.setOverride_keeps (t : Trunk) : Keeps s (s.setOverride t) := by
  refine Keeps.trans ?_ (State.ask_keeps _ 16 _ _ fun h => absurd h (by decide))
  exact State.setZone_keeps id
theorem State.clearOverride_keeps (t : Trunk) : Keeps s (s.clearOverride t) := State.setZone_keeps id

/-! ### The window (R130) -/

theorem State.writeClimate_keeps : Keeps s s.writeClimate :=
  s.setValve_keeps fun ⟨⟨_, hs, hc, ht⟩, h16, _⟩ => ⟨⟨fun b c hb => by simp [partner] at hb, hs, hc, ht⟩, h16, fun h => absurd h (by decide)⟩

theorem State.windowDuty_keeps : Keeps s s.windowDuty := by
  unfold State.windowDuty
  split
  · exact State.fixDuties_keeps.trans State.countBoost_keeps
  · exact .refl s

theorem State.takeWindow_keeps (n : Nat) : Keeps s (s.takeWindow n) :=
  ((((((State.setWindow_keeps (Nat.mod_lt _ (by decide))).trans State.evalGates_keeps).trans State.windowDuty_keeps).trans
    (State.setChiller_keeps ..)).trans (State.setChiller_keeps ..)).trans (State.setChiller_keeps ..)).trans State.writeClimate_keeps

/-! ### Conversions and roles (R121 to R124) -/

theorem State.restartRole_keeps (r : Role) : Keeps s (s.restartRole r) := by
  unfold State.restartRole
  split
  · exact State.setRole_keeps ..
  · exact .refl s

theorem State.failProbe_keeps (i : SenseInput) : Keeps s (s.failProbe i) := by
  unfold State.failProbe
  split
  · exact .refl s
  split
  · exact ((State.setRole_keeps ..).trans (State.raiseProbe_keeps i)).trans (State.evalRoleGate_keeps _)
  · exact .refl s

theorem State.judgeCode_keeps (i : SenseInput) (bits x : Nat) : Keeps s (s.judgeCode i bits x) := by
  unfold State.judgeCode
  split
  · exact .refl s
  split
  · exact (State.setRole_keeps ..).trans (State.failProbe_keeps i)
  · exact (State.setRole_keeps ..).trans (State.evalRoleGate_keeps _)

theorem State.convert_keeps (code : Nat) : Keeps s (s.convert code) := by
  unfold State.convert
  split
  · exact (State.judgeCode_keeps ..).trans (State.setScanner_keeps ..)
  · exact .refl s

/-- Each role but UNUSED is on at most one input. -/
def State.rolesApart (s : State) : Prop :=
  ∀ i j : SenseInput, i ≠ j → (s.input i).role = (s.input j).role → (s.input i).role = .unused

theorem State.role_input_setInput (i j : SenseInput) (x : InputChannel) :
    (s.setInput i x).input j = if j = i then x else s.input j := by
  split
  · subst j; simp [State.input]
  · simp [State.input, look_put_ne _ _ _ _ ‹_›]

/-- The role of each input after the present holder lost it and the input of the command took it. -/
theorem State.role_assigned (i j : SenseInput) (r : Role) (base : Int) (span : Nat) :
    (((s.dropRole (s.otherHolder i r)).setInput i { role := r, base := base, span := span }).input j).role =
      if j = i then r else if s.otherHolder i r = some j then .unused else (s.input j).role := by
  rw [State.role_input_setInput]
  by_cases e : j = i
  · rw [if_pos e, if_pos e]
  · rw [if_neg e, if_neg e]
    unfold State.dropRole
    split
    · rename_i k hk
      rw [State.role_input_setInput, hk]
      by_cases e' : j = k
      · subst e'; simp
      · rw [if_neg e', if_neg fun h => e' (Option.some.inj h).symm]
    · rename_i hk
      simp [hk]

theorem State.rolesApart_assigned (i : SenseInput) (r : Role) (base : Int) (span : Nat) (h : s.rolesApart) :
    ((s.dropRole (s.otherHolder i r)).setInput i { role := r, base := base, span := span }).rolesApart := by
  -- an input other than `i` has the role `r` no more
  have gone (j : SenseInput) (hj : j ≠ i) (hr : r ≠ .unused) : (if s.otherHolder i r = some j then Role.unused else (s.input j).role) ≠ r := by
    split
    · exact hr.symm
    · rename_i hn
      intro hjr
      cases hf : (indices 16).find? (fun j => j != i && (s.input j).role == r) with
      | none =>
        have := List.find?_eq_none.mp hf j (mem_indices j)
        simp [hj, hjr] at this
      | some k =>
        have hk := List.find?_some hf
        simp only [Bool.and_eq_true, bne_iff_ne, beq_iff_eq] at hk
        have : s.otherHolder i r = some k := by rw [State.otherHolder, if_neg hr, hf]
        have hne : j ≠ k := by rintro rfl; exact hn this
        exact hr (hjr ▸ h j k hne (hjr.trans hk.2.symm))
  intro a b hab
  rw [State.role_assigned, State.role_assigned]
  by_cases hr : r = .unused
  · subst hr
    intro he
    by_cases ha : a = i
    · rw [if_pos ha]
    rw [if_neg ha] at he ⊢
    by_cases hb : b = i
    · rw [if_pos hb] at he; exact he
    rw [if_neg hb] at he
    simp only [State.otherHolder, if_true, reduceCtorEq, if_false] at he ⊢
    exact h a b hab he
  · by_cases ha : a = i
    · subst ha
      rw [if_pos rfl, if_neg hab.symm]
      exact fun he => absurd he.symm (gone b hab.symm hr)
    · rw [if_neg ha]
      by_cases hb : b = i
      · rw [if_pos hb]
        exact fun he => absurd he (gone a ha hr)
      · rw [if_neg hb]
        split
        · exact fun _ => rfl
        · split
          · exact id
          · exact h a b hab

theorem State.assign_keeps (i : SenseInput) (r : Role) (base : Int) (span : Nat) : Keeps s (s.assign i r base span) := by
  have hset : Keeps s ((s.dropRole (s.otherHolder i r)).setInput i { role := r, base := base, span := span }) := by
    have ha := State.rolesApart_assigned (s := s) i r base span
    revert ha
    unfold State.dropRole
    split <;> exact fun ha => Same.keeps { clocks := fun ⟨h1, h2, h3, h4, h5, h6, h7, h8⟩ => ⟨h1, h2, h3, h4, h5, h6, ha h7, h8⟩ }
  unfold State.assign
  dsimp only
  have h2 := (hset.trans (State.restartRole_keeps (s.input i).role)).trans (State.restartRole_keeps r)
  split
  · exact h2.trans (State.evalRoleGate_keeps r)
  · exact (h2.trans (State.evalRoleGate_keeps _)).trans (State.evalRoleGate_keeps r)

/-! ### The applies (R166 to R168) -/

theorem and_zero_of_sub {p q m : Pattern} (h : p &&& m = 0#8) : (p &&& q) &&& m = 0#8 := by
  rw [BitVec.and_assoc, BitVec.and_comm q m, ← BitVec.and_assoc, h]; simp

theorem GroupPatterns.phase1_kept {g : ValveGroup} {x : GroupPatterns} (hg : g ≠ 16) (h : GroupKept g x) : GroupKept g x.phase1 := by
  obtain ⟨⟨hn, hs, hc, ht⟩, -, h17⟩ := h
  refine ⟨⟨hn, hn, hc.mono fun b hb => ?_, fun _ => ?_⟩, fun e => absurd e hg, fun e => ?_⟩
  · simp only [GroupPatterns.phase1, BitVec.getLsbD_and, Bool.and_eq_true] at hb
    exact hb.1
  · simp [GroupPatterns.phase1, BitVec.and_assoc]
  · obtain ⟨h1, h2, h3⟩ := h17 e
    exact ⟨h1, h1, and_zero_of_sub h3⟩

/-- With turn-ons pending nothing is on that the snapshot has off, so phase 2 leaves the snapshot on. -/
theorem or_eq_of_and_not {p q : Pattern} (h : p &&& ~~~q = 0#8) : p ||| q = q := by
  ext i hi
  have := congrArg (fun x : Pattern => x[i]) h
  simp only [BitVec.getElem_and, BitVec.getElem_not, BitVec.getElem_zero, BitVec.getElem_or] at this ⊢
  cases hp : p[i] <;> cases hq : q[i] <;> simp_all

theorem GroupPatterns.phase2_kept {g : ValveGroup} {x : GroupPatterns} (h : GroupKept g x) : GroupKept g x.phase2 := by
  obtain ⟨⟨hn, hs, hc, ht⟩, h16, h17⟩ := h
  unfold GroupPatterns.phase2
  split
  · rename_i hon
    rw [or_eq_of_and_not (ht hon)]
    exact ⟨⟨hn, hs, hs, nofun⟩, fun _ => rfl, fun e => ⟨(h17 e).1, (h17 e).2.1, (h17 e).2.1⟩⟩
  · exact ⟨⟨hn, hs, hc, ht⟩, h16, h17⟩

theorem GroupPatterns.direct_kept {g : ValveGroup} {x : GroupPatterns} (h : GroupKept g x) : GroupKept g x.direct := by
  obtain ⟨⟨hn, hs, hc, ht⟩, h16, h17⟩ := h
  exact ⟨⟨hn, hn, hn, fun _ => by simp [GroupPatterns.direct]⟩, h16, fun e => ⟨(h17 e).1, (h17 e).1, (h17 e).1⟩⟩

/-- What each group of a list keeps, a list of applies keeps. -/
theorem State.onGroups_keeps {gs : List ValveGroup} {f : GroupPatterns → GroupPatterns}
    (h : ∀ g ∈ gs, ∀ x, GroupKept g x → GroupKept g (f x)) (s : State) : Keeps s (s.onGroups gs f) := by
  induction gs generalizing s with
  | nil => exact .refl s
  | cons g gs ih =>
    exact (s.setValve_keeps (h g (.head _) _)).trans (ih (fun g' hg' => h g' (.tail _ hg')) _)

theorem channelGroups_ne {c : Channel} {g : ValveGroup} (h : g ∈ channelGroups c) : g ≠ 16 := by
  revert c g; decide

theorem State.applyPhase1_keeps (c : Channel) : Keeps s (s.applyPhase1 c) :=
  (State.onGroups_keeps (fun _ hg _ => GroupPatterns.phase1_kept (channelGroups_ne hg)) s).trans (State.askShift_keeps _)

theorem State.applyPhase2_keeps (c : Channel) : Keeps s (s.applyPhase2 c) := by
  unfold State.applyPhase2
  split
  · exact (State.onGroups_keeps (fun _ _ _ => GroupPatterns.phase2_kept) s).trans (State.askShift_keeps _)
  · exact .refl s

theorem State.applyDirect_keeps : Keeps s s.applyDirect :=
  (State.onGroups_keeps (fun _ _ _ => GroupPatterns.direct_kept) s).trans (State.askShift_keeps _)

theorem State.startShift_keeps : Keeps s s.startShift := by
  unfold State.startShift
  split
  · exact Same.keeps {}
  · exact .refl s

theorem State.clearFault_keeps : Keeps s s.clearFault := Same.keeps {}

/-! ### The timebase (R161 to R164) -/

theorem TimeChannel.atPeriod_sound {c : TimeChannel} (h : c.sound) : c.atPeriod.sound := by
  obtain ⟨h1, h2, h3, h4, h5, h6⟩ := h
  unfold TimeChannel.atPeriod
  split
  · rename_i p m hp
    obtain ⟨a, b, d, e⟩ := h6 _ hp
    exact ⟨a, b, d, e, by dsimp only at a ⊢; omega, nofun⟩
  · exact ⟨h1, h2, h3, h4, by dsimp only; omega, h6⟩

/-- A channel at another count below its period. -/
theorem State.setCounter_keeps (c : Channel) (n : Nat) (h : (s.channel c).sound → n < (s.channel c).period) :
    Keeps s (s.setChannel c { s.channel c with counter := n }) :=
  State.setChannel_keeps fun hs => ⟨hs.1, hs.2.1, hs.2.2.1, hs.2.2.2.1, h hs, hs.2.2.2.2.2⟩

theorem State.latchPump_keeps : Keeps s s.latchPump :=
  Same.keeps { clocks := fun ⟨h1, h2, _, h4⟩ => ⟨h1, Nat.zero_le _, h2, h4⟩ }

theorem State.countPump_keeps : Keeps s s.countPump :=
  Same.keeps { clocks := fun ⟨h1, _, h3⟩ => ⟨h1, Nat.min_le_right .., h3⟩ }

theorem State.restartChannel_keeps (mask : Byte) (c : Channel) : Keeps s (State.restartChannel mask s c) := by
  unfold State.restartChannel
  split
  · exact State.setCounter_keeps c 0 fun h => Nat.lt_of_lt_of_le (by decide) h.1
  · exact .refl s

theorem State.setPending_keeps (c : Channel) (p m : Nat) :
    Keeps s (s.setChannel c { s.channel c with pending := some (pendingOf p m) }) := by
  refine State.setChannel_keeps fun ⟨h1, h2, h3, h4, h5, _⟩ => ⟨h1, h2, h3, h4, h5, fun x hx => ?_⟩
  cases hx
  simp only [pendingOf, clampNat]
  omega

/-! ### The loops' records (R107 to R118) -/

theorem State.setRecv_keeps {b : Binding} {x : Option RecvState} (h : x.isSome = (s.recv b).isSome) : Keeps s (s.setRecv b x) := by
  refine State.setLoop_keeps rfl (fun k => ?_) id
  by_cases e : k = b.slot
  · subst e; simpa [State.recv] using h
  · rw [look_put_ne _ _ _ _ e]

theorem State.countCheckError_keeps (i : LoopId) : Keeps s (s.countCheckError i) := State.setLoop_keeps rfl (fun _ => rfl) id
theorem State.countStale_keeps (i : LoopId) : Keeps s (s.countStale i) := State.setLoop_keeps rfl (fun _ => rfl) id

/-- The frame sync of a RUNNING loop begins slot 0. -/
theorem State.frameSync_keeps {i : LoopId} (h : (s.loop i).isRunning = true) : Keeps s (s.frameSync i) := by
  refine State.setLoop_keeps rfl (fun _ => rfl) fun ⟨h1, h2, h3, h4⟩ => ⟨h1, h2, fun hst => ?_, fun k hk => ?_⟩
  · simp only at hst
    simp [LoopRec.isRunning, hst] at h
  · cases hk
    dsimp only
    omega

theorem State.startLoop_keeps (i : LoopId) : Keeps s (s.startLoop i) := by
  unfold State.startLoop
  refine Keeps.trans ?_ (State.frameSync_keeps (by simp [LoopRec.isRunning]))
  exact State.setLoop_keeps rfl (fun _ => rfl) fun ⟨h1, h2, _, h4⟩ => ⟨h1, h2, fun h => (by cases h), h4⟩

theorem LoopRec.cleared_recv (r : LoopRec) (k : Slot) : (look r.cleared.recv k).isSome = (look r.recv k).isSome := by
  have fold (xs : List Slot) (v : Vector (Option RecvState) 24) :
      (look (xs.foldl (fun v k => if (look v k).isSome then put v k (some RecvState.fresh) else v) v) k).isSome =
        (look v k).isSome := by
    induction xs generalizing v with
    | nil => rfl
    | cons x xs ih =>
      rw [List.foldl_cons, ih]
      split
      · rename_i h
        by_cases e : k = x
        · subst e; simpa using h.symm
        · rw [look_put_ne _ _ _ _ e]
      · rfl
  simp only [LoopRec.cleared]
  rw [fold]

theorem LoopRec.cleared_slotCount (r : LoopRec) : r.cleared.slotCount = r.slotCount := rfl

theorem LoopRec.cleared_sound {r : LoopRec} (h : r.sound) : r.cleared.sound := by
  obtain ⟨h1, h2, h3, h4⟩ := h
  exact ⟨h1, h2, h3, h4⟩

theorem State.setCleared_keeps (i : LoopId) : Keeps s (s.setLoop i (s.loop i).cleared) := by
  have hr := LoopRec.cleared_recv (s.loop i)
  have hs := LoopRec.cleared_sound (r := s.loop i)
  have hn : (s.loop i).cleared.slotCount = (s.loop i).slotCount := LoopRec.cleared_slotCount _
  generalize (s.loop i).cleared = r at hr hs hn ⊢
  exact State.setLoop_keeps hn hr hs

/-- A stopped loop has no slot in progress. -/
theorem State.setStopped_keeps (i : LoopId) : Keeps s (s.setLoop i { s.loop i with state := .stopped, slot := none }) :=
  State.setLoop_keeps rfl (fun _ => rfl) fun ⟨h1, h2, _, _⟩ => ⟨h1, h2, fun _ => rfl, fun _ h => by cases h⟩

/-- The slot after the one in progress is below the slot count, and a STOPPED loop has none. -/
theorem State.setSlotAfter_keeps (b : Binding) (h : (s.loop b.loop).isRunning = true) :
    Keeps s (s.setLoop b.loop { s.loop b.loop with slot := (s.loop b.loop).slotAfter b.slot }) := by
  refine State.setLoop_keeps rfl (fun _ => rfl) fun ⟨h1, h2, _, _⟩ => ⟨h1, h2, fun hst => ?_, fun k hk => ?_⟩
  · simp only at hst
    simp [LoopRec.isRunning, hst] at h
  · dsimp only at hk
    unfold LoopRec.slotAfter at hk
    split at hk
    · split at hk
      · cases hk; assumption
      · cases hk
    · cases hk

end

end Sys2Proof.Machine
end

section
/-! PROOF. What the Cleaning Sequencer writes: line records, kegs, zones, its group, next patterns and attention. -/

namespace Sys2Proof.Machine

/-- A state with the records that the Cleaning Sequencer writes taken from another. -/
def State.sequenced (s t : State) : State :=
  { s with
    lineTable := { s.lineTable with lines := t.lineTable.lines }
    kegRegister := { s.kegRegister with kegs := t.kegRegister.kegs }
    climate := { s.climate with zones := t.climate.zones }
    cleaning := { s.cleaning with group := t.cleaning.group }
    valves := { s.valves with groups := t.valves.groups }
    link := { s.link with attention := t.link.attention } }

/-- Nothing changes but what the Cleaning Sequencer writes. -/
def Sequenced (s t : State) : Prop := t = s.sequenced t

theorem Sequenced.refl (s : State) : Sequenced s s := rfl

theorem Sequenced.trans {s t u : State} (h : Sequenced s t) (k : Sequenced t u) : Sequenced s u := by
  have e : t.sequenced u = (s.sequenced t).sequenced u := congrArg (State.sequenced · u) h
  exact Eq.trans k e

theorem Sequenced.foldl {α : Type} {f : State → α → State} (h : ∀ s x, Sequenced s (f s x)) (xs : List α) (s : State) :
    Sequenced s (xs.foldl f s) := by
  induction xs generalizing s with
  | nil => exact .refl s
  | cons x xs ih => exact (h s x).trans (ih _)

section
variable {s : State}

theorem State.ask_sequenced (g : ValveGroup) (b : Fin 8) (on : Bool) : Sequenced s (s.ask g b on) := rfl
theorem State.setGroup_sequenced (g : Option Group) : Sequenced s (s.setGroup g) := rfl
theorem State.clearOverride_sequenced (t : Trunk) : Sequenced s (s.clearOverride t) := rfl
theorem State.setOverride_sequenced (t : Trunk) : Sequenced s (s.setOverride t) := rfl
theorem State.addPurgeLoss_sequenced (l : Line) (n : Nat) : Sequenced s (s.addPurgeLoss l n) := rfl
theorem State.setAttention_sequenced (a : Attention) : Sequenced s (s.setAttention a) := rfl

theorem State.purgeLoss_sequenced (l : Line) (n : Nat) (p : Option Position) : Sequenced s (s.purgeLoss l n p) := by
  unfold State.purgeLoss
  split
  · rfl
  split
  · split <;> rfl
  · rfl

theorem State.askSkid_sequenced (a b c d e : Bool) : Sequenced s (s.askSkid a b c d e) := by
  unfold State.askSkid
  cases b <;> rfl

theorem State.askPhase_sequenced (p : Phase) : Sequenced s (s.askPhase p) := by
  cases p <;> exact State.askSkid_sequenced ..

theorem State.reportLine_sequenced (x : GroupLine) : Sequenced s (s.reportLine x) := by
  unfold State.reportLine
  split
  · exact (State.addPurgeLoss_sequenced ..).trans (State.purgeLoss_sequenced ..)
  · rfl

theorem State.reportLoss_sequenced (g : Group) : Sequenced s (s.reportLoss g) := by
  unfold State.reportLoss
  split
  · rfl
  · exact Sequenced.foldl (fun _ x => State.reportLine_sequenced x) _ _

theorem State.endHeating_sequenced (g : Group) : Sequenced s (s.endHeating g) := by
  unfold State.endHeating
  split
  · dsimp only
    split
    · exact (State.ask_sequenced 17 3 false).trans (Sequenced.foldl (fun _ t => State.clearOverride_sequenced t) _ _)
    · rfl
  · rfl

theorem State.enterRelease_sequenced (g : Group) : Sequenced s (s.enterRelease g) :=
  ((State.endHeating_sequenced g).trans (State.askPhase_sequenced _)).trans (State.setGroup_sequenced _)

theorem State.abandon_sequenced (g : Group) : Sequenced s (s.abandon g) :=
  (State.reportLoss_sequenced g).trans (State.enterRelease_sequenced _)

theorem State.startRun_sequenced (g : Group) (p : Phase) (n : Nat) : Sequenced s (s.startRun g p n) := by
  unfold State.startRun
  split
  · exact (State.askPhase_sequenced p).trans (State.setGroup_sequenced _)
  · exact State.abandon_sequenced g

theorem State.enterVerify_sequenced (g : Group) : Sequenced s (s.enterVerify g) :=
  (State.askPhase_sequenced _).trans (State.setGroup_sequenced _)

theorem State.decideHeater_sequenced (g : Group) : Sequenced s (s.decideHeater g) := by
  unfold State.decideHeater
  split <;> rfl

theorem State.enterSoak_sequenced (g : Group) : Sequenced s (s.enterSoak g) := by
  unfold State.enterSoak
  refine Sequenced.trans ?_ (State.decideHeater_sequenced _)
  split
  · exact (State.askPhase_sequenced .soak).trans (Sequenced.foldl (fun _ t => State.setOverride_sequenced t) _ _)
  · exact State.askPhase_sequenced .soak

theorem State.endCaustic_sequenced (g : Group) : Sequenced s (s.endCaustic g) := by
  unfold State.endCaustic
  split
  · exact State.enterSoak_sequenced g
  split <;> exact State.startRun_sequenced ..

theorem State.endRun_sequenced (g : Group) : Sequenced s (s.endRun g) := by
  unfold State.endRun
  split
  · split
    · exact (State.reportLoss_sequenced g).trans (State.startRun_sequenced ..)
    · exact State.endCaustic_sequenced g
    · exact State.enterVerify_sequenced g
    · rfl
  · exact State.abandon_sequenced g

theorem State.settleRun_sequenced (g : Group) : Sequenced s (s.settleRun g) := by
  unfold State.settleRun
  split
  · exact State.endRun_sequenced g
  · rfl

theorem State.askValves_sequenced (l : Line) : Sequenced s (s.askValves l) := by rw [State.askValves_frame]; rfl

theorem State.releaseLine_sequenced (l : Line) (r : CleanResult) : Sequenced s (s.releaseLine l r) := by
  unfold State.releaseLine
  dsimp only
  split
  · rw [State.changeLine_frame]; rfl
  · rfl

theorem State.releaseGroup_sequenced (g : Group) : Sequenced s (s.releaseGroup g) := by
  unfold State.releaseGroup
  dsimp only
  have h := Sequenced.foldl (fun s (x : GroupLine) => State.releaseLine_sequenced (s := s) x.line x.result.toClean) g.lines s
  split
  · exact (h.trans (State.setAttention_sequenced _)).trans (State.setGroup_sequenced _)
  · exact ((h.trans (State.setAttention_sequenced _)).trans (State.setAttention_sequenced _)).trans (State.setGroup_sequenced _)

theorem State.considerRelease_sequenced : Sequenced s s.considerRelease := by
  unfold State.considerRelease
  split
  · split
    · exact State.releaseGroup_sequenced _
    · rfl
  · rfl

theorem State.drawSettled_sequenced (l : Line) (n : Nat) : Sequenced s (s.drawSettled l n) := by
  unfold State.drawSettled
  split
  · rfl
  · exact (State.settleRun_sequenced _).trans State.considerRelease_sequenced

theorem Sequenced.pour {t : State} (h : Sequenced s t) (l : Line) : t.pour l = s.pour l := by rw [h]; rfl

end

/-! ### The same changes keep the invariants -/

section
variable {s : State}

theorem State.askSkid_keeps (a b c d e : Bool) : Keeps s (s.askSkid a b c d e) := by
  unfold State.askSkid
  have h1 := s.ask_keeps 17 0 a
  cases b
  · exact (((h1.trans (State.ask_keeps _ 17 1 false)).trans (State.ask_keeps _ 17 2 c)).trans (State.ask_keeps _ 17 3 d)).trans
      (State.ask_keeps _ 17 4 e)
  · exact (((h1.trans (State.ask_keeps _ 17 2 false)).trans (State.ask_keeps _ 17 1 true)).trans (State.ask_keeps _ 17 3 d)).trans
      (State.ask_keeps _ 17 4 e)

theorem State.askPhase_keeps (p : Phase) : Keeps s (s.askPhase p) := by
  cases p <;> exact State.askSkid_keeps ..

theorem State.reportLine_keeps (x : GroupLine) : Keeps s (s.reportLine x) := by
  unfold State.reportLine
  split
  · exact (State.addPurgeLoss_keeps ..).trans (State.purgeLoss_keeps ..)
  · exact .refl s

theorem State.reportLoss_keeps (g : Group) : Keeps s (s.reportLoss g) := by
  unfold State.reportLoss
  split
  · exact .refl s
  · exact Keeps.foldl (fun _ x => State.reportLine_keeps x) _ _

theorem State.endHeating_keeps (g : Group) : Keeps s (s.endHeating g) := by
  unfold State.endHeating
  split
  · dsimp only
    have h := s.ask_keeps 17 3 false
    split
    · exact h.trans (Keeps.foldl (fun _ t => State.clearOverride_keeps t) _ _)
    · exact h
  · exact .refl s

theorem State.enterRelease_keeps (g : Group) : Keeps s (s.enterRelease g) :=
  ((State.endHeating_keeps g).trans (State.askPhase_keeps _)).trans (State.setGroup_keeps ..)

theorem State.abandon_keeps (g : Group) : Keeps s (s.abandon g) := (State.reportLoss_keeps g).trans (State.enterRelease_keeps _)

theorem State.startRun_keeps (g : Group) (p : Phase) (n : Nat) : Keeps s (s.startRun g p n) := by
  unfold State.startRun
  split
  · exact (State.askPhase_keeps p).trans (State.setGroup_keeps ..)
  · exact State.abandon_keeps g

theorem State.enterVerify_keeps (g : Group) : Keeps s (s.enterVerify g) := (State.askPhase_keeps _).trans (State.setGroup_keeps ..)

theorem State.decideHeater_keeps (g : Group) : Keeps s (s.decideHeater g) := by
  unfold State.decideHeater
  split
  · exact (State.ask_keeps _ 17 3 _).trans (State.setGroup_keeps ..)
  · exact State.setGroup_keeps ..

theorem State.enterSoak_keeps (g : Group) : Keeps s (s.enterSoak g) := by
  unfold State.enterSoak
  refine Keeps.trans ?_ (State.decideHeater_keeps _)
  split
  · exact (State.askPhase_keeps .soak).trans (Keeps.foldl (fun _ t => State.setOverride_keeps t) _ _)
  · exact State.askPhase_keeps .soak

theorem State.endCaustic_keeps (g : Group) : Keeps s (s.endCaustic g) := by
  unfold State.endCaustic
  split
  · exact State.enterSoak_keeps g
  split <;> exact State.startRun_keeps ..

theorem State.endRun_keeps (g : Group) : Keeps s (s.endRun g) := by
  unfold State.endRun
  split
  · split
    · exact (State.reportLoss_keeps g).trans (State.startRun_keeps ..)
    · exact State.endCaustic_keeps g
    · exact State.enterVerify_keeps g
    · exact State.setGroup_keeps ..
  · exact State.abandon_keeps g

theorem State.settleRun_keeps (g : Group) : Keeps s (s.settleRun g) := by
  unfold State.settleRun
  split
  · exact State.endRun_keeps g
  · exact State.setGroup_keeps ..

theorem State.releaseGroup_keeps (g : Group) : Keeps s (s.releaseGroup g) := by
  unfold State.releaseGroup
  dsimp only
  have h := Keeps.foldl (fun s (x : GroupLine) => State.releaseLine_keeps (s := s) (l := x.line) x.result.toClean) g.lines s
  split
  · exact (h.trans (State.raiseSet_keeps ..)).trans (State.setGroup_keeps ..)
  · exact ((h.trans (State.raiseSet_keeps ..)).trans (State.raiseSet_keeps ..)).trans (State.setGroup_keeps ..)

theorem State.considerRelease_keeps : Keeps s s.considerRelease := by
  unfold State.considerRelease
  split
  · split
    · exact State.releaseGroup_keeps _
    · exact .refl s
  · exact .refl s

theorem State.drawSettled_keeps (l : Line) (n : Nat) : Keeps s (s.drawSettled l n) := by
  unfold State.drawSettled
  split
  · exact .refl s
  · exact (State.settleRun_keeps _).trans State.considerRelease_keeps

/-! ### Draws, halts and steps -/

/-- A pour that is closed tails, and waits neither before nor after. -/
theorem State.setRecord_open_keeps {l : Line} {r : PourRec} (h : (s.pour l).record.code ≠ 1) (h' : r.code ≠ 1) :
    Keeps s (s.setRecord l r) := State.setRecord_keeps (iff_of_false h' h)

theorem State.abortDraw_keeps (l : Line) : Keeps s (s.abortDraw l) := by
  unfold State.abortDraw
  split
  · rename_i hp
    split
    · exact State.setRecord_open_keeps (by rw [hp]; nofun) nofun
    · exact .refl s
  · exact .refl s

theorem State.closePour_keeps (l : Line) (r : CloseReason) : Keeps s (s.closePour l r) := by
  unfold State.closePour
  split
  · rename_i hp
    exact State.setRecord_open_keeps (by rw [hp]; nofun) nofun
  · exact .refl s

theorem State.abortDraws_keeps (xs : List GroupLine) : Keeps s (s.abortDraws xs) :=
  Keeps.foldl (fun _ (x : GroupLine) => State.abortDraw_keeps x.line) _ _

theorem State.issueDraw_keeps {l : Line} {n : Nat} {t : State} (h : s.issueDraw l n = .ok t) : Keeps s t := by
  unfold State.issueDraw at h
  split at h
  · cases h
  · rename_i hr
    cases h
    have hi : s.pourIdle l = true := by
      cases hi : s.pourIdle l with
      | true => rfl
      | false =>
        simp only [State.drawRefusal, hi, if_true] at hr
        split at hr <;> cases hr
    exact State.setRecord_open_keeps (State.not_waiting_of_pourIdle hi) nofun

theorem State.haltGroup_keeps (g : Group) : Keeps s (s.haltGroup g) := by
  unfold State.haltGroup
  dsimp only
  split
  · exact State.setGroup_keeps ..
  · exact ((State.abortDraws_keeps _).trans (State.reportLoss_keeps g)).trans (State.enterRelease_keeps _)

theorem State.pumpFailed_keeps : Keeps s s.pumpFailed := by
  unfold State.pumpFailed
  split
  · split
    · exact State.raisePump_keeps.trans (State.haltGroup_keeps _)
    · exact .refl s
  · exact .refl s

theorem State.runTimeout_keeps : Keeps s s.runTimeout := by
  unfold State.runTimeout
  split
  · split
    · exact (State.abortDraws_keeps _).trans (State.endRun_keeps _)
    · exact .refl s
  · exact .refl s

theorem State.askDraws_keeps (p : Phase) (n : Nat) (xs : List GroupLine) (s : State) : Keeps s (State.askDraws p n s xs).1 := by
  induction xs generalizing s with
  | nil => exact .refl s
  | cons x xs ih =>
    unfold State.askDraws
    split
    · split
      · rename_i hd
        exact (State.issueDraw_keeps hd).trans (ih _)
      · exact ih s
      · exact ih s
    · exact ih s

theorem State.stepDraws_keeps (g : Group) : Keeps s (s.stepDraws g) :=
  (State.askDraws_keeps g.phase g.run g.lines s).trans (State.settleRun_keeps _)

theorem State.finishSoak_keeps : Keeps s s.finishSoak := by
  unfold State.finishSoak
  split
  · split
    · exact (State.endHeating_keeps _).trans (State.startRun_keeps ..)
    · exact .refl s
  · exact .refl s

theorem State.cleanStep_keeps (n : Nat) : Keeps s (s.cleanStep n) := by
  unfold State.cleanStep
  split
  · exact .refl s
  split
  · exact .refl s
  · exact .refl s
  · unfold State.soakStep
    dsimp only
    split
    · exact (State.setGroup_keeps ..).trans State.finishSoak_keeps
    · exact State.decideHeater_keeps _
  · unfold State.verifyStep
    dsimp only
    split
    · exact State.enterRelease_keeps _
    split
    · exact State.startRun_keeps ..
    · exact State.enterRelease_keeps _
  · unfold State.meteredStep
    dsimp only
    have h := s.setGroup_keeps
    split
    · exact (h _).trans State.pumpFailed_keeps
    split
    · exact (h _).trans State.runTimeout_keeps
    · exact (h _).trans (State.stepDraws_keeps _)

theorem State.abortGroup_keeps {g : Group} {t : State} (h : s.abortGroup g = some t) : Keeps s t := by
  have h1 : Keeps s (s.abortDraws g.lines) := State.abortDraws_keeps _
  unfold State.abortGroup at h
  split at h
  · cases h; exact (h1.trans (State.reportLoss_keeps g)).trans (State.enterRelease_keeps _)
  · cases h; exact (h1.trans (State.reportLoss_keeps g)).trans (State.enterRelease_keeps _)
  · cases h; exact (h1.trans (State.endHeating_keeps g)).trans (State.startRun_keeps ..)
  · cases h; exact (h1.trans (State.endHeating_keeps g)).trans (State.startRun_keeps ..)
  · cases h

theorem State.loopStopReport_keeps (ls : List Line) : Keeps s (s.loopStopReport ls) := by
  unfold State.loopStopReport
  split
  · exact .refl s
  · dsimp only
    split
    · exact State.settleRun_keeps _
    · exact State.abandon_keeps _

/-! ### Formation (R143, R144) -/

theorem State.takeLines_keeps (ls : List Line) (s : State) : Keeps s (State.takeLines s ls).1 := by
  induction ls generalizing s with
  | nil => exact .refl s
  | cons l ls ih =>
    unfold State.takeLines
    split
    · exact ih s
    · rename_i t ht
      exact (State.takeLine_keeps ht).trans (ih _)

theorem State.formGroup_keeps : Keeps s s.formGroup := by
  unfold State.formGroup
  split
  · exact .refl s
  split
  · exact .refl s
  dsimp only
  split
  · exact .refl s
  · rename_i s1 xs _ h
    have hk := congrArg (Keeps s) (congrArg Prod.fst h) ▸ State.takeLines_keeps _ s
    exact (hk.trans (State.askPhase_keeps _)).trans (State.setGroup_keeps ..)

theorem State.considerFormation_keeps : Keeps s s.considerFormation := by
  unfold State.considerFormation
  split
  · exact .refl s
  split
  · exact .refl s
  · exact State.formGroup_keeps

theorem State.follow_keeps : Keeps s s.follow :=
  (State.promoteAll_keeps.trans State.considerRelease_keeps).trans State.considerFormation_keeps

/-! ### Removals from the Cleaning Queue and its submissions (R142, R157) -/

/-- A queue with some of its entries. -/
theorem State.setCleanQueue_keeps {q : List CleanEntry} (h : q.Sublist s.cleaning.queue) : Keeps s (s.setCleanQueue q) :=
  ⟨⟨id, id, id, fun _ _ => id, fun _ _ _ _ _ _ => id,
    fun _ ⟨h1, h2, h3, h4⟩ => ⟨h1, h2, h3.sublist (h.map _), fun e he => h4 e (h.subset he)⟩, id, id⟩, id⟩

theorem State.queued_iff {l : Line} : s.queued l = true ↔ l ∈ s.cleaning.queue.map CleanEntry.line := by
  simp [State.queued, List.any_eq_true]

/-- The lines that a submission appends are not in the queue, nor in CLEANING or OFFLINE. -/
theorem State.mem_appended {ls : LineSet} {l : Line} : l ∈ s.appended ls ↔
    ls.getLsbD l.val = true ∧ s.queued l = false ∧ (s.line l).mode ≠ .cleaning ∧ (s.line l).mode ≠ .offline := by
  simp only [State.appended, members, State.skipsSubmit, List.mem_filter, mem_indices, true_and, Bool.not_eq_true', Bool.or_eq_false_iff,
    beq_eq_false_iff_ne, and_assoc]

theorem State.submitted_keeps (ls : LineSet) (n : Fin 4) :
    Keeps s (s.setCleanQueue (s.cleaning.queue ++ (s.appended ls).map fun l => { line := l, recipe := n })) :=
  ⟨⟨id, id, id, fun _ _ => id, fun _ _ _ _ _ _ => id, fun _ ⟨h1, h2, h3, h4⟩ => by
    refine ⟨h1, h2, ?_, fun e he => ?_⟩
    · simp only [State.setCleanQueue_cleaning, List.map_append, List.map_map, Function.comp_def, List.map_id']
      refine h3.append (((List.nodup_finRange 32).filter _).filter _) fun l hl hn => ?_
      have := (State.mem_appended.mp hn).2.1
      rw [State.queued_iff.mpr hl] at this
      cases this
    · rcases List.mem_append.mp he with he | he
      · exact h4 e he
      · obtain ⟨l, hl, rfl⟩ := List.mem_map.mp he
        exact (State.mem_appended.mp hl).2.2, id, id⟩, id⟩

end

end Sys2Proof.Machine
end

section
/-! PROOF. What the work on pours writes (Chapters 2 to 4, 8): line records, pours, wait queues, kegs, accounts, zones, the cleaning group
and queue, next patterns and attention. -/

namespace Sys2Proof.Machine

/-- A state with the records that the work on pours writes taken from another. -/
def State.worked (s t : State) : State :=
  { s with
    lineTable := { s.lineTable with lines := t.lineTable.lines }
    pourControl := { s.pourControl with pours := t.pourControl.pours, trunks := t.pourControl.trunks }
    kegRegister := { s.kegRegister with kegs := t.kegRegister.kegs }
    accounts := t.accounts
    climate := { s.climate with zones := t.climate.zones }
    cleaning := { s.cleaning with queue := t.cleaning.queue, group := t.cleaning.group }
    valves := { s.valves with groups := t.valves.groups }
    link := { s.link with attention := t.link.attention } }

/-- Nothing changes but what the work on pours writes. -/
def Worked (s t : State) : Prop := t = s.worked t

theorem Worked.refl (s : State) : Worked s s := rfl

theorem Worked.trans {s t u : State} (h : Worked s t) (k : Worked t u) : Worked s u := by
  have e : t.worked u = (s.worked t).worked u := congrArg (State.worked · u) h
  exact Eq.trans k e

theorem Worked.foldl {α : Type} {f : State → α → State} (h : ∀ s x, Worked s (f s x)) (xs : List α) (s : State) :
    Worked s (xs.foldl f s) := by
  induction xs generalizing s with
  | nil => exact .refl s
  | cons x xs ih => exact (h s x).trans (ih _)

theorem Sequenced.worked {s t : State} (h : Sequenced s t) : Worked s t := by
  have e : s.worked t = s.worked (s.sequenced t) := congrArg (State.worked s) h
  exact Eq.trans h e.symm

section
variable {s : State} {l : Line}

/-! ### One record -/

theorem State.setLine_worked (r : LineRec) : Worked s (s.setLine l r) := rfl
theorem State.setPour_worked (x : PourSlot) : Worked s (s.setPour l x) := rfl
theorem State.setTrunk_worked (t : Trunk) (d : TrunkDraw) : Worked s (s.setTrunk t d) := rfl
theorem State.setKeg_worked (p : Position) (r : Option KegRec) : Worked s (s.setKeg l p r) := rfl
theorem State.setAccount_worked (i : AccountIx) (a : Option Account) : Worked s (s.setAccount i a) := rfl
theorem State.setAttention_worked (a : Attention) : Worked s (s.setAttention a) := rfl
theorem State.setCleanQueue_worked (q : List CleanEntry) : Worked s (s.setCleanQueue q) := rfl
theorem State.setGroup_worked (g : Option Group) : Worked s (s.setGroup g) := rfl

/-! ### Lines and kegs -/

theorem State.changeLine_worked (r : LineRec) : Worked s (s.changeLine l r) := by rw [State.changeLine_frame]; rfl
theorem State.changeover_worked (p : Position) : Worked s (s.changeover l p) := by rw [State.changeover_frame]; rfl
theorem State.setKegState_worked (p : Position) (x : KegState) : Worked s (s.setKegState l p x) := by
  rw [State.setKegState_frame]; rfl

theorem State.spend_worked (p : Position) : Worked s (s.spend l p) :=
  (State.setKegState_worked p .spent).trans (Worked.trans (t := ((s.setKegState l p .spent).askSelector l p false).raise .kegSpent l)
    rfl (State.changeover_worked p))

theorem State.lowFlowReport_worked : Worked s (s.lowFlowReport l) := by
  unfold State.lowFlowReport
  split
  · rfl
  split
  · rfl
  · dsimp only
    split
    · exact (State.setKeg_worked ..).trans (State.spend_worked _)
    · rfl

theorem State.startPriming_worked {t : State} (h : s.startPriming l = .ok t) : Worked s t := by
  unfold State.startPriming at h
  split at h
  · cases h
  split at h
  · cases h
  split at h
  · cases h
  rename_i u hu
  cases h
  refine Worked.trans (t := u) ?_ (State.changeLine_worked _)
  rw [State.putOnTap_frame hu]
  rfl

theorem State.kegSettled_worked (a : Amounts) (r : CloseReason) (n : Nat) : Worked s (s.kegSettled l a r n) := by
  unfold State.kegSettled State.onKeg
  split
  · split <;> rfl
  · rfl

theorem State.settlePrime_worked (n loss : Nat) : Worked s (s.settlePrime l n loss) := by
  simp only [State.settlePrime]
  split
  · split
    · exact (State.changeLine_worked _).trans rfl
    · rfl
  · rfl

/-! ### Settlement -/

theorem State.teach_worked (p : Pour) (r : CloseReason) (e : Ending) (n : Nat) : Worked s (s.teach l p r e n) := by
  unfold State.teach
  split
  · split <;> rfl
  · rfl

theorem State.settleAccount_worked (p : Pour) (n : Nat) : Worked s (s.settleAccount p n) := by
  unfold State.settleAccount
  split
  · rw [State.settleHold_frame]; rfl
  · rfl

theorem State.settleShares_worked (p : Pour) (r : CloseReason) (n : Nat) : Worked s (s.settleShares l p r n) := by
  unfold State.settleShares
  split
  · rfl
  · exact (State.kegSettled_worked ..).trans (State.settlePrime_worked ..)
  · exact (State.kegSettled_worked ..).trans rfl

theorem State.settleLowFlow_worked (p : Pour) (r : CloseReason) : Worked s (s.settleLowFlow l p r) := by
  unfold State.settleLowFlow
  split
  · exact State.lowFlowReport_worked
  · rfl

theorem State.settleClean_worked (p : Pour) (n : Nat) : Worked s (s.settleClean l p n) := by
  unfold State.settleClean
  split
  · exact (State.drawSettled_sequenced ..).worked
  · rfl

theorem State.settle_worked (p : Pour) (v : Nat) (r : CloseReason) (e : Ending) : Worked s (s.settle l p v r e) :=
  (((((State.teach_worked p r e _).trans (State.settleAccount_worked p _)).trans (State.settleShares_worked p r _)).trans
    (State.settleLowFlow_worked p r)).trans (State.settleClean_worked p _)).trans rfl

/-! ### The pours of a line -/

theorem State.releasePour_worked (p : Pour) : Worked s (s.releasePour p) := by rw [State.releasePour_frame]; rfl
theorem State.withdraw_worked : Worked s (s.withdraw l) := by rw [State.withdraw_frame]; rfl

theorem State.endAtOnce_worked (r : CloseReason) : Worked s (s.endAtOnce l r) := by
  unfold State.endAtOnce
  split
  · rfl
  · exact State.withdraw_worked
  · exact State.settle_worked ..
  · exact State.settle_worked ..

theorem State.waitTimeout_worked : Worked s (s.waitTimeout l) := by
  unfold State.waitTimeout
  split
  · split
    · exact State.withdraw_worked.trans rfl
    · rfl
  · rfl

theorem State.closePour_worked (r : CloseReason) : Worked s (s.closePour l r) := by
  unfold State.closePour
  split <;> rfl

theorem State.overtime_worked : Worked s (s.overtime l) := by
  unfold State.overtime
  split
  · split
    · exact State.closePour_worked _
    · rfl
  · rfl

theorem State.judgeBlock_worked : Worked s (s.judgeBlock l) := by
  unfold State.judgeBlock
  split
  · split
    · rfl
    split
    · exact State.closePour_worked _
    · rfl
  · rfl

theorem State.quietSettle_worked : Worked s (s.quietSettle l) := by
  unfold State.quietSettle
  split
  · split
    · exact State.settle_worked ..
    · rfl
  · rfl

theorem State.tailWindow_worked : Worked s (s.tailWindow l) := by
  unfold State.tailWindow
  split
  · split
    · exact State.settle_worked ..
    · rfl
  · rfl

/-! ### Frames and arrivals -/

theorem State.countIfSaturated_worked (a : Arrival) : Worked s (s.countIfSaturated l a) := by
  unfold State.countIfSaturated
  split <;> rfl

theorem State.pouringFrame_worked (d : Nat) : Worked s (s.pouringFrame l d) := by
  unfold State.pouringFrame
  split
  · dsimp only
    split
    · rfl
    · have h (n bf bp : Nat) (p : Pour) : Worked s ((s.setRecord l (.pouring p n bf bp)).overtime l) :=
        (State.setPour_worked _).trans State.overtime_worked
      split
      · split
        · exact (h ..).trans ((State.setPour_worked _).trans State.judgeBlock_worked)
        · exact h ..
      · exact h ..
  · rfl

theorem State.pouringArrival_worked (a : Arrival) : Worked s (s.pouringArrival l a) := by
  unfold State.pouringArrival
  split
  · dsimp only
    have h (r : PourRec) : Worked s ((s.countIfSaturated l a).setRecord l r) := (State.countIfSaturated_worked a).trans rfl
    split
    · exact h _
    split
    · exact (h _).trans (State.closePour_worked _)
    · exact (h _).trans (State.pouringFrame_worked _)
  · rfl

theorem State.tailingFrame_worked (d : Option Nat) : Worked s (s.tailingFrame l d) := by
  unfold State.tailingFrame
  split
  · exact ((State.setPour_worked _).trans State.quietSettle_worked).trans State.tailWindow_worked
  · rfl

theorem State.waitingFrame_worked : Worked s (s.waitingFrame l) := by
  unfold State.waitingFrame
  split
  · exact (State.setPour_worked _).trans State.waitTimeout_worked
  · rfl

theorem State.arrivalFrame_worked (a : Arrival) : Worked s (s.arrivalFrame l a) := by
  unfold State.arrivalFrame
  split
  · rfl
  · split
    · exact State.withdraw_worked
    · exact State.waitingFrame_worked
  · exact State.pouringArrival_worked a
  · exact (State.countIfSaturated_worked a).trans (State.tailingFrame_worked _)

theorem State.missFrame_worked : Worked s (s.missFrame l) := by
  unfold State.missFrame
  split
  · rfl
  · exact State.waitingFrame_worked
  · exact State.pouringFrame_worked _
  · exact State.tailingFrame_worked _

/-! ### Requests -/

theorem State.admitDraw_worked (t : Trunk) (p : Pour) : Worked s (s.admitDraw l t p) := by
  unfold State.admitDraw
  split
  · rfl
  split
  · rfl
  · exact (State.releasePour_worked p).trans rfl

theorem State.judgeRequest_worked (c : LineCfg) (k : PourKind) : Worked s (s.judgeRequest l c k) := by
  unfold State.judgeRequest
  split
  · rfl
  split
  · rfl
  split
  · rfl
  dsimp only
  split
  · exact State.admitDraw_worked ..
  rename_i id _
  obtain ⟨e, -⟩ | ⟨i, a, -, -, ⟨-, e⟩ | ⟨-, e⟩⟩ := s.placeHold_cases id (s.requestPour l c k (s.lineGate l == .warn)).hold <;> rw [e]
  · rfl
  · rfl
  · exact (State.setAccount_worked ..).trans (State.admitDraw_worked ..)

theorem State.request_worked (code : BitVec 3) : Worked s (s.request l code) := by
  unfold State.request
  split
  · rfl
  split
  · rfl
  · exact State.judgeRequest_worked ..
  · split
    · rfl
    · rename_i h
      exact (State.startPriming_worked h).trans (State.judgeRequest_worked ..)

theorem State.arrival_worked (a : Arrival) : Worked s (s.arrival l a) := by
  have h : Worked s (if a.effective = 0#3 then s.setShown l none else s) := by split <;> rfl
  unfold State.arrival
  dsimp only
  generalize (if a.effective = 0#3 then s.setShown l none else s) = u at h ⊢
  split
  · split
    · exact h.trans (State.request_worked _)
    · exact h
  · refine Worked.trans ?_ (State.arrivalFrame_worked a)
    split
    · exact h.trans (State.request_worked _)
    · exact h

end

/-! ### What may follow a command -/

/-- A state with the records that may follow a command (R48, R143, R155) taken from another. -/
def State.followed (s t : State) : State :=
  { s with
    lineTable := { s.lineTable with lines := t.lineTable.lines }
    pourControl := { s.pourControl with pours := t.pourControl.pours, trunks := t.pourControl.trunks }
    kegRegister := { s.kegRegister with kegs := t.kegRegister.kegs }
    cleaning := { s.cleaning with queue := t.cleaning.queue, group := t.cleaning.group }
    valves := { s.valves with groups := t.valves.groups }
    link := { s.link with attention := t.link.attention } }

/-- Nothing changes but what may follow a command, and of the valve groups their next patterns alone. -/
structure Followed (s t : State) : Prop where
  frame : t = s.followed t
  next : ∀ g : ValveGroup, t.valve g = { s.valve g with next := (t.valve g).next }

theorem Followed.refl (s : State) : Followed s s := ⟨rfl, fun _ => rfl⟩

theorem Followed.trans {s t u : State} (h : Followed s t) (k : Followed t u) : Followed s u := by
  have e : t.followed u = (s.followed t).followed u := congrArg (State.followed · u) h.frame
  exact ⟨k.frame.trans e, fun g => by rw [k.next g, h.next g]⟩

theorem Followed.foldl {α : Type} {f : State → α → State} (h : ∀ s x, Followed s (f s x)) (xs : List α) (s : State) :
    Followed s (xs.foldl f s) := by
  induction xs generalizing s with
  | nil => exact .refl s
  | cons x xs ih => exact (h s x).trans (ih _)

theorem Followed.worked {s t : State} (h : Followed s t) : Worked s t := by
  have e : s.worked t = s.worked (s.followed t) := congrArg (State.worked s) h.frame
  exact h.frame.trans e.symm

section
variable {s : State} {l : Line}

/-- A change that leaves the valves and writes only what may follow a command. -/
theorem Followed.of_frame {t : State} (h : t = s.followed t) (hv : t.valves.groups = s.valves.groups) : Followed s t :=
  ⟨h, fun g => by simp only [State.valve, hv]⟩

theorem State.setCleanQueue_followed (q : List CleanEntry) : Followed s (s.setCleanQueue q) := .of_frame rfl rfl

theorem State.ask_followed (g : ValveGroup) (b : Fin 8) (on : Bool) : Followed s (s.ask g b on) :=
  ⟨rfl, fun h => by rw [State.ask_valve]; split <;> simp [*]⟩

theorem State.askValves_followed : Followed s (s.askValves l) := by
  unfold State.askValves
  split <;> exact (State.ask_followed ..).trans (State.ask_followed ..)

theorem State.changeLine_followed (r : LineRec) : Followed s (s.changeLine l r) :=
  Followed.trans (t := s.setLine l r) (.of_frame rfl rfl) State.askValves_followed

theorem State.askSkid_followed (a b c d e : Bool) : Followed s (s.askSkid a b c d e) := by
  unfold State.askSkid
  refine Followed.trans (Followed.trans ?_ (State.ask_followed 17 3 d)) (State.ask_followed 17 4 e)
  cases b <;> exact (State.ask_followed 17 0 a).trans ((State.ask_followed ..).trans (State.ask_followed ..))

theorem State.askPhase_followed (p : Phase) : Followed s (s.askPhase p) := by
  cases p <;> exact State.askSkid_followed ..

theorem State.promoteAll_followed : Followed s s.promoteAll :=
  Followed.foldl (fun u t => .of_frame (by rw [State.promote_frame]; rfl) (by rw [State.promote_frame])) _ _

theorem State.releaseLine_followed (r : CleanResult) : Followed s (s.releaseLine l r) := by
  unfold State.releaseLine
  dsimp only
  split
  · exact State.changeLine_followed _
  · exact .refl s

theorem State.releaseGroup_followed (g : Group) : Followed s (s.releaseGroup g) := by
  unfold State.releaseGroup
  dsimp only
  refine (Followed.foldl (fun s (x : GroupLine) => State.releaseLine_followed (s := s) (l := x.line) x.result.toClean) g.lines s).trans ?_
  split <;> exact .of_frame rfl rfl

theorem State.considerRelease_followed : Followed s s.considerRelease := by
  obtain ⟨g, -, -, -, h⟩ | h := s.considerRelease_cases <;> rw [h]
  · exact State.releaseGroup_followed g
  · exact .refl s

theorem State.kegToStandby_followed : Followed s (s.kegToStandby l) := by
  unfold State.kegToStandby
  split
  · refine Followed.trans (.of_frame ?_ ?_) (State.ask_followed ..) <;> rw [State.setKegState_frame]
    rfl
  · exact .refl s

theorem State.takeLine_followed {t : State} (h : s.takeLine l = some t) : Followed s t := by
  simp only [State.takeLine, Option.ite_none_right_eq_some, Option.some.injEq] at h
  obtain ⟨-, rfl⟩ := h
  refine Followed.trans ?_ (State.changeLine_followed _)
  split
  · exact State.kegToStandby_followed
  · exact .refl s

theorem State.takeLines_followed (ls : List Line) (s : State) : Followed s (State.takeLines s ls).1 := by
  induction ls generalizing s with
  | nil => exact .refl s
  | cons l ls ih =>
    unfold State.takeLines
    split
    · exact ih s
    · rename_i t ht
      exact ((State.takeLine_followed ht).trans (State.setCleanQueue_followed _)).trans (ih _)

theorem State.formGroup_followed : Followed s s.formGroup := by
  unfold State.formGroup
  split
  · exact .refl s
  split
  · exact .refl s
  dsimp only
  split
  · exact .refl s
  · rename_i h
    have hk := congrArg (Followed s) (congrArg Prod.fst h) ▸ State.takeLines_followed _ s
    exact (hk.trans (State.askPhase_followed .take)).trans (.of_frame rfl rfl)

theorem State.considerFormation_followed : Followed s s.considerFormation := by
  unfold State.considerFormation
  split
  · exact .refl s
  split
  · exact .refl s
  · exact State.formGroup_followed

theorem State.follow_followed : Followed s s.follow :=
  (State.promoteAll_followed.trans State.considerRelease_followed).trans State.considerFormation_followed

/-! ### Where nothing follows -/

theorem State.promoteAll_none (h : ∀ t, (s.trunk t).queue = [] ∨ s.mayPromote t = false) : s.promoteAll = s := by
  have fold (ts : List Trunk) : ts.foldl State.promote s = s := by
    induction ts with
    | nil => rfl
    | cons t ts ih => rw [List.foldl_cons, State.promote_none s t (h t), ih]
  exact fold _

theorem State.considerRelease_none
    (h : ∀ g, s.cleaning.group = some g → g.phase ≠ .release ∨ (g.lines.any fun x => x.draw.isSome) = true) :
    s.considerRelease = s := by
  obtain ⟨g, hg, hp, hd, -⟩ | e := s.considerRelease_cases
  · rcases h g hg with hn | ha
    · exact absurd hp hn
    · obtain ⟨x, hx, hs⟩ := List.any_eq_true.mp ha
      rw [hd x hx] at hs
      cases hs
  · exact e

theorem State.considerFormation_none
    (h : s.cleaning.group = none → s.valves.fault = true ∨ ∀ e ∈ s.cleaning.queue, s.takeableEntry e = false) :
    s.considerFormation = s := by
  unfold State.considerFormation
  split
  · rfl
  · rename_i hg
    split
    · rfl
    · rename_i hf
      have hn := (h hg).resolve_left hf
      have : s.cleaning.queue.find? s.takeableEntry = none := List.find?_eq_none.mpr fun e he => by simp [hn e he]
      simp [State.formGroup, State.chosen, this]

theorem State.follow_worked : Worked s s.follow := State.follow_followed.worked

/-! ### What stays -/

theorem Worked.recv {t : State} (h : Worked s t) (b : Binding) : t.recv b = s.recv b := by rw [h]; rfl
theorem Worked.loop {t : State} (h : Worked s t) (i : LoopId) : t.loop i = s.loop i := by rw [h]; rfl
theorem Worked.bound {t : State} (h : Worked s t) (b : Binding) : t.bound b = s.bound b := by rw [h]; rfl

end

end Sys2Proof.Machine
end

section
/-! PROOF. The pours (Chapter 3), the loops' events (Chapter 6), the valve chain and the timebase (Chapter 9) keep the invariants of
a step. -/

namespace Sys2Proof.Machine

section
variable {s : State} {l : Line}

/-! ### Settlement (R58) -/

theorem State.teach_pourControl (p : Pour) (r : CloseReason) (e : Ending) (n : Nat) : (s.teach l p r e n).pourControl = s.pourControl := by
  unfold State.teach
  split
  · split <;> rfl
  · rfl

theorem State.settleAccount_pourControl (p : Pour) (n : Nat) : (s.settleAccount p n).pourControl = s.pourControl := by
  unfold State.settleAccount
  split
  · rw [State.settleHold_frame]
  · rfl

theorem State.kegSettled_pourControl (a : Amounts) (r : CloseReason) (n : Nat) : (s.kegSettled l a r n).pourControl = s.pourControl := by
  unfold State.kegSettled State.onKeg
  split
  · split <;> rfl
  · rfl

theorem State.settlePrime_pourControl (n loss : Nat) : (s.settlePrime l n loss).pourControl = s.pourControl := by
  simp only [State.settlePrime]
  split
  · split
    · rw [State.changeLine_frame]; rfl
    · rfl
  · rfl

theorem State.settleShares_pourControl (p : Pour) (r : CloseReason) (n : Nat) :
    (s.settleShares l p r n).pourControl = s.pourControl := by
  unfold State.settleShares
  split
  · rfl
  · rw [State.settlePrime_pourControl, State.kegSettled_pourControl]
  · exact State.kegSettled_pourControl ..

theorem State.spend_pourControl (p : Position) : (s.spend l p).pourControl = s.pourControl := by
  unfold State.spend
  rw [State.changeover_frame, State.setKegState_frame]
  rfl

theorem State.settleLowFlow_pourControl (p : Pour) (r : CloseReason) : (s.settleLowFlow l p r).pourControl = s.pourControl := by
  unfold State.settleLowFlow
  split
  · unfold State.lowFlowReport
    split
    · rfl
    split
    · rfl
    · dsimp only
      split
      · rw [State.spend_pourControl]; rfl
      · rfl
  · rfl

theorem State.settleClean_pourControl (p : Pour) (n : Nat) : (s.settleClean l p n).pourControl = s.pourControl := by
  unfold State.settleClean
  split
  · rw [State.drawSettled_sequenced (s := s) l n]; rfl
  · rfl

theorem State.settleShares_keeps (p : Pour) (r : CloseReason) (n : Nat) : Keeps s (s.settleShares l p r n) := by
  unfold State.settleShares
  split
  · exact .refl s
  · exact (State.kegSettled_keeps ..).trans (State.settlePrime_keeps ..)
  · exact (State.kegSettled_keeps ..).trans (State.addPour_keeps ..)

theorem State.settleLowFlow_keeps (p : Pour) (r : CloseReason) (hw : (s.pour l).record.code ≠ 1) :
    Keeps s (s.settleLowFlow l p r) := by
  unfold State.settleLowFlow
  split
  · exact State.lowFlowReport_keeps hw
  · exact .refl s

theorem State.settleClean_keeps (p : Pour) (n : Nat) : Keeps s (s.settleClean l p n) := by
  unfold State.settleClean
  split
  · exact State.drawSettled_keeps l n
  · exact .refl s

/-- A pour that does not wait settles. -/
theorem State.settle_keeps (p : Pour) (v : Nat) (r : CloseReason) (e : Ending) (hw : (s.pour l).record.code ≠ 1) :
    Keeps s (s.settle l p v r e) := by
  have same {u : State} (h : u.pourControl = s.pourControl) : (u.pour l).record.code ≠ 1 := by rwa [State.pour, h]
  unfold State.settle
  dsimp only
  refine ((((((State.teach_keeps p r e _).trans (State.settleAccount_keeps p _)).trans (State.settleShares_keeps p r _)).trans
    (State.settleLowFlow_keeps p r (same ?_))).trans (State.settleClean_keeps p _))).trans
      (State.setPour_keeps (iff_of_false nofun (same ?_)))
  · rw [State.settleShares_pourControl, State.settleAccount_pourControl, State.teach_pourControl]
  · rw [State.settleClean_pourControl, State.settleLowFlow_pourControl, State.settleShares_pourControl,
      State.settleAccount_pourControl, State.teach_pourControl]

/-! ### The pours of a line -/

theorem PourRec.pouring_not_waiting {p : Pour} {n bf bp : Nat} : (PourRec.pouring p n bf bp).code ≠ 1 := nofun
theorem PourRec.tailing_not_waiting {p : Pour} {n v : Nat} {r : CloseReason} {q k : Nat} : (PourRec.tailing p n v r q k).code ≠ 1 :=
  nofun


theorem State.endAtOnce_keeps (r : CloseReason) : Keeps s (s.endAtOnce l r) := by
  unfold State.endAtOnce
  split
  · exact .refl s
  · exact State.withdraw_keeps
  · rename_i h; exact State.settle_keeps _ _ _ _ (by rw [h]; nofun)
  · rename_i h; exact State.settle_keeps _ _ _ _ (by rw [h]; nofun)

theorem State.waitTimeout_keeps : Keeps s (s.waitTimeout l) := by
  unfold State.waitTimeout
  split
  · split
    · exact State.withdraw_keeps.trans (State.setShown_keeps ..)
    · exact .refl s
  · exact .refl s

theorem State.overtime_keeps : Keeps s (s.overtime l) := by
  unfold State.overtime
  split
  · split
    · exact State.closePour_keeps ..
    · exact .refl s
  · exact .refl s

theorem State.judgeBlock_keeps : Keeps s (s.judgeBlock l) := by
  unfold State.judgeBlock
  split
  · rename_i h
    split
    · exact .refl s
    split
    · exact State.closePour_keeps ..
    · exact State.setRecord_open_keeps (by rw [h]; nofun) nofun
  · exact .refl s

theorem State.quietSettle_keeps : Keeps s (s.quietSettle l) := by
  unfold State.quietSettle
  split
  · rename_i h
    split
    · exact State.settle_keeps _ _ _ _ (by rw [h]; nofun)
    · exact .refl s
  · exact .refl s

theorem State.tailWindow_keeps : Keeps s (s.tailWindow l) := by
  unfold State.tailWindow
  split
  · rename_i h
    split
    · exact State.settle_keeps _ _ _ _ (by rw [h]; nofun)
    · exact .refl s
  · exact .refl s

/-! ### Frames and arrivals (R37 to R39, R52) -/

theorem State.pouringFrame_keeps (d : Nat) : Keeps s (s.pouringFrame l d) := by
  unfold State.pouringFrame
  split
  · rename_i h
    have hset (n bf bp : Nat) (p : Pour) : Keeps s (s.setRecord l (.pouring p n bf bp)) :=
      State.setRecord_open_keeps (by rw [h]; nofun) nofun
    dsimp only
    split
    · exact hset ..
    · split
      · rename_i h1
        split
        · exact ((hset ..).trans State.overtime_keeps).trans
            ((State.setRecord_open_keeps (by rw [h1]; nofun) (PourRec.pouring_not_waiting)).trans State.judgeBlock_keeps)
        · exact (hset ..).trans State.overtime_keeps
      · exact (hset ..).trans State.overtime_keeps
  · exact .refl s

theorem State.countIfSaturated_pourControl (a : Arrival) : (s.countIfSaturated l a).pourControl = s.pourControl := by
  unfold State.countIfSaturated
  split <;> rfl

theorem State.pouringArrival_keeps (a : Arrival) : Keeps s (s.pouringArrival l a) := by
  unfold State.pouringArrival
  split
  · rename_i h
    have hset (r : PourRec) (hr : r.code ≠ 1) : Keeps s ((s.countIfSaturated l a).setRecord l r) :=
      (State.countIfSaturated_keeps a).trans
        (State.setRecord_open_keeps (by rw [State.pour, State.countIfSaturated_pourControl]; exact h ▸ nofun) hr)
    dsimp only
    split
    · exact hset _ (PourRec.tailing_not_waiting)
    split
    · exact (hset _ (PourRec.pouring_not_waiting)).trans (State.closePour_keeps ..)
    · exact (hset _ (PourRec.pouring_not_waiting)).trans (State.pouringFrame_keeps _)
  · exact .refl s

theorem State.tailingFrame_keeps (d : Option Nat) : Keeps s (s.tailingFrame l d) := by
  unfold State.tailingFrame
  split
  · rename_i h
    exact ((State.setRecord_open_keeps (by rw [h]; nofun) (PourRec.tailing_not_waiting)).trans State.quietSettle_keeps).trans State.tailWindow_keeps
  · exact .refl s

theorem State.waitingFrame_keeps : Keeps s (s.waitingFrame l) := by
  unfold State.waitingFrame
  split
  · rename_i h
    exact (State.setRecord_keeps (iff_of_true rfl (by rw [h]; rfl))).trans State.waitTimeout_keeps
  · exact .refl s

theorem State.arrivalFrame_keeps (a : Arrival) : Keeps s (s.arrivalFrame l a) := by
  unfold State.arrivalFrame
  split
  · exact .refl s
  · split
    · exact State.withdraw_keeps
    · exact State.waitingFrame_keeps
  · exact State.pouringArrival_keeps a
  · exact (State.countIfSaturated_keeps a).trans (State.tailingFrame_keeps _)

theorem State.missFrame_keeps : Keeps s (s.missFrame l) := by
  unfold State.missFrame
  split
  · exact .refl s
  · exact State.waitingFrame_keeps
  · exact State.pouringFrame_keeps _
  · exact State.tailingFrame_keeps _

/-! ### Requests (R41 to R46) -/

theorem modeCheck_pass {m : Mode} {prime : Bool} (h : modeCheck m prime = .pass) : m.onTap ∧ m ≠ .held := by
  cases m <;> cases prime <;> simp_all [modeCheck, Mode.onTap]

theorem modeCheck_asks {m : Mode} {prime : Bool} (h : modeCheck m prime = .asks) : m = .water := by
  cases m <;> cases prime <;> simp_all [modeCheck]

theorem State.judgeRequest_keeps {c : LineCfg} (k : PourKind) (hc : (s.line l).cfg = some c) (ho : (s.line l).under.onTap) :
    Keeps s (s.judgeRequest l c k) := by
  unfold State.judgeRequest
  split
  · exact State.setShown_keeps ..
  split
  · exact .refl s
  rename_i hi
  split
  · exact State.setShown_keeps ..
  dsimp only
  split
  · exact State.admitDraw_keeps hc ho (by simpa using hi)
  split
  · exact State.setShown_keeps ..
  · exact State.setShown_keeps ..
  · rename_i t ht
    refine (State.placeHold_keeps ht).trans ?_
    obtain ⟨e, -⟩ | ⟨i, a, -, -, ⟨-, e⟩ | ⟨-, e⟩⟩ := s.placeHold_cases ‹_› (s.requestPour l c k (s.lineGate l == .warn)).hold <;>
      rw [e] at ht <;> cases ht
    exact State.admitDraw_keeps (s := s.setAccount i _) hc ho (show s.pourIdle l = true by simpa using hi)

/-- A line that starts PRIMING keeps its configuration. -/
theorem State.startPriming_line {t : State} (h : s.startPriming l = .ok t) :
    (t.line l).cfg = (s.line l).cfg ∧ (t.line l).mode = .priming := by
  unfold State.startPriming at h
  split at h
  · cases h
  split at h
  · cases h
  split at h
  · cases h
  rename_i u hu
  cases h
  rw [State.changeLine_frame, State.putOnTap_frame hu]
  refine ⟨?_, ?_⟩ <;> simp [State.line, State.setLine]

theorem State.request_keeps (code : BitVec 3) : Keeps s (s.request l code) := by
  unfold State.request
  split
  · exact .refl s
  rename_i c hc
  split
  · exact State.setShown_keeps ..
  · rename_i hm
    obtain ⟨ho, hh⟩ := modeCheck_pass hm
    exact State.judgeRequest_keeps _ hc (by rwa [LineRec.under_of_not_held hh])
  · rename_i hm
    split
    · exact State.setShown_keeps ..
    · rename_i t ht
      obtain ⟨h1, h2⟩ := State.startPriming_line ht
      refine (State.startPriming_keeps (modeCheck_asks hm) ht).trans (State.judgeRequest_keeps _ (h1.trans hc) ?_)
      rw [LineRec.under_of_not_held (by simp [h2]), h2]
      exact .inl rfl

theorem State.arrival_keeps (a : Arrival) : Keeps s (s.arrival l a) := by
  have h : Keeps s (if a.effective = 0#3 then s.setShown l none else s) := by
    split
    · exact State.setShown_keeps ..
    · exact .refl s
  unfold State.arrival
  dsimp only
  generalize (if a.effective = 0#3 then s.setShown l none else s) = u at h ⊢
  split
  · split
    · exact h.trans (State.request_keeps _)
    · exact h
  · refine Keeps.trans ?_ (State.arrivalFrame_keeps a)
    split
    · exact h.trans (State.request_keeps _)
    · exact h

/-! ### The events of a loop (R108 to R116) -/

theorem State.declareLost_keeps (b : Binding) : Keeps s (s.declareLost b) := by
  unfold State.declareLost
  split
  · rename_i r _ hr
    split
    · exact ((State.setRecv_keeps (by rw [hr]; rfl)).trans (State.endAtOnce_keeps _)).trans (State.raise_keeps ..)
    · exact .refl s
  · exact .refl s

theorem State.miss_keeps (b : Binding) : Keeps s (s.miss b l) := by
  unfold State.miss
  dsimp only
  split
  · rename_i r hr
    exact (State.missFrame_keeps.trans (State.setRecv_keeps (by rw [hr]; rfl))).trans (State.declareLost_keeps b)
  · exact State.missFrame_keeps

theorem State.accept_keeps {b : Binding} {r : RecvState} (w : Inbound) (hr : s.recv b = some r) : Keeps s (s.accept b l r w) := by
  unfold State.accept
  dsimp only
  refine ((State.setRecv_keeps (by rw [hr]; rfl)).trans (State.arrival_keeps _)).trans (State.setRecv_keeps ?_)
  rw [(State.arrival_worked _).recv, State.recv_setRecv_same]
  rfl

theorem State.takeWord_keeps (b : Binding) (w : Inbound) : Keeps s (s.takeWord b w) := by
  unfold State.takeWord
  split
  · rename_i hr
    split
    · exact (State.countCheckError_keeps _).trans (State.miss_keeps b)
    split
    · exact (State.countStale_keeps _).trans (State.miss_keeps b)
    · exact State.accept_keeps w hr
  · exact .refl s

theorem State.slotEnd_keeps (b : Binding) (w : SlotWord) : Keeps s (s.slotEnd b w) := by
  unfold State.slotEnd
  dsimp only
  split
  · rename_i h
    simp only [Bool.and_eq_true] at h
    exact (State.setSlotAfter_keeps b h.1).trans (State.takeWord_keeps ..)
  · exact .refl s

theorem State.stopLoop_keeps (i : LoopId) : Keeps s (s.stopLoop i) :=
  ((State.setStopped_keeps i).trans (Keeps.foldl (fun _ _ => State.endAtOnce_keeps _) _ _)).trans (State.loopStopReport_keeps _)

/-! ### The valve chain (R169, R170) -/

theorem State.faultHalt_keeps : Keeps s s.faultHalt := by
  unfold State.faultHalt
  split
  · exact State.haltGroup_keeps _
  · exact .refl s

theorem State.compareEcho_keeps (sent echo : Image) : Keeps s (s.compareEcho sent echo) := by
  unfold State.compareEcho
  split
  · exact .refl s
  split
  · exact Same.keeps {}
  · exact Keeps.trans (Same.keeps {}) (State.raiseChain_keeps.trans State.faultHalt_keeps)

theorem State.reportShift_keeps : Keeps s s.reportShift := by
  unfold State.reportShift
  split
  · split
    · split
      · exact State.startRun_keeps ..
      split
      · exact State.setGroup_keeps ..
      · exact .refl s
    · exact .refl s
  · exact .refl s

theorem State.endShift_keeps (echo : Image) : Keeps s (s.endShift echo) := by
  unfold State.endShift
  split
  · exact .refl s
  · exact (((State.compareEcho_keeps ..).trans (Same.keeps {})).trans State.reportShift_keeps).trans State.startShift_keeps

/-! ### The timebase events (R161) -/

theorem State.moveTake_keeps (f : TakeWait → TakeWait) : Keeps s (s.moveTake f) := by
  unfold State.moveTake
  split
  · split
    · exact State.setGroup_keeps ..
    · exact .refl s
  · exact .refl s

theorem State.periodUsers_keeps (c : Channel) : Keeps s (s.periodUsers c) := by
  unfold State.periodUsers
  split
  · exact (State.applyPhase1_keeps 0).trans (State.moveTake_keeps _)
  split
  · exact State.takeWindow_keeps _
  split
  · exact State.latchPump_keeps.trans (State.cleanStep_keeps _)
  · exact State.applyPhase1_keeps 3

theorem State.marginUsers_keeps (c : Channel) : Keeps s (s.marginUsers c) := by
  unfold State.marginUsers
  split
  · split
    · exact (State.applyPhase2_keeps 0).trans (State.moveTake_keeps _)
    · exact .refl s
  split
  · exact State.applyDirect_keeps
  split
  · exact .refl s
  · exact State.applyPhase2_keeps 3

theorem State.periodEvent_keeps (c : Channel) : Keeps s (s.periodEvent c) :=
  (State.setChannel_keeps TimeChannel.atPeriod_sound).trans (State.periodUsers_keeps c)

theorem State.marginEvent_keeps (c : Channel) : Keeps s (s.marginEvent c) :=
  (State.setCounter_keeps c _ fun h => h.2.2.2.1).trans (State.marginUsers_keeps c)

theorem State.tickChannel_keeps (c : Channel) : Keeps s (s.tickChannel c) := by
  unfold State.tickChannel
  dsimp only
  split
  · exact State.periodEvent_keeps c
  split
  · exact State.marginEvent_keeps c
  · exact State.setCounter_keeps c _ fun _ => by omega

theorem State.tick_keeps : Keeps s s.tick := by
  unfold State.tick
  split
  · exact .refl s
  · exact (Keeps.foldl (fun _ c => State.tickChannel_keeps c) _ _).trans State.follow_keeps

end

end Sys2Proof.Machine
end

section
/-! PROOF. Every command and every event keeps the invariants of a step. -/

namespace Sys2Proof.Machine

section
variable {s : State}

/-! ### Lines -/

theorem takeLineConfig_keeps (a : LineConfigArgs) : Keeps s (takeLineConfig a s) := by
  unfold takeLineConfig
  split
  · exact s.refuse_keeps _
  split
  · exact s.refuse_keeps _
  rename_i hm
  split
  · exact s.refuse_keeps _
  rename_i c hc
  split
  · exact s.refuse_keeps _
  rename_i hr
  exact (State.configure_keeps (not_not.mp hm) (by split <;> simp) (configOf_tail hc) hr).trans (State.ok_keeps ..)

theorem takeLineHold_keeps (n : Nat) : Keeps s (takeLineHold n s) := by
  unfold takeLineHold
  split
  · exact s.refuse_keeps _
  split
  · exact s.refuse_keeps _
  rename_i h
  dsimp only
  split
  · exact ((State.hold_keeps h).trans (State.ok_keeps ..)).trans State.considerFormation_keeps
  · exact (State.hold_keeps h).trans (State.ok_keeps ..)

theorem takeLineRelease_keeps (n : Nat) : Keeps s (takeLineRelease n s) := by
  unfold takeLineRelease
  split
  · exact s.refuse_keeps _
  split
  · rename_i hm hh
    exact ((State.unhold_keeps hm hh _ rfl).trans (State.ok_keeps ..)).trans State.considerFormation_keeps
  · exact s.refuse_keeps _

theorem takeLinePrime_keeps (n : Nat) : Keeps s (takeLinePrime n s) := by
  unfold takeLinePrime
  split
  · exact s.refuse_keeps _
  split
  · rename_i hm
    split
    · rename_i h
      exact (State.startPriming_keeps hm h).trans (State.ok_keeps ..)
    · exact State.reply_keeps ..
  · rename_i hm
    split
    · exact (State.dryToReady_keeps hm _).trans (State.ok_keeps ..)
    · exact State.reply_keeps ..
    · exact State.reply_keeps ..
  · exact State.reply_keeps ..

theorem takeLineRetire_keeps (n : Nat) : Keeps s (takeLineRetire n s) := by
  unfold takeLineRetire
  split
  · exact s.refuse_keeps _
  rename_i l _
  split
  · exact s.refuse_keeps _
  rename_i h
  have hpour : (((s.unbindLine l).changeLine l LineRec.reset).setLastEnrol l none).pour l = s.pour l := by
    rw [State.changeLine_frame]
    exact congrArg (fun x : PourControl => look x.pours l) State.unbindLine_wired.pours
  refine ((((State.unbindLine_keeps h).trans (State.askValves_keeps _ l)).trans (State.setLastEnrol_keeps ..)).trans
    (State.setPour_keeps ?_)).trans (State.ok_keeps ..)
  rw [show (State.setLastEnrol (((s.unbindLine l).setLine l LineRec.reset).askValves l) l none).pour l = s.pour l from hpour]

theorem takeLineRead_keeps (n : Nat) : Keeps s (takeLineRead n s) := by
  unfold takeLineRead
  split
  · exact s.refuse_keeps _
  · exact State.ok_keeps ..

theorem takePortionSet_keeps (a : PortionSetArgs) : Keeps s (takePortionSet a s) := by
  unfold takePortionSet
  split
  · exact s.refuse_keeps _
  · exact Same.keeps {}

theorem takeCalUnlock_keeps (b : Bool) : Keeps s (takeCalUnlock b s) := by
  unfold takeCalUnlock
  split
  · exact State.reply_keeps ..
  · exact Same.keeps {}

/-! ### Pours -/

theorem takePourAbort_keeps (n : Nat) : Keeps s (takePourAbort n s) := by
  unfold takePourAbort
  split
  · exact s.refuse_keeps _
  split
  · exact s.refuse_keeps _
  split
  · exact s.refuse_keeps _
  · exact (State.withdraw_keeps.trans (State.ok_keeps ..)).trans State.follow_keeps
  · exact ((State.closePour_keeps ..).trans (State.ok_keeps ..)).trans State.follow_keeps
  · exact State.ok_keeps ..

theorem takePourRead_keeps (n : Nat) : Keeps s (takePourRead n s) := by
  unfold takePourRead
  split
  · exact s.refuse_keeps _
  · exact State.ok_keeps ..

theorem takeTrunkDraw_keeps (t n : Nat) : Keeps s (takeTrunkDraw t n s) := by
  unfold takeTrunkDraw
  split
  · exact s.refuse_keeps _
  rename_i k _
  dsimp only
  have h : Keeps s (s.setTrunk k { s.trunk k with limit := clampNat 1 32 n }) := State.setTrunk_keeps rfl
  split
  · exact (h.trans (State.promoteUpTo_keeps ..)).trans (State.ok_keeps ..)
  · exact h.trans (State.ok_keeps ..)

theorem takeWaitTimeout_keeps (l : Line) : Keeps s (takeWaitTimeout l s) := by
  unfold takeWaitTimeout
  split
  · exact State.waitTimeout_keeps.trans State.considerFormation_keeps
  · exact .refl s

/-! ### Kegs -/

theorem takeKegEnrol_keeps (a : KegEnrolArgs) : Keeps s (takeKegEnrol a s) := by
  unfold takeKegEnrol
  split
  · exact s.refuse_keeps _
  rename_i l p _
  split
  · split
    · exact s.refuse_keeps _
    rename_i h
    rw [firstFail_eq_none] at h
    have hn := h _ (.tail _ (.head _))
    have ht := h _ (.tail _ (.tail _ (.tail _ (.head _))))
    have hb := h _ (.tail _ (.tail _ (.tail _ (.tail _ (.head _)))))
    simp only [Option.isNone_iff_eq_none, Bool.not_eq_true'] at hn ht hb
    refine ((State.setKeg_enrolled_keeps hn (KegRec.enrolled_sound ..) rfl (fun m q => State.findTag_eq_none ht m q) hb).trans
      (State.enqueueRead_keeps (e := ⟨l, p, .enrol, a.tag⟩) hb ?_)).trans (State.ok_keeps ..)
    rw [State.keg_setKeg_same]
    rfl
  · exact s.refuse_keeps _

theorem takeKegCheck_keeps (n m : Nat) : Keeps s (takeKegCheck n m s) := by
  unfold takeKegCheck
  split
  · exact s.refuse_keeps _
  split
  · exact s.refuse_keeps _
  rename_i k hk
  split
  · exact s.refuse_keeps _
  rename_i hv
  split
  · exact s.refuse_keeps _
  rename_i hb
  refine (State.enqueueRead_keeps (by simpa using hb) ?_).trans (State.ok_keeps ..)
  simp only [hk, Option.any_some, beq_iff_eq]
  simp [hv]

theorem takeKegConfirm_keeps (n m v : Nat) : Keeps s (takeKegConfirm n m v s) := by
  unfold takeKegConfirm
  split
  · exact s.refuse_keeps _
  rename_i l p _
  split
  · exact s.refuse_keeps _
  split
  · exact s.refuse_keeps _
  rename_i k hk
  split
  · exact s.refuse_keeps _
  rename_i hst
  simp only [not_or] at hst
  split
  · unfold State.confirmEmpty
    split
    · rename_i ht
      split
      · rename_i hi
        exact ((State.spend_keeps (by simp [State.tapped, hk, ht]) (State.not_waiting_of_pourIdle hi)).trans
          (State.ok_keeps ..)).trans State.follow_keeps
      · exact s.refuse_keeps _
    · rename_i ht
      refine ((State.setKeg_spent_keeps hk ?_).trans (State.raise_keeps ..)).trans (State.ok_keeps ..)
      cases h : k.state <;> simp_all
  · exact (State.setKeg_keeps (hk ▸ ⟨rfl, rfl, by simp⟩)).trans (State.ok_keeps ..)

theorem takeKegRetire_keeps (n m : Nat) : Keeps s (takeKegRetire n m s) := by
  unfold takeKegRetire
  split
  · exact s.refuse_keeps _
  split
  · exact s.refuse_keeps _
  rename_i k hk
  split
  · exact s.refuse_keeps _
  rename_i h
  exact ((State.retireKeg_keeps hk fun ht => by simpa [ht] using h).trans (State.ok_keeps ..)).trans State.follow_keeps

theorem takeKegRead_keeps (n m : Nat) : Keeps s (takeKegRead n m s) := by
  unfold takeKegRead
  split
  · exact s.refuse_keeps _
  · exact State.ok_keeps ..

theorem takeKegFind_keeps (t : Tag) : Keeps s (takeKegFind t s) := by
  unfold takeKegFind
  split
  · exact State.ok_keeps ..
  · exact s.refuse_keeps _

theorem takeAccountRead_keeps (a b c : Nat) : Keeps s (takeAccountRead a b c s) := by
  unfold takeAccountRead
  repeat' split
  all_goals first | exact s.refuse_keeps _ | exact State.ok_keeps ..

/-! ### Loops and climate -/

theorem takeLoopSet_keeps (n m : Nat) : Keeps s (takeLoopSet n m s) := by
  unfold takeLoopSet
  split
  · exact s.refuse_keeps _
  split
  · exact s.refuse_keeps _
  rename_i h
  rw [firstFail_eq_none] at h
  have h1 := of_decide_eq_true (h _ (.head _))
  have h2 := h _ (.tail _ (.head _))
  have h3 := h _ (.tail _ (.tail _ (.head _)))
  exact (State.setSlots_keeps h1 (by simpa using h2) h3).trans (State.ok_keeps ..)

theorem takeLoopStart_keeps (n : Nat) : Keeps s (takeLoopStart n s) := by
  unfold takeLoopStart
  split
  · exact s.refuse_keeps _
  split
  · exact s.refuse_keeps _
  · exact (State.startLoop_keeps _).trans (State.ok_keeps ..)

theorem takeLoopStop_keeps (n : Nat) : Keeps s (takeLoopStop n s) := by
  unfold takeLoopStop
  split
  · exact s.refuse_keeps _
  split
  · exact ((State.stopLoop_keeps _).trans (State.ok_keeps ..)).trans State.follow_keeps
  · exact s.refuse_keeps _

theorem takeLoopReset_keeps (n : Nat) : Keeps s (takeLoopReset n s) := by
  unfold takeLoopReset
  split
  · exact s.refuse_keeps _
  · dsimp only
    refine (Keeps.trans (Keeps.trans ?_ (State.setCleared_keeps _)) (State.ok_keeps ..)).trans State.follow_keeps
    split
    · exact State.stopLoop_keeps _
    · exact .refl s

theorem takeLoopRead_keeps (n m : Nat) : Keeps s (takeLoopRead n m s) := by
  unfold takeLoopRead
  split
  · exact s.refuse_keeps _
  · exact State.ok_keeps ..

theorem takeFrameSync_keeps (i : LoopId) : Keeps s (takeFrameSync i s) := by
  unfold takeFrameSync
  split
  · rename_i h
    simp only [Bool.and_eq_true] at h
    exact State.frameSync_keeps h.1
  · exact .refl s

theorem takeFaucetLost_keeps (i : LoopId) (k : Slot) : Keeps s (takeFaucetLost i k s) := by
  unfold takeFaucetLost
  split
  · exact (State.declareLost_keeps _).trans State.follow_keeps
  · exact .refl s

theorem takeScanSet_keeps (n : Nat) (m : BitVec 16) : Keeps s (takeScanSet n m s) := by
  unfold takeScanSet
  split
  · exact (State.setScanner_keeps ..).trans (State.ok_keeps ..)
  · exact s.refuse_keeps _

theorem takeScanStart_keeps : Keeps s (takeScanStart s) := by
  unfold takeScanStart
  split
  · exact s.refuse_keeps _
  · exact (State.setScanner_keeps ..).trans (State.ok_keeps ..)

theorem takeScanStop_keeps : Keeps s (takeScanStop s) := by
  unfold takeScanStop
  split
  · exact (State.setScanner_keeps ..).trans (State.ok_keeps ..)
  · exact s.refuse_keeps _

theorem takeChannelSet_keeps (i r : Nat) (b : Int) (n : Nat) : Keeps s (takeChannelSet i r b n s) := by
  unfold takeChannelSet
  split
  · exact ((State.assign_keeps ..).trans (State.ok_keeps ..)).trans State.follow_keeps
  · exact s.refuse_keeps _

/-- The clamped parameters of a zone are in their ranges (R129). -/
theorem zoneWith_sound (z : Zone) (a : TrunkClimateArgs) (h : z.duty ≤ 16 ∧ z.bias ≤ 16 ∧ z.warn ≤ z.stop) :
    (zoneWith z a).duty ≤ 16 ∧ (zoneWith z a).bias ≤ 16 ∧ (zoneWith z a).warn ≤ (zoneWith z a).stop := by
  refine ⟨h.1, ?_, Int.le_max_right ..⟩
  simp only [zoneWith, clampNat]
  omega

theorem takeTrunkClimate_keeps (a : TrunkClimateArgs) : Keeps s (takeTrunkClimate a s) := by
  unfold takeTrunkClimate
  split
  · exact s.refuse_keeps _
  · exact (((State.setZone_keeps (zoneWith_sound _ a)).trans (State.evalGate_keeps _)).trans (State.ok_keeps ..)).trans
      State.follow_keeps

theorem takeBoost_keeps (n m : Nat) : Keeps s (takeBoost n m s) := by
  refine (State.setBoost_keeps fun _ x hx => ?_).trans (State.ok_keeps ..)
  unfold boostOf at hx
  split at hx
  · cases hx
  · cases hx
    simp only [Boost.sound, clampNat] at *
    omega

theorem takeCycleStart_keeps : Keeps s (takeCycleStart s) := by
  unfold takeCycleStart
  split
  · exact State.fixDuties_keeps
  · exact .refl s

theorem takeStageSwitch_keeps (b : Bool) : Keeps s (takeStageSwitch b s) := by
  unfold takeStageSwitch
  dsimp only
  split
  · exact (State.setChiller_keeps ..).trans (State.ask_keeps _ 16 7 _)
  · exact (State.setChiller_keeps ..).trans (State.ask_keeps _ 16 6 _)

/-! ### Cleaning -/

theorem takeRecipeSet_keeps (a : RecipeSetArgs) : Keeps s (takeRecipeSet a s) := by
  unfold takeRecipeSet
  split
  · exact s.refuse_keeps _
  · exact Same.keeps {}

theorem takeCleanSubmit_keeps (ls : LineSet) (n : Nat) : Keeps s (takeCleanSubmit ls n s) := by
  unfold takeCleanSubmit
  split
  · exact s.refuse_keeps _
  split
  · exact s.refuse_keeps _
  · exact ((State.submitted_keeps ls _).trans (State.ok_keeps ..)).trans State.considerFormation_keeps

theorem takeCleanAbort_keeps (ls : LineSet) : Keeps s (takeCleanAbort ls s) := by
  have h : Keeps s (s.unqueue ls) := State.setCleanQueue_keeps List.filter_sublist
  unfold takeCleanAbort
  dsimp only
  split
  · exact h.trans (State.ok_keeps ..)
  split
  · exact h.trans (State.reply_keeps ..)
  · rename_i ht
    exact ((h.trans (State.abortGroup_keeps ht)).trans (State.ok_keeps ..)).trans State.follow_keeps

theorem takeCleanHalt_keeps : Keeps s (takeCleanHalt s) :=
  (((State.setCleanQueue_keeps (List.nil_sublist _)).trans State.faultHalt_keeps).trans (State.ok_keeps ..)).trans State.follow_keeps

theorem takeGroupRelease_keeps : Keeps s (takeGroupRelease s) := by
  unfold takeGroupRelease
  split
  · split
    · exact (State.releaseGroup_keeps _).trans State.considerFormation_keeps
    · exact .refl s
  · exact .refl s

/-! ### Timebase and valves -/

theorem takeTimebaseSet_keeps (c p m : Nat) : Keeps s (takeTimebaseSet c p m s) := by
  unfold takeTimebaseSet
  split
  · exact s.refuse_keeps _
  · exact (State.setPending_keeps ..).trans (State.ok_keeps ..)

theorem takeTimebaseSync_keeps (m : Byte) : Keeps s (takeTimebaseSync m s) := by
  unfold takeTimebaseSync
  split
  · exact s.refuse_keeps _
  · exact (Keeps.foldl (fun _ c => State.restartChannel_keeps m c) _ _).trans (State.ok_keeps ..)

theorem takeValveClear_keeps : Keeps s (takeValveClear s) := by
  unfold takeValveClear
  dsimp only
  split
  · exact (State.clearFault_keeps.trans (State.ok_keeps ..)).trans State.considerFormation_keeps
  · exact State.clearFault_keeps.trans (State.ok_keeps ..)

theorem takeAttnMask_keeps (k : BitVec 16) : Keeps s (takeAttnMask k s) := by
  unfold takeAttnMask
  split
  · exact (State.setLink_keeps ..).trans (State.ok_keeps ..)
  · exact s.refuse_keeps _

/-! ### Resets -/

theorem State.reset_line (l : Line) : State.reset.line l = LineRec.reset := look_replicate ..
theorem State.reset_pour (l : Line) : State.reset.pour l = PourSlot.reset := look_replicate ..
theorem State.reset_trunk (t : Trunk) : State.reset.trunk t = { limit := 8, queue := [] } := look_replicate ..
theorem State.reset_account (i : AccountIx) : State.reset.account i = none := look_replicate ..
theorem State.reset_keg (l : Line) (p : Position) : State.reset.keg l p = none := by
  have h : State.reset.kegSlots l = { a := none, b := none, lastEnrol := none } := look_replicate ..
  rw [State.keg, h]
  cases p <;> rfl
theorem State.reset_bound (b : Binding) : State.reset.bound b = none := by
  obtain ⟨_ | _, k⟩ := b <;> exact look_replicate ..
theorem State.reset_recv (b : Binding) : State.reset.recv b = none := by
  obtain ⟨_ | _, k⟩ := b <;> exact look_replicate ..
theorem State.reset_valve (g : ValveGroup) : State.reset.valve g = GroupPatterns.reset := look_replicate ..
theorem State.reset_zone (t : Trunk) : State.reset.zone t = Zone.reset := look_replicate ..
theorem State.reset_input (i : SenseInput) : State.reset.input i = { role := .unused, base := 0, span := 0 } := look_replicate ..

theorem State.reset_accountsSound : State.reset.accountsSound := fun i a ha => by rw [State.reset_account] at ha; cases ha

theorem State.reset_recordsSound : State.reset.recordsSound := by
  have hq : State.reset.kegRegister.queue = [] := rfl
  have hb : State.reset.kegRegister.bus = none := rfl
  simp [State.recordsSound, State.reset_keg, hq, hb]

theorem State.reset_linesSound : State.reset.linesSound := by
  refine ⟨fun l => ?_, fun l c hc => ?_, fun k => ?_⟩
  · rw [State.reset_line]; simp [LineRec.sound, LineRec.reset, LineRec.under]
  · rw [State.reset_line] at hc; cases hc
  · simp [State.reset_bound, State.reset_recv]

theorem State.reset_readsTrue : State.reset.readsTrue := fun i => i.elim0

theorem State.reset_lineTapped (l : Line) : State.reset.lineTapped l := by
  refine State.lineTapped_of_none (fun p => by simp [State.tapped, State.reset_keg]) ?_
  rw [State.reset_line]
  simp [LineRec.reset, LineRec.under, Mode.onTap]

theorem State.reset_queuesSound : State.reset.queuesSound := by
  refine ⟨fun t => by simp [State.reset_trunk], fun l hl => ?_, List.nodup_nil, nofun⟩
  rw [State.reset_pour] at hl
  cases hl

theorem Timebase.reset_sound (c : Channel) : (look Timebase.reset.channels c).sound := by
  revert c; decide

theorem LoopRec.reset_sound : LoopRec.reset.sound := ⟨by decide, by decide, fun _ => rfl, nofun⟩

theorem State.reset_clocksSound : State.reset.clocksSound := by
  refine ⟨Timebase.reset_sound, Nat.zero_le _, Nat.zero_le _, by decide, fun t => ?_, nofun, fun i j _ _ => ?_,
    LoopRec.reset_sound, LoopRec.reset_sound⟩
  · rw [State.reset_zone]; decide
  · rw [State.reset_input]

theorem GroupPatterns.reset_kept (g : ValveGroup) : GroupKept g GroupPatterns.reset :=
  ⟨⟨pairSafe_zero g, pairSafe_zero g, pairSafe_zero g, nofun⟩, fun _ => rfl, fun _ => ⟨rfl, rfl, rfl⟩⟩

theorem State.reset_valvesSound : State.reset.valvesSound :=
  (State.valvesSound_iff _).mpr fun g => by rw [State.reset_valve]; exact GroupPatterns.reset_kept g

/-- With its blocks at their reset values a state is sound, whatever its stored K table, its lock and its link. -/
theorem State.resetBlocks_keeps (k : Vector Nat 32) (lock : Bool) : Keeps s (s.resetBlocks k lock) :=
  ⟨⟨fun _ => State.reset_accountsSound, fun _ => State.reset_recordsSound, fun _ => State.reset_linesSound,
    fun _ _ _ => State.reset_readsTrue, fun _ l _ _ _ _ _ => State.reset_lineTapped l, fun _ _ => State.reset_queuesSound,
    fun _ => State.reset_clocksSound, fun _ => State.reset_valvesSound⟩, fun _ _ => rfl⟩

theorem State.pinReset_keeps : Keeps s s.pinReset :=
  (State.resetBlocks_keeps ..).trans (Same.keeps {})

theorem takePartReset_keeps (tag : Byte) : Keeps s (takePartReset tag s) :=
  (State.resetBlocks_keeps ..).trans (Same.keeps {})

theorem State.releaseReset_keeps : Keeps s s.releaseReset := by
  unfold State.releaseReset
  split
  · exact Same.keeps {
      clocks := fun ⟨_, _, _, h⟩ => ⟨Timebase.reset_sound, Nat.zero_le _, Nat.zero_le _, h⟩
      valves := fun _ => State.reset_valvesSound }
  · exact .refl s

/-! ### The Venue Link -/

theorem State.post_keeps (tag code : Byte) : Keeps s (s.post tag code) := by
  unfold State.post
  split
  · exact State.setLink_keeps ..
  · exact .refl s

theorem takePartResetComplete_keeps : Keeps s (takePartResetComplete s) := by
  unfold takePartResetComplete
  split
  · exact (State.ok_keeps ..).trans (State.post_keeps ..)
  · exact .refl s

/-- A command handed to its block keeps the invariants. -/
theorem takeCommand_keeps (i : Instr) (s : State) : Keeps s (takeCommand i s) := by
  cases i with
  | lineConfig a => exact takeLineConfig_keeps a
  | lineSet a => exact takeLineSet_keeps a
  | lineHold l => exact takeLineHold_keeps l
  | lineRelease l => exact takeLineRelease_keeps l
  | linePrime l => exact takeLinePrime_keeps l
  | lineRetire l => exact takeLineRetire_keeps l
  | lineRead l => exact takeLineRead_keeps l
  | portionSet a => exact takePortionSet_keeps a
  | calLock => exact Same.keeps {}
  | calUnlock b => exact takeCalUnlock_keeps b
  | pourAbort l => exact takePourAbort_keeps l
  | pourRead l => exact takePourRead_keeps l
  | trunkDraw t n => exact takeTrunkDraw_keeps t n
  | partSet a => exact (State.setTiming_keeps ..).trans (State.ok_keeps ..)
  | kegEnrol a => exact takeKegEnrol_keeps a
  | kegCheck l p => exact takeKegCheck_keeps l p
  | kegConfirm l p v => exact takeKegConfirm_keeps l p v
  | kegRetire l p => exact takeKegRetire_keeps l p
  | kegRead l p => exact takeKegRead_keeps l p
  | kegFind t => exact takeKegFind_keeps t
  | accountOpen a b c => exact takeAccountOpen_keeps a b c
  | accountCredit a b => exact takeAccountCredit_keeps a b
  | accountFloat a b => exact takeAccountFloat_keeps a b
  | accountClose a => exact takeAccountClose_keeps a
  | accountRead a b c => exact takeAccountRead_keeps a b c
  | loopSet i n => exact takeLoopSet_keeps i n
  | loopStart i => exact takeLoopStart_keeps i
  | loopStop i => exact takeLoopStop_keeps i
  | loopReset i => exact takeLoopReset_keeps i
  | loopRead i n => exact takeLoopRead_keeps i n
  | scanSet r m => exact takeScanSet_keeps r m
  | channelSet i r b n => exact takeChannelSet_keeps i r b n
  | scanStart => exact takeScanStart_keeps
  | scanStop => exact takeScanStop_keeps
  | trunkClimate a => exact takeTrunkClimate_keeps a
  | chillerSet a => exact (State.setChiller_keeps ..).trans (State.ok_keeps ..)
  | boost n m => exact takeBoost_keeps n m
  | recipeSet a => exact takeRecipeSet_keeps a
  | cleanSet n m => exact Same.keeps {}
  | cleanSubmit ls r => exact takeCleanSubmit_keeps ls r
  | cleanAbort ls => exact takeCleanAbort_keeps ls
  | cleanHalt => exact takeCleanHalt_keeps
  | timebaseSet c p m => exact takeTimebaseSet_keeps c p m
  | timebaseSync m => exact takeTimebaseSync_keeps m
  | valveClear => exact takeValveClear_keeps
  | attnRead => exact (State.setAttention_keeps ..).trans (State.ok_keeps ..)
  | attnMask k => exact takeAttnMask_keeps k
  | partReset t => exact takePartReset_keeps t
  | climateRead | cleanRead | valveRead => exact State.ok_keeps ..
  | _ => exact .refl s

theorem takeCommandWrite_keeps (service : Bool) (bytes : List Byte) : Keeps s (takeCommandWrite service bytes s) := by
  have h : Keeps s (s.sendMiso [] bytes.length) := State.setLink_keeps ..
  unfold takeCommandWrite
  generalize s.sendMiso [] bytes.length = u at h ⊢
  dsimp only
  split
  · split
    · exact ((h.trans (State.setLink_keeps ..)).trans (State.refuse_keeps ..)).trans (State.post_keeps ..)
    · rename_i code tag payload _
      have h1 : Keeps s (u.setLinkState (.executing tag code)) := h.trans (State.setLink_keeps ..)
      unfold State.acceptFrame
      dsimp only
      split
      · split
        · exact (h1.trans (State.refuse_keeps ..)).trans (State.post_keeps ..)
        split
        · exact h1.trans (takeCommand_keeps ..)
        · exact (h1.trans (takeCommand_keeps ..)).trans (State.post_keeps ..)
      · exact (h1.trans (State.refuse_keeps ..)).trans (State.post_keeps ..)
  · exact h.trans (State.setLink_keeps ..)

theorem takeResponseRead_keeps (n : Nat) : Keeps s (takeResponseRead n s) := by
  unfold takeResponseRead
  split
  · dsimp only
    split
    · exact (State.setLink_keeps ..).trans (State.setLink_keeps ..)
    · exact State.setLink_keeps ..
  · exact State.setLink_keeps ..

theorem takeUnknownTransaction_keeps (b : Byte) (n : Nat) : Keeps s (takeUnknownTransaction b n s) := by
  unfold takeUnknownTransaction
  split
  · exact .refl s
  · exact (State.setLink_keeps ..).trans (State.setLink_keeps ..)

/-! ### Events that something follows -/

theorem takeSlotEnd_keeps (i : LoopId) (k : Slot) (w : SlotWord) : Keeps s (takeSlotEnd i k w s) := (State.slotEnd_keeps ..).trans State.follow_keeps
theorem takePourOvertime_keeps (l : Line) : Keeps s (takePourOvertime l s) := State.overtime_keeps.trans State.follow_keeps
theorem takeLowFlowBlockEnd_keeps (l : Line) : Keeps s (takeLowFlowBlockEnd l s) := State.judgeBlock_keeps.trans State.follow_keeps
theorem takeTailQuietSettle_keeps (l : Line) : Keeps s (takeTailQuietSettle l s) := State.quietSettle_keeps.trans State.follow_keeps
theorem takeTailWindow_keeps (l : Line) : Keeps s (takeTailWindow l s) := State.tailWindow_keeps.trans State.follow_keeps
theorem takeCouplerCopyRead_keeps (st : Byte) (b : BitVec 128) : Keeps s (takeCouplerCopyRead st b s) := (State.copyRead_keeps ..).trans State.follow_keeps
theorem takeConversionComplete_keeps (n : Nat) : Keeps s (takeConversionComplete n s) := (State.convert_keeps _).trans State.follow_keeps
theorem takeProbeFailed_keeps (i : SenseInput) : Keeps s (takeProbeFailed i s) := (State.failProbe_keeps _).trans State.follow_keeps
theorem takeTimebasePeriodEvent_keeps (c : Channel) : Keeps s (takeTimebasePeriodEvent c s) := (State.periodEvent_keeps _).trans State.follow_keeps
theorem takePumpFault_keeps : Keeps s (takePumpFault s) := State.pumpFailed_keeps.trans State.follow_keeps
theorem takePhaseTimeout_keeps : Keeps s (takePhaseTimeout s) := State.runTimeout_keeps.trans State.follow_keeps
theorem takeSoakEnd_keeps : Keeps s (takeSoakEnd s) := State.finishSoak_keeps.trans State.follow_keeps
theorem takeChainShiftEnd_keeps (echo : Image) : Keeps s (takeChainShiftEnd echo s) := (State.endShift_keeps _).trans State.follow_keeps

/-! ### Every step -/

theorem State.running_keeps {t : State} {f : State → State} (hf : Keeps s (f s)) (h : s.running f = .next t) : Keeps s t := by
  rw [State.running_eq_next.mp h]
  split
  · exact .refl s
  · exact hf

/-- What an event does, beside the two of RESET_N: every row of the table with no command code, on the part that runs. -/
def takeEvent (i : Instr) (s : State) : State :=
  match i with
  | .commandWrite service bytes => takeCommandWrite service bytes s
  | .responseRead n => takeResponseRead n s
  | .statusRead n => takeStatusRead n s
  | .unknownTransaction first n => takeUnknownTransaction first n s
  | .partResetComplete => takePartResetComplete s
  | .frameSync i => takeFrameSync i s
  | .slotEnd i k word => takeSlotEnd i k word s
  | .faucetLost i k => takeFaucetLost i k s
  | .pourOvertime l => takePourOvertime l s
  | .lowFlowBlockEnd l => takeLowFlowBlockEnd l s
  | .waitTimeout l => takeWaitTimeout l s
  | .promotion t => takePromotion t s
  | .tailQuietSettle l => takeTailQuietSettle l s
  | .tailWindow l => takeTailWindow l s
  | .couplerReadStart => takeCouplerReadStart s
  | .couplerCopyRead status block => takeCouplerCopyRead status block s
  | .conversionComplete code => takeConversionComplete code s
  | .probeFailed i => takeProbeFailed i s
  | .timebasePeriodEvent c => takeTimebasePeriodEvent c s
  | .timebaseMarginEvent c => takeTimebaseMarginEvent c s
  | .cycleStart => takeCycleStart s
  | .boostEnd => takeBoostEnd s
  | .stageSwitch second => takeStageSwitch second s
  | .pumpFlowPulse => takePumpFlowPulse s
  | .pumpFault => takePumpFault s
  | .phaseTimeout => takePhaseTimeout s
  | .soakEnd => takeSoakEnd s
  | .groupFormation => takeGroupFormation s
  | .groupRelease => takeGroupRelease s
  | .chainShiftStart => takeChainShiftStart s
  | .chainShiftEnd echo => takeChainShiftEnd echo s
  | _ => s

/-- A row of the table without a command code, and not one of the two of RESET_N, is an event on the part that runs. -/
theorem exec_of_event {i : Instr} (h : encodeCommand i = none) (hp : i ≠ .pinReset) (hr : i ≠ .resetNRelease) (s : State) :
    exec i s = s.running (takeEvent i) := by
  cases i <;> simp only [encodeCommand, reduceCtorEq] at h <;>
    first | exact absurd rfl hp | exact absurd rfl hr | rfl

/-- An event keeps the invariants. -/
theorem takeEvent_keeps (i : Instr) (s : State) : Keeps s (takeEvent i s) := by
  cases i with
  | commandWrite => exact takeCommandWrite_keeps ..
  | responseRead => exact takeResponseRead_keeps _
  | statusRead => exact (State.setLink_keeps ..).trans (State.setLink_keeps ..)
  | unknownTransaction => exact takeUnknownTransaction_keeps ..
  | partResetComplete => exact takePartResetComplete_keeps
  | frameSync => exact takeFrameSync_keeps _
  | slotEnd => exact takeSlotEnd_keeps ..
  | faucetLost => exact takeFaucetLost_keeps ..
  | pourOvertime => exact takePourOvertime_keeps ..
  | lowFlowBlockEnd => exact takeLowFlowBlockEnd_keeps ..
  | waitTimeout => exact takeWaitTimeout_keeps _
  | promotion => exact State.promoteUpTo_keeps ..
  | tailQuietSettle => exact takeTailQuietSettle_keeps ..
  | tailWindow => exact takeTailWindow_keeps ..
  | couplerReadStart => exact State.startRead_keeps
  | couplerCopyRead => exact takeCouplerCopyRead_keeps ..
  | conversionComplete => exact takeConversionComplete_keeps ..
  | probeFailed => exact takeProbeFailed_keeps ..
  | timebasePeriodEvent => exact takeTimebasePeriodEvent_keeps ..
  | timebaseMarginEvent => exact State.marginEvent_keeps _
  | cycleStart => exact takeCycleStart_keeps
  | boostEnd => exact State.endBoost_keeps
  | stageSwitch => exact takeStageSwitch_keeps _
  | pumpFlowPulse => exact State.countPump_keeps
  | pumpFault => exact takePumpFault_keeps
  | phaseTimeout => exact takePhaseTimeout_keeps
  | soakEnd => exact takeSoakEnd_keeps
  | groupFormation => exact State.considerFormation_keeps
  | groupRelease => exact takeGroupRelease_keeps
  | chainShiftStart => exact State.startShift_keeps
  | chainShiftEnd => exact takeChainShiftEnd_keeps ..
  | _ => exact .refl s

/-- Every command and every event keeps the invariants. -/
theorem exec_keeps {t : State} {i : Instr} (h : exec i s = .next t) : Keeps s t := by
  cases hi : encodeCommand i with
  | some x =>
    rw [exec_of_encode hi] at h
    exact State.running_keeps (takeCommand_keeps i s) h
  | none =>
    by_cases hp : i = .pinReset
    · subst hp; cases h; exact State.pinReset_keeps
    by_cases hr : i = .resetNRelease
    · subst hr; cases h; exact State.releaseReset_keeps
    rw [exec_of_event hi hp hr] at h
    exact State.running_keeps (takeEvent_keeps i s) h

theorem step_keeps {t : State} (h : step s = .next t) : Keeps s t := by
  unfold step at h
  split at h
  · cases h; exact State.tick_keeps
  · exact Keeps.trans (t := { s with pending := _ }) (Same.keeps {}) (exec_keeps h)

end

/-- Settles O54: a step keeps the account part of the invariants. -/
theorem accountsStaySound : Obligations.AccountsStaySound := fun _ _ hs h => (step_keeps h).accounts hs

/-- Settles O56: the records and the queue of the register, and the idle bus. -/
theorem kegsStaySound : Obligations.KegsStaySound := fun s t hs h => by
  obtain ⟨hr, hi⟩ := s.kegsSound_iff.mp hs
  exact t.kegsSound_iff.mpr ⟨(step_keeps h).records hr, (step_keeps h).idle hi⟩

/-- Settles O57: the records of the lines with the binding map. -/
theorem linesStaySound : Obligations.LinesStaySound := fun _ _ hs h => (step_keeps h).lines hs

/-- Settles O58: line by line, and the read queue. -/
theorem tapsStaySound : Obligations.TapsStaySound := fun s t hl hk ht h => by
  obtain ⟨hr, -⟩ := s.kegsSound_iff.mp hk
  obtain ⟨hlt, hq⟩ := s.tapsSound_iff.mp ht
  exact t.tapsSound_iff.mpr ⟨fun l => (step_keeps h).tap trivial l nofun hl hr hq (hlt l), (step_keeps h).reads trivial hr hq⟩

/-- Settles O59: the queues under the line invariant, and the clocks. -/
theorem queuesAndClocksStaySound : Obligations.QueuesAndClocksStaySound := fun _ _ hl hq hc h =>
  ⟨(step_keeps h).queues hl hq, (step_keeps h).clocks hc⟩

/-- Settles O60: each group's patterns through every request and every apply. -/
theorem valvePairsStayApart : Obligations.ValvePairsStayApart := fun _ _ hs h => (step_keeps h).valves hs

end Sys2Proof.Machine
end

section
/-! PROOF. The queue of commands and what may follow a command (O1, O3). -/

namespace Sys2Proof.Machine

/-- Settles O1: the two sides are the same call. -/
theorem stepTakesTheFrontCommand : Obligations.StepTakesTheFrontCommand := fun _ _ _ => rfl

/-- Settles O3: the frame of each of the three parts, and each of them where nothing is due. -/
theorem followChangesOnlyWhatFollows : Obligations.FollowChangesOnlyWhatFollows := fun s => by
  have h := State.follow_followed (s := s)
  refine ⟨⟨_, _, _, _, _, _, _, _, h.frame, h.next⟩, fun hp hr hf => ?_⟩
  rw [State.follow, State.promoteAll_none hp, State.considerRelease_none hr, State.considerFormation_none hf]

/-! ### Resets -/

/-- Settles O4: the pin reset and its release write whole blocks. -/
theorem pinResetAndReleaseStandAtTheResetValues : Obligations.PinResetAndReleaseStandAtTheResetValues := fun s => by
  refine ⟨rfl, rfl, fun h => ?_, fun h => ?_⟩
  · show Host.Outcome.next s.releaseReset = _
    rw [State.releaseReset, if_pos h]
  · show Host.Outcome.next s.releaseReset = _
    rw [State.releaseReset, if_neg (by simp [h])]

/-- Settles O5: PART_RESET writes every block, and its completion posts where the link is EXECUTING. -/
theorem partResetKeepsTheCalibration : Obligations.PartResetKeepsTheCalibration := fun s released => by
  refine ⟨fun tag => (State.running_of_released released).trans ?_, fun tag code h => (State.running_of_released released).trans ?_,
    fun h => (State.running_of_released released).trans ?_⟩
  · have : s.resetHeld = State.reset.resetHeld := released
    simp only [takePartReset, State.resetBlocks, State.setAttention, State.setLinkState, State.setLink, this]
    rfl
  · simp only [takePartResetComplete, h]
    rfl
  · unfold takePartResetComplete
    split
    · rename_i tag code e
      exact absurd e (h tag code)
    · rfl

/-- Settles O6: each part of the invariants and each value at the reset state. -/
theorem resetStateIsSoundWithTheManualsValues : Obligations.ResetStateIsSoundWithTheManualsValues := by
  have recipes (n : Fin 4) : look State.reset.cleaning.recipes n = none := look_replicate ..
  refine ⟨⟨State.reset_accountsSound, State.holdsMatch_of_blank rfl rfl,
    (State.kegsSound_iff _).mpr ⟨State.reset_recordsSound, fun _ => rfl⟩, State.reset_linesSound,
    (State.tapsSound_iff _).mpr ⟨State.reset_lineTapped, State.reset_readsTrue⟩, State.reset_queuesSound, State.reset_valvesSound,
    State.reset_clocksSound⟩,
    fun l => ⟨State.reset_line l, State.reset_pour l, look_replicate .., look_replicate ..⟩, fun n => look_replicate .., rfl,
    State.reset_trunk, rfl, State.reset_account, fun i => by cases i <;> exact ⟨rfl, rfl⟩, rfl, rfl, rfl, rfl, recipes,
    State.reset_valve, rfl, ⟨rfl, rfl, rfl, rfl⟩, rfl, rfl, by decide, by decide⟩

end Sys2Proof.Machine
end

section
/-! PROOF. The payloads of the Venue Link: a field is read back from the bytes that were written for it, and a well-formed command
from its code and payload (sections 10.6 and 11.2). -/

namespace Sys2Proof.Machine

open Sys2Proof Sys2Proof.Laws

/-! ### Fields of a payload -/

/-- Bytes spell a signed number back when it is in the range of their width. -/
theorem intBE_bytesInt {w : Nat} {n : Int} (hlow : -(2 ^ (8 * w) : Nat) ≤ 2 * n) (hhigh : 2 * n < (2 ^ (8 * w) : Nat)) :
    intBE (bytesInt w n) = n := by
  have hpow : (256 ^ w : Nat) = 2 ^ (8 * w) := by rw [Nat.pow_mul]
  have hpos : 0 < 2 ^ (8 * w) := Nat.two_pow_pos _
  have hnum : (numBE (bytesInt w n) : Int) = n % (2 ^ (8 * w) : Nat) := by
    have hmod := Int.emod_nonneg n (b := (2 ^ (8 * w) : Nat)) (by omega)
    have hlt := Int.emod_lt_of_pos n (b := (2 ^ (8 * w) : Nat)) (by omega)
    rw [bytesInt, numBE_bytesBE, hpow, Nat.mod_eq_of_lt (by omega), Int.toNat_of_nonneg hmod]
  simp only [intBE, bytesInt_length]
  generalize 2 ^ (8 * w) = m at *
  have hadd : n % (m : Int) = if 0 ≤ n then n else n + m := by
    split
    · exact Int.emod_eq_of_lt ‹_› (by omega)
    · rw [← Int.add_emod_right, Int.emod_eq_of_lt (by omega) (by omega)]
  split at hadd <;> split <;> omega

/-- The field at the front of a payload. -/
theorem field_front {w n : Nat} (rest : List Byte) (h : n < 256 ^ w) : field (bytesBE w n ++ rest) 0 w = n := by
  simp [field, numBE_bytesBE, Nat.mod_eq_of_lt h]

theorem field_only {w n : Nat} (h : n < 256 ^ w) : field (bytesBE w n) 0 w = n := by
  simpa using field_front [] h

/-- A field behind another one is a field of what follows that one. -/
theorem field_behind (v n : Nat) (rest : List Byte) (w : Nat) {i : Nat} (h : v ≤ i) :
    field (bytesBE v n ++ rest) i w = field rest (i - v) w := by
  simp [field, List.drop_append, List.drop_eq_nil_of_le, h]

theorem field_behindInt (v : Nat) (n : Int) (rest : List Byte) (w : Nat) {i : Nat} (h : v ≤ i) :
    field (bytesInt v n ++ rest) i w = field rest (i - v) w := field_behind v _ rest w h

theorem fieldInt_front {w : Nat} {n : Int} (rest : List Byte) (hlow : -(2 ^ (8 * w) : Nat) ≤ 2 * n)
    (hhigh : 2 * n < (2 ^ (8 * w) : Nat)) : fieldInt (bytesInt w n ++ rest) 0 w = n := by
  simp [fieldInt, intBE_bytesInt hlow hhigh]

theorem fieldInt_front_16 {n : Int} (rest : List Byte) (hlow : -32768 ≤ n) (hhigh : n < 32768) :
    fieldInt (bytesInt 2 n ++ rest) 0 2 = n := fieldInt_front rest (by omega) (by omega)

theorem fieldInt_only_32 {n : Int} (hlow : -2147483648 ≤ n) (hhigh : n < 2147483648) :
    fieldInt (bytesInt 4 n) 0 4 = n := by
  simpa using fieldInt_front (w := 4) [] (n := n) (by omega) (by omega)

theorem fieldInt_behind (v n : Nat) (rest : List Byte) (w : Nat) {i : Nat} (h : v ≤ i) :
    fieldInt (bytesBE v n ++ rest) i w = fieldInt rest (i - v) w := by
  simp [fieldInt, List.drop_append, List.drop_eq_nil_of_le, h]

theorem fieldInt_behindInt (v : Nat) (n : Int) (rest : List Byte) (w : Nat) {i : Nat} (h : v ≤ i) :
    fieldInt (bytesInt v n ++ rest) i w = fieldInt rest (i - v) w := fieldInt_behind v _ rest w h

/-- A set or a tag is read back from the bytes of its field. -/
theorem fieldBits_front {w m : Nat} (x : BitVec m) (rest : List Byte) (h : m = 8 * w) :
    fieldBits m (bytesBE w x.toNat ++ rest) 0 w = x := by
  have hx : x.toNat < 256 ^ w := by
    have hpow : (256 ^ w : Nat) = 2 ^ m := by rw [h, Nat.pow_mul]
    exact hpow ▸ x.isLt
  rw [fieldBits, field_front rest hx, BitVec.ofNat_toNat, BitVec.setWidth_eq]

theorem fieldBits_only {w m : Nat} (x : BitVec m) (h : m = 8 * w) : fieldBits m (bytesBE w x.toNat) 0 w = x := by
  simpa using fieldBits_front x [] h

theorem fieldBits_behind (m v n : Nat) (rest : List Byte) (w : Nat) {i : Nat} (h : v ≤ i) :
    fieldBits m (bytesBE v n ++ rest) i w = fieldBits m rest (i - v) w := by
  rw [fieldBits, field_behind v n rest w h, fieldBits]

/-! ### The payloads with a record of fields -/

theorem readLineConfig_write {a : LineConfigArgs} (h : a.wf = true) : readLineConfig (writeLineConfig a) = a := by
  simp only [LineConfigArgs.wf, fits8, fits16, fits32, Bool.and_eq_true, decide_eq_true_eq] at h
  simp [readLineConfig, writeLineConfig, field_front, field_only, field_behind, h]

theorem readLineSet_write {a : LineSetArgs} (h : a.wf = true) : readLineSet (writeLineSet a) = a := by
  simp only [LineSetArgs.wf, fits8, fits16, fits32, Bool.and_eq_true, decide_eq_true_eq] at h
  simp [readLineSet, writeLineSet, field_front, field_only, field_behind, h]

theorem readPortionSet_write {a : PortionSetArgs} (h : a.wf = true) : readPortionSet (writePortionSet a) = a := by
  simp only [PortionSetArgs.wf, fits8, fits16, Bool.and_eq_true, decide_eq_true_eq] at h
  simp [readPortionSet, writePortionSet, field_front, field_only, field_behind, h]

theorem readPartSet_write {a : PartSetArgs} (h : a.wf = true) : readPartSet (writePartSet a) = a := by
  simp only [PartSetArgs.wf, fits16, Bool.and_eq_true, decide_eq_true_eq] at h
  simp [readPartSet, writePartSet, field_front, field_only, field_behind, h]

theorem readKegEnrol_write {a : KegEnrolArgs} (h : a.wf = true) : readKegEnrol (writeKegEnrol a) = a := by
  simp only [KegEnrolArgs.wf, fits8, fits16, fits32, Bool.and_eq_true, decide_eq_true_eq] at h
  simp [readKegEnrol, writeKegEnrol, field_front, field_only, field_behind, fieldBits_front, h]

theorem readTrunkClimate_write {a : TrunkClimateArgs} (h : a.wf = true) : readTrunkClimate (writeTrunkClimate a) = a := by
  simp only [TrunkClimateArgs.wf, fits8, fitsInt16, Bool.and_eq_true, decide_eq_true_eq] at h
  simp [readTrunkClimate, writeTrunkClimate, field_front, field_only, field_behind, field_behindInt, fieldInt_front_16, fieldInt_behind,
    fieldInt_behindInt, h]

theorem readChillerSet_write {a : ChillerSetArgs} (h : a.wf = true) : readChillerSet (writeChillerSet a) = a := by
  simp only [ChillerSetArgs.wf, fits8, fits16, fitsInt16, Bool.and_eq_true, decide_eq_true_eq] at h
  simp [readChillerSet, writeChillerSet, field_front, field_only, field_behind, field_behindInt, fieldInt_front_16, h]

theorem readRecipeSet_write {a : RecipeSetArgs} (h : a.wf = true) : readRecipeSet (writeRecipeSet a) = a := by
  simp only [RecipeSetArgs.wf, fits8, fits16, fitsInt16, Bool.and_eq_true, decide_eq_true_eq] at h
  simp [readRecipeSet, writeRecipeSet, field_front, field_only, field_behind, field_behindInt, fieldInt_front_16, fieldInt_behind, h]

/-! ### Every command -/

/-- The payload that `encodeCommand` writes has the length of the command's row (section 11.2). -/
theorem requestLength_of_encode {i : Instr} {code : Byte} {payload : List Byte} (h : encodeCommand i = some (code, payload)) :
    requestLength code = some payload.length := by
  cases i <;> cases h <;>
    simp [requestLength, writeLineConfig, writeLineSet, writePortionSet, writePartSet, writeKegEnrol, writeTrunkClimate,
      writeChillerSet, writeRecipeSet]

/-- A well-formed command is read back from its code and payload. -/
theorem readCommand_of_encode {i : Instr} {code : Byte} {payload : List Byte} (hwf : i.wf = true)
    (h : encodeCommand i = some (code, payload)) : readCommand i.service i.tag code payload = some i := by
  cases i <;> cases h <;> simp only [Instr.wf, fits8, fits16, fitsInt32, fitsInt16, Bool.and_eq_true, decide_eq_true_eq] at hwf <;>
    simp [readCommand, Instr.service, Instr.tag, readLineConfig_write, readLineSet_write, readPortionSet_write,
      readPartSet_write, readKegEnrol_write, readTrunkClimate_write, readChillerSet_write, readRecipeSet_write, field_front,
      field_only, field_behind, fieldInt_only_32, fieldInt_front_16, fieldInt_behind, field_behindInt, fieldBits_front, fieldBits_only,
      fieldBits_behind, hwf]

/-- Settles O7, field by field of each row: a field in its range is read back from the bytes written for it. -/
theorem commandPayloadsReadBack : Obligations.CommandPayloadsReadBack :=
  fun _ _ _ hwf h => ⟨requestLength_of_encode h, readCommand_of_encode hwf h⟩

end Sys2Proof.Machine
end

section
/-! PROOF. What no part of a command does beside its answer: only the end of a command answers, and nothing touches the queue of
commands. -/

namespace Sys2Proof.Machine

/-- Neither the answer nor the queue of commands changes. -/
def Silent (s t : State) : Prop := t.answer = s.answer ∧ t.pending = s.pending

theorem Silent.refl (s : State) : Silent s s := ⟨rfl, rfl⟩

theorem Silent.trans {s t u : State} (h : Silent s t) (k : Silent t u) : Silent s u := ⟨k.1.trans h.1, k.2.trans h.2⟩

theorem Silent.foldl {α : Type} {f : State → α → State} (h : ∀ s x, Silent s (f s x)) (xs : List α) (s : State) :
    Silent s (xs.foldl f s) := by
  induction xs generalizing s with
  | nil => exact .refl s
  | cons x xs ih => exact (h s x).trans (ih _)

theorem Worked.silent {s t : State} (h : Worked s t) : Silent s t := by rw [h]; exact ⟨rfl, rfl⟩

theorem Sequenced.silent {s t : State} (h : Sequenced s t) : Silent s t := h.worked.silent

section
variable {s : State} {l : Line}

theorem State.follow_silent : Silent s s.follow := State.follow_worked.silent
theorem State.considerFormation_silent : Silent s s.considerFormation := State.considerFormation_followed.worked.silent

theorem State.setRecord_silent (r : PourRec) : Silent s (s.setRecord l r) := ⟨rfl, rfl⟩
theorem State.setRecv_silent (b : Binding) (r : Option RecvState) : Silent s (s.setRecv b r) := by
  unfold State.setRecv State.setLoop
  split <;> exact ⟨rfl, rfl⟩
theorem State.raise_silent (k : LineKind) : Silent s (s.raise k l) := ⟨rfl, rfl⟩
theorem State.setGroup_silent (g : Option Group) : Silent s (s.setGroup g) := ⟨rfl, rfl⟩
theorem State.setValve_silent (g : ValveGroup) (x : GroupPatterns) : Silent s (s.setValve g x) := ⟨rfl, rfl⟩
theorem State.setZone_silent (t : Trunk) (z : Zone) : Silent s (s.setZone t z) := ⟨rfl, rfl⟩
theorem State.setRole_silent (k : Fin 15) (r : RoleRec) : Silent s (s.setRole k r) := ⟨rfl, rfl⟩
theorem State.setInput_silent (i : SenseInput) (x : InputChannel) : Silent s (s.setInput i x) := ⟨rfl, rfl⟩

/-! ### Cellar Climate -/

theorem State.evalGate_silent (t : Trunk) : Silent s (s.evalGate t) := by
  unfold State.evalGate
  dsimp only
  split <;> exact ⟨rfl, rfl⟩

theorem State.evalRoleGate_silent (r : Role) : Silent s (s.evalRoleGate r) := by
  unfold State.evalRoleGate
  split
  · exact State.evalGate_silent _
  · exact .refl _

theorem State.restartRole_silent (r : Role) : Silent s (s.restartRole r) := by
  unfold State.restartRole
  split <;> exact ⟨rfl, rfl⟩

theorem State.dropRole_silent (j : Option SenseInput) : Silent s (s.dropRole j) := by cases j <;> exact ⟨rfl, rfl⟩

theorem State.assign_silent (i : SenseInput) (r : Role) (base : Int) (span : Nat) : Silent s (s.assign i r base span) := by
  unfold State.assign
  dsimp only
  have restarted : Silent s ((((s.dropRole (s.otherHolder i r)).setInput i { role := r, base := base, span := span }).restartRole
      (s.input i).role).restartRole r) :=
    (((State.dropRole_silent _).trans (State.setInput_silent _ _)).trans (State.restartRole_silent _)).trans (State.restartRole_silent _)
  split
  · exact restarted.trans (State.evalRoleGate_silent _)
  · exact (restarted.trans (State.evalRoleGate_silent _)).trans (State.evalRoleGate_silent _)

theorem State.failProbe_silent (i : SenseInput) : Silent s (s.failProbe i) := by
  unfold State.failProbe
  split
  · exact .refl _
  · split
    · exact Silent.trans ⟨rfl, rfl⟩ (State.evalRoleGate_silent _)
    · exact .refl _

theorem State.judgeCode_silent (i : SenseInput) (bits x : Nat) : Silent s (s.judgeCode i bits x) := by
  unfold State.judgeCode
  split
  · exact .refl _
  · split
    · exact Silent.trans ⟨rfl, rfl⟩ (State.failProbe_silent _)
    · exact Silent.trans ⟨rfl, rfl⟩ (State.evalRoleGate_silent _)

theorem State.convert_silent (code : Nat) : Silent s (s.convert code) := by
  unfold State.convert
  split
  · exact (State.judgeCode_silent _ _ _).trans ⟨rfl, rfl⟩
  · exact .refl _

theorem State.fixDuties_silent : Silent s s.fixDuties := Silent.foldl (fun _ _ => State.setZone_silent _ _) _ _

theorem State.endBoost_silent : Silent s s.endBoost := by
  unfold State.endBoost
  split
  · split <;> exact ⟨rfl, rfl⟩
  · exact .refl _

theorem State.countBoost_silent : Silent s s.countBoost := by
  unfold State.countBoost
  split
  · exact Silent.trans ⟨rfl, rfl⟩ State.endBoost_silent
  · exact .refl _

theorem State.windowDuty_silent : Silent s s.windowDuty := by
  unfold State.windowDuty
  split
  · exact State.fixDuties_silent.trans State.countBoost_silent
  · exact .refl _

theorem State.takeWindow_silent (n : Nat) : Silent s (s.takeWindow n) := by
  have window : Silent s (s.setWindow ((s.climate.window + 1) % 16)) := ⟨rfl, rfl⟩
  have gates : ∀ t : State, Silent t t.evalGates := Silent.foldl (fun _ t => State.evalGate_silent t) _
  have rest : ∀ t : State, Silent t ((t.countStages.decideStage1).decideStage2 n).writeClimate := fun _ => ⟨rfl, rfl⟩
  exact ((window.trans (gates _)).trans State.windowDuty_silent).trans (rest _)

/-! ### The Keg Register -/

theorem State.startRead_silent : Silent s s.startRead := by
  obtain ⟨_, _, h⟩ | ⟨_, h⟩ := s.startRead_cases <;> rw [h] <;> exact ⟨rfl, rfl⟩

theorem State.enqueueRead_silent (e : ReadEntry) : Silent s (s.enqueueRead e) := Silent.trans ⟨rfl, rfl⟩ State.startRead_silent

theorem State.withdrawRead_silent (p : Position) : Silent s (s.withdrawRead l p) := by
  rw [State.withdrawRead_frame]; exact ⟨rfl, rfl⟩

theorem State.retireKeg_silent (p : Position) (k : KegRec) : Silent s (s.retireKeg l p k) := by
  unfold State.retireKeg
  dsimp only
  refine (State.withdrawRead_silent (l := l) p).trans ?_
  split
  · exact ⟨rfl, rfl⟩
  · exact Silent.trans ⟨rfl, rfl⟩ (State.changeover_worked p).silent
  · exact .refl _
  · exact .refl _

theorem State.putOnTap_silent {p : Position} {t : State} (h : s.putOnTap l p = some t) : Silent s t := by
  rw [State.putOnTap_frame h]
  exact ⟨rfl, rfl⟩

theorem State.dryToReady_silent (p : Position) : Silent s (s.dryToReady l p) := by
  unfold State.dryToReady
  split
  · exact .refl _
  · next h => exact ((State.putOnTap_silent h).trans (State.changeLine_worked _).silent).trans (State.raise_silent _)

theorem State.kegVerified_silent (p : Position) : Silent s (s.kegVerified l p) := by
  unfold State.kegVerified
  split
  · exact State.dryToReady_silent _
  · exact .refl _

theorem State.applyEnrol_silent (e : ReadEntry) (o : TagOutcome) (r : Option Tag) : Silent s (s.applyEnrol e o r) := by
  unfold State.applyEnrol
  split
  · exact .refl _
  · dsimp only
    split
    · exact Silent.trans ⟨rfl, rfl⟩ (State.kegVerified_silent _)
    · exact ⟨rfl, rfl⟩

theorem State.onKeg_silent (p : Position) (f : KegRec → KegRec) : Silent s (s.onKeg l p f) := by
  unfold State.onKeg
  split <;> exact ⟨rfl, rfl⟩

theorem State.endRead_silent (e : ReadEntry) (rest : List ReadEntry) (d : Bool) (o : TagOutcome) (r : Option Tag) :
    Silent s (s.endRead e rest d o r) := by
  unfold State.endRead
  dsimp only
  refine Silent.trans (t := (s.setReadQueue rest).setBus none) ⟨rfl, rfl⟩ (Silent.trans ?_ State.startRead_silent)
  split
  · exact .refl _
  · split
    · exact State.applyEnrol_silent _ _ _
    · exact (State.onKeg_silent _ _).trans ⟨rfl, rfl⟩

theorem State.copyRead_silent (status : Byte) (block : BitVec 128) : Silent s (s.copyRead status block) := by
  unfold State.copyRead
  split
  · split
    · exact ⟨rfl, rfl⟩
    · exact State.endRead_silent _ _ _ _ _
  · exact .refl _

/-! ### The Tap Loops -/

theorem State.declareLost_silent (b : Binding) : Silent s (s.declareLost b) := by
  unfold State.declareLost
  split
  · split
    · exact ((State.setRecv_silent _ _).trans (State.endAtOnce_worked _).silent).trans (State.raise_silent _)
    · exact .refl _
  · exact .refl _

theorem State.miss_silent (b : Binding) : Silent s (s.miss b l) := by
  unfold State.miss
  dsimp only
  refine (State.missFrame_worked (l := l)).silent.trans ?_
  split
  · exact (State.setRecv_silent _ _).trans (State.declareLost_silent _)
  · exact .refl _

theorem State.accept_silent (b : Binding) (r : RecvState) (w : Inbound) : Silent s (s.accept b l r w) :=
  ((State.setRecv_silent _ _).trans (State.arrival_worked _).silent).trans (State.setRecv_silent _ _)

theorem State.setLoop_silent (i : LoopId) (r : LoopRec) : Silent s (s.setLoop i r) := by cases i <;> exact ⟨rfl, rfl⟩

theorem State.takeWord_silent (b : Binding) (w : Inbound) : Silent s (s.takeWord b w) := by
  unfold State.takeWord
  split
  · split
    · exact (State.setLoop_silent _ _).trans (State.miss_silent _)
    · split
      · exact (State.setLoop_silent _ _).trans (State.miss_silent _)
      · exact State.accept_silent _ _ _
  · exact .refl _

theorem State.slotEnd_silent (b : Binding) (w : SlotWord) : Silent s (s.slotEnd b w) := by
  unfold State.slotEnd
  dsimp only
  split
  · exact (State.setLoop_silent _ _).trans (State.takeWord_silent _ _)
  · exact .refl _

theorem State.loopStopReport_silent (ls : List Line) : Silent s (s.loopStopReport ls) := by
  unfold State.loopStopReport
  split
  · exact .refl _
  · dsimp only
    split
    · exact (State.settleRun_sequenced _).silent
    · exact (State.abandon_sequenced _).silent

theorem State.stopLoop_silent (i : LoopId) : Silent s (s.stopLoop i) :=
  ((State.setLoop_silent _ _).trans (Silent.foldl (fun _ _ => (State.endAtOnce_worked _).silent) _ _)).trans
    (State.loopStopReport_silent _)

/-! ### The Cleaning Sequencer -/

theorem State.abortDraw_silent : Silent s (s.abortDraw l) := by
  unfold State.abortDraw
  split
  · split <;> exact ⟨rfl, rfl⟩
  · exact .refl _

theorem State.abortDraws_silent (xs : List GroupLine) : Silent s (s.abortDraws xs) :=
  Silent.foldl (fun _ _ => State.abortDraw_silent) _ _

theorem State.haltGroup_silent (g : Group) : Silent s (s.haltGroup g) := by
  unfold State.haltGroup
  dsimp only
  split
  · exact ⟨rfl, rfl⟩
  · exact ((State.abortDraws_silent _).trans (State.reportLoss_sequenced _).silent).trans (State.enterRelease_sequenced _).silent

theorem State.pumpFailed_silent : Silent s s.pumpFailed := by
  unfold State.pumpFailed
  split
  · split
    · exact Silent.trans ⟨rfl, rfl⟩ (State.haltGroup_silent _)
    · exact .refl _
  · exact .refl _

theorem State.runTimeout_silent : Silent s s.runTimeout := by
  unfold State.runTimeout
  split
  · split
    · exact (State.abortDraws_silent _).trans (State.endRun_sequenced _).silent
    · exact .refl _
  · exact .refl _

theorem State.finishSoak_silent : Silent s s.finishSoak := by
  unfold State.finishSoak
  split
  · split
    · exact ((State.endHeating_sequenced _).trans (State.startRun_sequenced _ _ _)).silent
    · exact .refl _
  · exact .refl _

theorem State.issueDraw_silent {t : State} {n : Nat} (h : s.issueDraw l n = .ok t) : Silent s t := by
  unfold State.issueDraw at h
  split at h <;> cases h
  exact ⟨rfl, rfl⟩

theorem State.askDraws_silent (phase : Phase) (run : Nat) (xs : List GroupLine) (s : State) :
    Silent s (State.askDraws phase run s xs).1 := by
  induction xs generalizing s with
  | nil => exact .refl s
  | cons x xs ih =>
    unfold State.askDraws
    split
    · split
      · next h => exact (State.issueDraw_silent h).trans (ih _)
      · exact ih _
      · exact ih _
    · exact ih _

theorem State.meteredStep_silent (g : Group) (n : Nat) : Silent s (s.meteredStep g n) := by
  unfold State.meteredStep
  dsimp only
  split
  · exact (State.setGroup_silent _).trans State.pumpFailed_silent
  · split
    · exact (State.setGroup_silent _).trans State.runTimeout_silent
    · unfold State.stepDraws
      exact ((State.setGroup_silent _).trans (State.askDraws_silent _ _ _ _)).trans (State.settleRun_sequenced _).silent

theorem State.soakStep_silent (g : Group) (n : Nat) : Silent s (s.soakStep g n) := by
  unfold State.soakStep
  dsimp only
  split
  · exact Silent.trans ⟨rfl, rfl⟩ State.finishSoak_silent
  · exact (State.decideHeater_sequenced _).silent

theorem State.verifyStep_silent (g : Group) (n : Nat) : Silent s (s.verifyStep g n) := by
  unfold State.verifyStep
  dsimp only
  split
  · exact (State.enterRelease_sequenced _).silent
  · split
    · exact (State.startRun_sequenced _ _ _).silent
    · exact (State.enterRelease_sequenced _).silent

theorem State.cleanStep_silent (n : Nat) : Silent s (s.cleanStep n) := by
  unfold State.cleanStep
  split
  · exact .refl _
  · split
    · exact .refl _
    · exact .refl _
    · exact State.soakStep_silent _ _
    · exact State.verifyStep_silent _ _
    · exact State.meteredStep_silent _ _

theorem State.abortGroup_silent {g : Group} {t : State} (h : s.abortGroup g = some t) : Silent s t := by
  have released : Silent s (((s.abortDraws g.lines).reportLoss g).enterRelease { g.aborted with lossReported := true }) :=
    ((State.abortDraws_silent _).trans (State.reportLoss_sequenced _).silent).trans (State.enterRelease_sequenced _).silent
  have rinsed : Silent s (((s.abortDraws g.lines).endHeating g).startRun g.aborted .rinse 1) :=
    ((State.abortDraws_silent _).trans (State.endHeating_sequenced _).silent).trans (State.startRun_sequenced _ _ _).silent
  unfold State.abortGroup at h
  split at h <;> cases h <;> assumption

/-! ### The Valve Output Unit and the Cellar Timebase -/

theorem State.askShift_silent : Silent s s.askShift := by
  obtain ⟨_, h⟩ | ⟨_, h⟩ := s.askShift_cases <;> rw [h] <;> exact ⟨rfl, rfl⟩

theorem State.onGroups_silent (gs : List ValveGroup) (f : GroupPatterns → GroupPatterns) : Silent s (s.onGroups gs f) :=
  Silent.foldl (fun _ _ => State.setValve_silent _ _) _ _

theorem State.applyPhase2_silent (c : Channel) : Silent s (s.applyPhase2 c) := by
  unfold State.applyPhase2
  split
  · exact (State.onGroups_silent _ _).trans State.askShift_silent
  · exact .refl _

theorem State.moveTake_silent (f : TakeWait → TakeWait) : Silent s (s.moveTake f) := by
  unfold State.moveTake
  split
  · split <;> exact ⟨rfl, rfl⟩
  · exact .refl _

theorem State.periodEvent_silent (c : Channel) : Silent s (s.periodEvent c) := by
  unfold State.periodEvent State.periodUsers
  refine Silent.trans (t := s.setChannel c (s.channel c).atPeriod) ⟨rfl, rfl⟩ ?_
  split
  · exact ((State.onGroups_silent _ _).trans State.askShift_silent).trans (State.moveTake_silent _)
  · split
    · exact State.takeWindow_silent _
    · split
      · exact Silent.trans ⟨rfl, rfl⟩ (State.cleanStep_silent _)
      · exact (State.onGroups_silent _ _).trans State.askShift_silent

theorem State.marginEvent_silent (c : Channel) : Silent s (s.marginEvent c) := by
  unfold State.marginEvent State.marginUsers
  refine Silent.trans (t := s.setChannel c { s.channel c with counter := (s.channel c).margin }) ⟨rfl, rfl⟩ ?_
  split
  · split
    · exact (State.applyPhase2_silent _).trans (State.moveTake_silent _)
    · exact .refl _
  · split
    · exact (State.onGroups_silent _ _).trans State.askShift_silent
    · split
      · exact .refl _
      · exact State.applyPhase2_silent _

theorem State.faultHalt_silent : Silent s s.faultHalt := by
  unfold State.faultHalt
  split
  · exact State.haltGroup_silent _
  · exact .refl _

theorem State.compareEcho_silent (sent echo : Image) : Silent s (s.compareEcho sent echo) := by
  unfold State.compareEcho
  split
  · exact .refl _
  · split
    · exact ⟨rfl, rfl⟩
    · exact Silent.trans ⟨rfl, rfl⟩ State.faultHalt_silent

theorem State.reportShift_silent : Silent s s.reportShift := by
  unfold State.reportShift
  split
  · split
    · split
      · exact (State.startRun_sequenced _ _ _).silent
      · split <;> exact ⟨rfl, rfl⟩
    · exact .refl _
  · exact .refl _

theorem State.startShift_silent : Silent s s.startShift := by
  unfold State.startShift
  split <;> exact ⟨rfl, rfl⟩

theorem State.endShift_silent (echo : Image) : Silent s (s.endShift echo) := by
  unfold State.endShift
  split
  · exact .refl _
  · next sent _ =>
    have freed : ∀ t : State, Silent t { t with valves := { t.valves with shifting := none } } := fun _ => ⟨rfl, rfl⟩
    exact (((State.compareEcho_silent sent echo).trans (freed _)).trans State.reportShift_silent).trans State.startShift_silent

theorem State.restartChannel_silent (mask : Byte) (c : Channel) : Silent s (State.restartChannel mask s c) := by
  unfold State.restartChannel
  split <;> exact ⟨rfl, rfl⟩

end

end Sys2Proof.Machine
end

section
/-! PROOF. What a command of the Venue Link answers: a status other than OK with the state left as it was, or OK; CLEAN_ABORT apart
(section 10.5). -/

namespace Sys2Proof.Machine

/-- A command answered: the answer alone is new, or it is OK. The queue of commands stays. -/
def Answered (s t : State) : Prop :=
  (∃ st bs, t = s.reply st bs) ∨ ∃ bs, t.answer = some ⟨.ok, bs⟩ ∧ t.pending = s.pending

section
variable {s t u : State}

theorem Answered.reply (st : Status) (bs : List Byte) : Answered s (s.reply st bs) := .inl ⟨st, bs, rfl⟩

theorem Answered.refuse (st : Status) : Answered s (s.refuse st) := .reply st []

theorem Answered.ok (h : Silent s t) (bs : List Byte) : Answered s (t.ok bs) := .inr ⟨bs, rfl, h.2⟩

/-- What follows an OK answer leaves it. -/
theorem Answered.ok_then {bs : List Byte} (h : Silent s t) (k : Silent (t.ok bs) u) : Answered s u :=
  .inr ⟨bs, k.1, k.2.trans h.2⟩

theorem Answered.answer (h : Answered s t) : ∃ a, t.answer = some a := by
  obtain ⟨st, bs, rfl⟩ | ⟨bs, h, -⟩ := h
  · exact ⟨_, rfl⟩
  · exact ⟨_, h⟩

theorem Answered.pending (h : Answered s t) : t.pending = s.pending := by
  obtain ⟨st, bs, rfl⟩ | ⟨bs, -, h⟩ := h
  · rfl
  · exact h

/-- A status other than OK leaves the state but for the answer. -/
theorem Answered.refused (h : Answered s t) {a : Answer} (ha : t.answer = some a) (hs : a.status ≠ .ok) :
    t = { s with answer := some a } := by
  obtain ⟨st, bs, rfl⟩ | ⟨bs, h, -⟩ := h
  · cases ha; rfl
  · cases h.symm.trans ha
    exact absurd rfl hs

/-! ### Lines -/

theorem State.setStoredK_silent (l : Line) (k : Nat) : Silent s (s.storeK l k) := ⟨rfl, rfl⟩

theorem State.bind_silent (b : Binding) (l : Line) : Silent s (s.bind b l) := by
  obtain ⟨i, k⟩ := b
  cases i <;> exact ⟨rfl, rfl⟩

theorem State.unbind_silent (b : Binding) : Silent s (s.unbind b) := by
  obtain ⟨i, k⟩ := b
  cases i <;> exact ⟨rfl, rfl⟩

theorem takeLineConfig_answered (a : LineConfigArgs) : Answered s (takeLineConfig a s) := by
  unfold takeLineConfig
  split
  · exact .refuse _
  · split
    · exact .refuse _
    · split
      · exact .refuse _
      · split
        · exact .refuse _
        · exact .ok (((State.bind_silent _ _).trans (State.setStoredK_silent _ _)).trans (State.changeLine_worked _).silent) _

theorem State.rebind_silent (l : Line) (old new : Binding) : Silent s (s.rebind l old new) := by
  unfold State.rebind
  split
  · exact .refl _
  · exact (State.unbind_silent _).trans (State.bind_silent _ _)

theorem takeLineSet_answered (a : LineSetArgs) : Answered s (takeLineSet a s) := by
  unfold takeLineSet
  split
  · exact .refuse _
  · next l _ =>
    split
    · exact .refuse _
    · exact .refuse _
    · next c _ _ =>
      split
      · exact .refuse _
      · dsimp only
        have written : Silent s ((s.rebind l c.binding (writeSelected a c).binding).setLine l
            { s.line l with cfg := some (writeSelected a c) }) := (State.rebind_silent _ _ _).trans (State.setLine_worked _).silent
        refine .ok ?_ _
        split
        · exact written.trans (State.setStoredK_silent _ _)
        · exact written

theorem takeLineHold_answered (n : Nat) : Answered s (takeLineHold n s) := by
  unfold takeLineHold
  split
  · exact .refuse _
  · split
    · exact .refuse _
    · dsimp only
      split
      · exact .ok_then (State.setLine_worked _).silent State.considerFormation_silent
      · exact .ok (State.setLine_worked _).silent _

theorem takeLineRelease_answered (n : Nat) : Answered s (takeLineRelease n s) := by
  unfold takeLineRelease
  split
  · exact .refuse _
  · split
    · exact .ok_then (State.changeLine_worked _).silent State.considerFormation_silent
    · exact .refuse _

theorem takeLinePrime_answered (n : Nat) : Answered s (takeLinePrime n s) := by
  unfold takeLinePrime
  split
  · exact .refuse _
  · split
    · split
      · next h => exact .ok (State.startPriming_worked h).silent _
      · exact .reply _ _
    · split
      · exact .ok (State.dryToReady_silent _) _
      · exact .reply _ _
      · exact .reply _ _
    · exact .reply _ _

theorem State.unbindLine_silent (l : Line) : Silent s (s.unbindLine l) := by
  unfold State.unbindLine
  split
  · exact State.unbind_silent _
  · exact .refl _

theorem takeLineRetire_answered (n : Nat) : Answered s (takeLineRetire n s) := by
  unfold takeLineRetire
  split
  · exact .refuse _
  · split
    · exact .refuse _
    · have enrol : ∀ (t : State) (l : Line), Silent t (t.setLastEnrol l none) := fun _ _ => ⟨rfl, rfl⟩
      exact .ok ((((State.unbindLine_silent _).trans (State.changeLine_worked _).silent).trans (enrol _ _)).trans
        (State.setPour_worked _).silent) _

theorem takeLineRead_answered (n : Nat) : Answered s (takeLineRead n s) := by
  unfold takeLineRead
  split
  · exact .refuse _
  · exact .ok (.refl _) _

theorem takePortionSet_answered (a : PortionSetArgs) : Answered s (takePortionSet a s) := by
  unfold takePortionSet
  split
  · exact .refuse _
  · exact .inr ⟨_, rfl, rfl⟩

theorem takeCalUnlock_answered (b : Bool) : Answered s (takeCalUnlock b s) := by
  unfold takeCalUnlock
  split
  · exact .reply _ _
  · exact .inr ⟨_, rfl, rfl⟩

/-! ### Pours -/

theorem takePourAbort_answered (n : Nat) : Answered s (takePourAbort n s) := by
  unfold takePourAbort
  split
  · exact .refuse _
  · split
    · exact .refuse _
    · split
      · exact .refuse _
      · exact .ok_then State.withdraw_worked.silent State.follow_silent
      · exact .ok_then (State.closePour_worked _).silent State.follow_silent
      · exact .ok (.refl _) _

theorem takePourRead_answered (n : Nat) : Answered s (takePourRead n s) := by
  unfold takePourRead
  split
  · exact .refuse _
  · exact .ok (.refl _) _

theorem State.promote_silent (t : Trunk) : Silent s (s.promote t) := by rw [State.promote_frame]; exact ⟨rfl, rfl⟩

theorem takeTrunkDraw_answered (n m : Nat) : Answered s (takeTrunkDraw n m s) := by
  unfold takeTrunkDraw
  split
  · exact .refuse _
  · dsimp only
    refine .ok ?_ _
    split
    · exact (State.setTrunk_worked _ _).silent.trans (State.promote_silent _)
    · exact (State.setTrunk_worked _ _).silent

/-! ### Kegs -/

theorem takeKegEnrol_answered (a : KegEnrolArgs) : Answered s (takeKegEnrol a s) := by
  unfold takeKegEnrol
  split
  · exact .refuse _
  · split
    · split
      · exact .refuse _
      · exact .ok ((State.setKeg_worked _ _).silent.trans (State.enqueueRead_silent _)) _
    · exact .refuse _

theorem takeKegCheck_answered (n m : Nat) : Answered s (takeKegCheck n m s) := by
  unfold takeKegCheck
  split
  · exact .refuse _
  · split
    · exact .refuse _
    · split
      · exact .refuse _
      · split
        · exact .refuse _
        · exact .ok (State.enqueueRead_silent _) _

theorem State.confirmEmpty_answered (l : Line) (p : Position) (k : KegRec) : Answered s (s.confirmEmpty l p k) := by
  unfold State.confirmEmpty
  split
  · split
    · exact .ok_then (State.spend_worked _).silent State.follow_silent
    · exact .refuse _
  · exact .ok ((State.setKeg_worked _ _).silent.trans (State.raise_silent _)) _

theorem takeKegConfirm_answered (n m v : Nat) : Answered s (takeKegConfirm n m v s) := by
  unfold takeKegConfirm
  split
  · exact .refuse _
  · split
    · exact .refuse _
    · split
      · exact .refuse _
      · split
        · exact .refuse _
        · split
          · exact State.confirmEmpty_answered _ _ _
          · exact .ok (State.setKeg_worked _ _).silent _

theorem takeKegRetire_answered (n m : Nat) : Answered s (takeKegRetire n m s) := by
  unfold takeKegRetire
  split
  · exact .refuse _
  · split
    · exact .refuse _
    · split
      · exact .refuse _
      · exact .ok_then ((State.retireKeg_silent _ _).trans (State.setKeg_worked _ _).silent) State.follow_silent

theorem takeKegRead_answered (n m : Nat) : Answered s (takeKegRead n m s) := by
  unfold takeKegRead
  split
  · exact .refuse _
  · exact .ok (.refl _) _

theorem takeKegFind_answered (tag : Tag) : Answered s (takeKegFind tag s) := by
  unfold takeKegFind
  split
  · exact .ok (.refl _) _
  · exact .refuse _

/-! ### Accounts -/

theorem takeAccountOpen_answered (id float : Nat) (credit : Int) : Answered s (takeAccountOpen id float credit s) := by
  unfold takeAccountOpen
  split
  · exact .refuse _
  · split
    · exact .refuse _
    · split
      · exact .refuse _
      · exact .ok (State.setAccount_worked _ _).silent _

theorem takeAccountCredit_answered (id : Nat) (n : Int) : Answered s (takeAccountCredit id n s) := by
  unfold takeAccountCredit
  split
  · exact .refuse _
  · split
    · exact .refuse _
    · split
      · exact .refuse _
      · exact .ok (State.setAccount_worked _ _).silent _

theorem takeAccountFloat_answered (id float : Nat) : Answered s (takeAccountFloat id float s) := by
  unfold takeAccountFloat
  split
  · exact .refuse _
  · split
    · exact .refuse _
    · split
      · exact .refuse _
      · exact .ok (State.setAccount_worked _ _).silent _

theorem takeAccountClose_answered (id : Nat) : Answered s (takeAccountClose id s) := by
  unfold takeAccountClose
  split
  · exact .refuse _
  · split
    · exact .refuse _
    · split
      · split <;> exact .ok (State.setAccount_worked _ _).silent _
      · exact .reply _ _
      · exact .ok (State.setAccount_worked _ _).silent _

theorem takeAccountRead_answered (x key page : Nat) : Answered s (takeAccountRead x key page s) := by
  unfold takeAccountRead
  split
  · split
    · exact .refuse _
    · split
      · exact .refuse _
      · exact .ok (.refl _) _
  · split
    · split
      · split
        · exact .refuse _
        · exact .ok (.refl _) _
      · exact .refuse _
    · exact .refuse _

/-! ### Tap Loops -/

theorem takeLoopSet_answered (n m : Nat) : Answered s (takeLoopSet n m s) := by
  unfold takeLoopSet
  split
  · exact .refuse _
  · split
    · exact .refuse _
    · exact .ok (State.setLoop_silent _ _) _

theorem takeLoopStart_answered (n : Nat) : Answered s (takeLoopStart n s) := by
  unfold takeLoopStart
  split
  · exact .refuse _
  · split
    · exact .refuse _
    · exact .ok ((State.setLoop_silent _ _).trans (State.setLoop_silent _ _)) _

theorem takeLoopStop_answered (n : Nat) : Answered s (takeLoopStop n s) := by
  unfold takeLoopStop
  split
  · exact .refuse _
  · split
    · exact .ok_then (State.stopLoop_silent _) State.follow_silent
    · exact .refuse _

theorem takeLoopReset_answered (n : Nat) : Answered s (takeLoopReset n s) := by
  unfold takeLoopReset
  split
  · exact .refuse _
  · dsimp only
    refine .ok_then (Silent.trans ?_ (State.setLoop_silent _ _)) State.follow_silent
    split
    · exact State.stopLoop_silent _
    · exact .refl _

theorem takeLoopRead_answered (n page : Nat) : Answered s (takeLoopRead n page s) := by
  unfold takeLoopRead
  split
  · exact .refuse _
  · exact .ok (.refl _) _

/-! ### Cellar Climate -/

theorem takeScanSet_answered (r : Nat) (m : BitVec 16) : Answered s (takeScanSet r m s) := by
  unfold takeScanSet
  split
  · exact .inr ⟨_, rfl, rfl⟩
  · exact .refuse _

theorem takeScanStart_answered : Answered s (takeScanStart s) := by
  unfold takeScanStart
  split
  · exact .refuse _
  · exact .inr ⟨_, rfl, rfl⟩

theorem takeScanStop_answered : Answered s (takeScanStop s) := by
  unfold takeScanStop
  split
  · exact .inr ⟨_, rfl, rfl⟩
  · exact .refuse _

theorem takeChannelSet_answered (i r : Nat) (b : Int) (n : Nat) : Answered s (takeChannelSet i r b n s) := by
  unfold takeChannelSet
  split
  · exact .ok_then (State.assign_silent _ _ _ _) State.follow_silent
  · exact .refuse _

theorem takeTrunkClimate_answered (a : TrunkClimateArgs) : Answered s (takeTrunkClimate a s) := by
  unfold takeTrunkClimate
  split
  · exact .refuse _
  · exact .ok_then ((State.setZone_silent _ _).trans (State.evalGate_silent _)) State.follow_silent

/-! ### The Cleaning Sequencer -/

theorem takeRecipeSet_answered (a : RecipeSetArgs) : Answered s (takeRecipeSet a s) := by
  unfold takeRecipeSet
  split
  · exact .refuse _
  · exact .inr ⟨_, rfl, rfl⟩

theorem takeCleanSubmit_answered (ls : LineSet) (n : Nat) : Answered s (takeCleanSubmit ls n s) := by
  unfold takeCleanSubmit
  split
  · exact .refuse _
  · split
    · exact .refuse _
    · exact .ok_then (State.setCleanQueue_worked _).silent State.considerFormation_silent

theorem takeCleanHalt_answered : Answered s (takeCleanHalt s) :=
  .ok_then ((State.setCleanQueue_worked _).silent.trans State.faultHalt_silent) State.follow_silent

/-- CLEAN_ABORT answers, whatever it left of its set. -/
theorem takeCleanAbort_answer (ls : LineSet) :
    ∃ a, (takeCleanAbort ls s).answer = some a ∧ (takeCleanAbort ls s).pending = s.pending := by
  unfold takeCleanAbort
  dsimp only
  split
  · exact ⟨_, rfl, rfl⟩
  · split
    · exact ⟨_, rfl, rfl⟩
    · next g _ t h =>
      have aborted : Silent (s.unqueue ls) t := State.abortGroup_silent h
      have followed := State.follow_silent (s := t.ok (bytesBE 4 (lineSet (s.queuedIn ls)).toNat ++ flag true))
      exact ⟨_, followed.1, followed.2.trans aborted.2⟩

/-! ### The Cellar Timebase, the Valve Output Unit and attention -/

theorem takeTimebaseSet_answered (c p m : Nat) : Answered s (takeTimebaseSet c p m s) := by
  unfold takeTimebaseSet
  split
  · exact .refuse _
  · exact .inr ⟨_, rfl, rfl⟩

theorem takeTimebaseSync_answered (m : Byte) : Answered s (takeTimebaseSync m s) := by
  unfold takeTimebaseSync
  split
  · exact .refuse _
  · exact .ok (Silent.foldl (fun _ _ => State.restartChannel_silent _ _) _ _) _

theorem takeValveClear_answered : Answered s (takeValveClear s) := by
  unfold takeValveClear
  dsimp only
  split
  · exact .ok_then (t := s.clearFault) ⟨rfl, rfl⟩ State.considerFormation_silent
  · exact .inr ⟨_, rfl, rfl⟩

theorem takeAttnMask_answered (k : BitVec 16) : Answered s (takeAttnMask k s) := by
  unfold takeAttnMask
  split
  · exact .inr ⟨_, rfl, rfl⟩
  · exact .refuse _

/-! ### Every command of the Venue Link -/

/-- Every command of the Venue Link but CLEAN_ABORT and PART_RESET answers OK, or leaves the state but for its answer. -/
theorem takeCommand_answered {i : Instr} {x : Byte × List Byte} (h : encodeCommand i = some x) (ha : ∀ ls, i ≠ .cleanAbort ls)
    (hr : ∀ tag, i ≠ .partReset tag) : Answered s (takeCommand i s) := by
  cases i with
  | lineConfig a => exact takeLineConfig_answered a
  | lineSet a => exact takeLineSet_answered a
  | lineHold n => exact takeLineHold_answered n
  | lineRelease n => exact takeLineRelease_answered n
  | linePrime n => exact takeLinePrime_answered n
  | lineRetire n => exact takeLineRetire_answered n
  | lineRead n => exact takeLineRead_answered n
  | portionSet a => exact takePortionSet_answered a
  | calLock => exact .inr ⟨_, rfl, rfl⟩
  | calUnlock b => exact takeCalUnlock_answered b
  | pourAbort n => exact takePourAbort_answered n
  | pourRead n => exact takePourRead_answered n
  | trunkDraw n m => exact takeTrunkDraw_answered n m
  | partSet a => exact .inr ⟨_, rfl, rfl⟩
  | kegEnrol a => exact takeKegEnrol_answered a
  | kegCheck n m => exact takeKegCheck_answered n m
  | kegConfirm n m v => exact takeKegConfirm_answered n m v
  | kegRetire n m => exact takeKegRetire_answered n m
  | kegRead n m => exact takeKegRead_answered n m
  | kegFind tag => exact takeKegFind_answered tag
  | accountOpen id f c => exact takeAccountOpen_answered id f c
  | accountCredit id n => exact takeAccountCredit_answered id n
  | accountFloat id f => exact takeAccountFloat_answered id f
  | accountClose id => exact takeAccountClose_answered id
  | accountRead x k p => exact takeAccountRead_answered x k p
  | loopSet n m => exact takeLoopSet_answered n m
  | loopStart n => exact takeLoopStart_answered n
  | loopStop n => exact takeLoopStop_answered n
  | loopReset n => exact takeLoopReset_answered n
  | loopRead n p => exact takeLoopRead_answered n p
  | scanSet r m => exact takeScanSet_answered r m
  | channelSet i r b n => exact takeChannelSet_answered i r b n
  | scanStart => exact takeScanStart_answered
  | scanStop => exact takeScanStop_answered
  | trunkClimate a => exact takeTrunkClimate_answered a
  | chillerSet a => exact .inr ⟨_, rfl, rfl⟩
  | boost o c => exact .inr ⟨_, rfl, rfl⟩
  | climateRead p => exact .ok (.refl _) _
  | recipeSet a => exact takeRecipeSet_answered a
  | cleanSet n m => exact .inr ⟨_, rfl, rfl⟩
  | cleanSubmit ls n => exact takeCleanSubmit_answered ls n
  | cleanAbort ls => exact absurd rfl (ha ls)
  | cleanHalt => exact takeCleanHalt_answered
  | cleanRead p => exact .ok (.refl _) _
  | timebaseSet c p m => exact takeTimebaseSet_answered c p m
  | timebaseSync m => exact takeTimebaseSync_answered m
  | valveClear => exact takeValveClear_answered
  | valveRead p => exact .ok (.refl _) _
  | attnRead => exact .inr ⟨_, rfl, rfl⟩
  | attnMask k => exact takeAttnMask_answered k
  | partReset tag => exact absurd rfl (hr tag)
  | _ => cases h

/-- Every command of the Venue Link but PART_RESET answers. -/
theorem takeCommand_answer {i : Instr} {x : Byte × List Byte} (h : encodeCommand i = some x) (hr : ∀ tag, i ≠ .partReset tag) :
    ∃ a, (takeCommand i s).answer = some a ∧ (takeCommand i s).pending = s.pending := by
  by_cases ha : ∃ ls, i = .cleanAbort ls
  · obtain ⟨ls, rfl⟩ := ha
    exact takeCleanAbort_answer ls
  · have answered := takeCommand_answered (s := s) h (fun ls hi => ha ⟨ls, hi⟩) hr
    obtain ⟨a, h⟩ := answered.answer
    exact ⟨a, h, answered.pending⟩

theorem takeCommand_pending {i : Instr} {x : Byte × List Byte} (h : encodeCommand i = some x) :
    (takeCommand i s).pending = s.pending := by
  by_cases hr : ∃ tag, i = .partReset tag
  · obtain ⟨tag, rfl⟩ := hr
    rfl
  · obtain ⟨a, -, hp⟩ := takeCommand_answer (s := s) h (fun tag hi => hr ⟨tag, hi⟩)
    exact hp

end

/-- Settles O12: a command of the Venue Link answers OK or leaves the state but for its answer. -/
theorem refusedCommandsChangeNothing : Obligations.RefusedCommandsChangeNothing := by
  intro i code payload s t a hheld hi hca ht ha hs
  rw [exec_of_encode hi, State.running_of_released hheld] at ht
  cases ht
  by_cases hr : ∃ tag, i = .partReset tag
  · obtain ⟨tag, rfl⟩ := hr
    cases ha
  · exact (takeCommand_answered hi hca fun tag hi => hr ⟨tag, hi⟩).refused ha hs

end Sys2Proof.Machine
end

section
/-! PROOF. The Venue Link: the judgement of a frame, the command it carries out, and what no command touches (Chapter 10). -/

namespace Sys2Proof.Machine

open Sys2Proof.Laws

section
variable {s : State}

/-! ### The queue of commands -/

/-- A row without a command code is never handed over. -/
theorem takeCommand_of_none {i : Instr} (h : encodeCommand i = none) : takeCommand i s = s := by
  cases i <;> simp only [encodeCommand, reduceCtorEq] at h <;> rfl

theorem takeCommand_pending_any (i : Instr) : (takeCommand i s).pending = s.pending := by
  cases h : encodeCommand i with
  | none => rw [takeCommand_of_none h]
  | some x => exact takeCommand_pending h

theorem State.post_pending (tag code : Byte) : (s.post tag code).pending = s.pending := by
  unfold State.post
  split <;> rfl

theorem State.acceptFrame_pending (b : Bool) (code tag : Byte) (p : List Byte) : (s.acceptFrame b code tag p).pending = s.pending := by
  unfold State.acceptFrame
  dsimp only
  split
  · split
    · exact State.post_pending _ _
    · split
      · exact takeCommand_pending_any _
      · exact (State.post_pending _ _).trans (takeCommand_pending_any _)
  · exact State.post_pending _ _

theorem takeCommandWrite_pending (b : Bool) (bytes : List Byte) : (takeCommandWrite b bytes s).pending = s.pending := by
  unfold takeCommandWrite
  dsimp only
  split
  · split
    · exact State.post_pending _ _
    · exact State.acceptFrame_pending _ _ _ _
  · rfl

theorem takeResponseRead_pending (n : Nat) : (takeResponseRead n s).pending = s.pending := by
  unfold takeResponseRead
  split
  · dsimp only
    split <;> rfl
  · rfl

theorem takeUnknownTransaction_pending (first : Byte) (n : Nat) : (takeUnknownTransaction first n s).pending = s.pending := by
  unfold takeUnknownTransaction
  split <;> rfl

theorem takePartResetComplete_pending : (takePartResetComplete s).pending = s.pending := by
  unfold takePartResetComplete
  split
  · exact State.post_pending _ _
  · rfl

theorem takeFrameSync_silent (i : LoopId) : Silent s (takeFrameSync i s) := by
  unfold takeFrameSync
  split
  · exact State.setLoop_silent _ _
  · exact .refl _

theorem takeFaucetLost_silent (i : LoopId) (k : Slot) : Silent s (takeFaucetLost i k s) := by
  unfold takeFaucetLost
  split
  · exact (State.declareLost_silent _).trans State.follow_silent
  · exact .refl _

theorem takeWaitTimeout_silent (l : Line) : Silent s (takeWaitTimeout l s) := by
  unfold takeWaitTimeout
  split
  · exact State.waitTimeout_worked.silent.trans State.considerFormation_silent
  · exact .refl _

theorem takeCycleStart_silent : Silent s (takeCycleStart s) := by
  unfold takeCycleStart
  split
  · exact State.fixDuties_silent
  · exact .refl _

theorem takeStageSwitch_silent (second : Bool) : Silent s (takeStageSwitch second s) := by
  unfold takeStageSwitch
  split <;> exact ⟨rfl, rfl⟩

theorem takeGroupRelease_silent : Silent s (takeGroupRelease s) := by
  unfold takeGroupRelease
  split
  · split
    · exact (State.releaseGroup_sequenced _).silent.trans State.considerFormation_silent
    · exact .refl _
  · exact .refl _

theorem takeSlotEnd_silent (i : LoopId) (k : Slot) (w : SlotWord) : Silent s (takeSlotEnd i k w s) :=
  (State.slotEnd_silent _ _).trans State.follow_silent
theorem takePourOvertime_silent (l : Line) : Silent s (takePourOvertime l s) := State.overtime_worked.silent.trans State.follow_silent
theorem takeLowFlowBlockEnd_silent (l : Line) : Silent s (takeLowFlowBlockEnd l s) :=
  State.judgeBlock_worked.silent.trans State.follow_silent
theorem takeTailQuietSettle_silent (l : Line) : Silent s (takeTailQuietSettle l s) :=
  State.quietSettle_worked.silent.trans State.follow_silent
theorem takeTailWindow_silent (l : Line) : Silent s (takeTailWindow l s) := State.tailWindow_worked.silent.trans State.follow_silent
theorem takeCouplerCopyRead_silent (st : Byte) (b : BitVec 128) : Silent s (takeCouplerCopyRead st b s) :=
  (State.copyRead_silent _ _).trans State.follow_silent
theorem takeConversionComplete_silent (n : Nat) : Silent s (takeConversionComplete n s) :=
  (State.convert_silent _).trans State.follow_silent
theorem takeProbeFailed_silent (i : SenseInput) : Silent s (takeProbeFailed i s) :=
  (State.failProbe_silent _).trans State.follow_silent
theorem takeTimebasePeriodEvent_silent (c : Channel) : Silent s (takeTimebasePeriodEvent c s) :=
  (State.periodEvent_silent _).trans State.follow_silent
theorem takePumpFault_silent : Silent s (takePumpFault s) := State.pumpFailed_silent.trans State.follow_silent
theorem takePhaseTimeout_silent : Silent s (takePhaseTimeout s) := State.runTimeout_silent.trans State.follow_silent
theorem takeSoakEnd_silent : Silent s (takeSoakEnd s) := State.finishSoak_silent.trans State.follow_silent
theorem takeChainShiftEnd_silent (echo : Image) : Silent s (takeChainShiftEnd echo s) :=
  (State.endShift_silent _).trans State.follow_silent

theorem takeEvent_pending (i : Instr) : (takeEvent i s).pending = s.pending := by
  cases i with
  | commandWrite => exact takeCommandWrite_pending _ _
  | responseRead => exact takeResponseRead_pending _
  | statusRead => rfl
  | unknownTransaction => exact takeUnknownTransaction_pending _ _
  | partResetComplete => exact takePartResetComplete_pending
  | frameSync => exact (takeFrameSync_silent _).2
  | slotEnd => exact (takeSlotEnd_silent _ _ _).2
  | faucetLost => exact (takeFaucetLost_silent _ _).2
  | pourOvertime => exact (takePourOvertime_silent _).2
  | lowFlowBlockEnd => exact (takeLowFlowBlockEnd_silent _).2
  | waitTimeout => exact (takeWaitTimeout_silent _).2
  | promotion => exact (State.promote_silent _).2
  | tailQuietSettle => exact (takeTailQuietSettle_silent _).2
  | tailWindow => exact (takeTailWindow_silent _).2
  | couplerReadStart => exact State.startRead_silent.2
  | couplerCopyRead => exact (takeCouplerCopyRead_silent _ _).2
  | conversionComplete => exact (takeConversionComplete_silent _).2
  | probeFailed => exact (takeProbeFailed_silent _).2
  | timebasePeriodEvent => exact (takeTimebasePeriodEvent_silent _).2
  | timebaseMarginEvent => exact (State.marginEvent_silent _).2
  | cycleStart => exact takeCycleStart_silent.2
  | boostEnd => exact State.endBoost_silent.2
  | stageSwitch => exact (takeStageSwitch_silent _).2
  | pumpFault => exact takePumpFault_silent.2
  | phaseTimeout => exact takePhaseTimeout_silent.2
  | soakEnd => exact takeSoakEnd_silent.2
  | groupFormation => exact State.considerFormation_silent.2
  | groupRelease => exact takeGroupRelease_silent.2
  | chainShiftStart => exact State.startShift_silent.2
  | chainShiftEnd => exact (takeChainShiftEnd_silent _).2
  | _ => rfl

theorem State.releaseReset_pending : s.releaseReset.pending = s.pending := by
  unfold State.releaseReset
  split <;> rfl

theorem running_pending {f : State → State} (h : (f s).pending = s.pending) : ∃ t, s.running f = .next t ∧ t.pending = s.pending := by
  refine ⟨_, rfl, ?_⟩
  split
  · rfl
  · exact h

end

/-- Settles O2: a command of the link, an event, or one of the two of RESET_N. -/
theorem everyCommandAnswersANextState : Obligations.EveryCommandAnswersANextState := by
  intro i s
  cases hi : encodeCommand i with
  | some x =>
    rw [exec_of_encode hi]
    exact ⟨running_pending (takeCommand_pending hi), fun held _ _ => State.running_of_held held⟩
  | none =>
    by_cases hp : i = .pinReset
    · subst hp
      exact ⟨⟨s.pinReset, rfl, rfl⟩, fun _ h => absurd rfl h⟩
    by_cases hr : i = .resetNRelease
    · subst hr
      exact ⟨⟨s.releaseReset, rfl, State.releaseReset_pending⟩, fun _ _ h => absurd rfl h⟩
    rw [exec_of_event hi hp hr]
    exact ⟨running_pending (takeEvent_pending i), fun held _ _ => State.running_of_held held⟩

/-! ### Frames -/

/-- The bytes of a closed frame spell its header and payload, whatever its CRC is. -/
theorem judgeFrame_closeFrame {code tag : Byte} {p : List Byte} (h : p.length ≤ 56) :
    judgeFrame (closeFrame ([code, tag] ++ byte p.length ++ p)) = .good code tag p := by
  have hlen : (BitVec.ofNat 8 p.length).toNat = p.length := by simp; omega
  simp [judgeFrame, closeFrame, byte, Config.maxPayload, hlen, h]

/-- A frame with fewer than three bytes, a length out of range or not its own, or another CRC is bad. -/
theorem judgeFrame_bad {bytes : List Byte} (h : bytes.length < 3 ∨ 56 < (bytes.getD 2 0#8).toNat ∨
    bytes.length ≠ 5 + (bytes.getD 2 0#8).toNat ∨
    bytes.drop (bytes.length - 2) ≠ bytesBE 2 (crc (bytes.take (bytes.length - 2))).toNat) : judgeFrame bytes = .bad := by
  unfold judgeFrame
  split
  · next code tag len rest =>
    split
    · rfl
    · next hlen =>
      simp only [Config.maxPayload, not_or, not_lt, not_not] at hlen
      obtain ⟨hmax, hrest⟩ := hlen
      split
      · next hclose =>
        have split : code :: tag :: len :: rest = (code :: tag :: len :: rest).take (3 + len.toNat) ++
            bytesBE 2 (crc ((code :: tag :: len :: rest).take (3 + len.toNat))).toNat := by
          rw [Nat.add_comm]; exact hclose
        have hl : (code :: tag :: len :: rest).length - 2 = 3 + len.toNat := by simp; omega
        rw [hl] at h
        have hd : (code :: tag :: len :: rest).drop (3 + len.toNat) =
            bytesBE 2 (crc ((code :: tag :: len :: rest).take (3 + len.toNat))).toNat :=
          List.append_cancel_left ((List.take_append_drop _ _).trans split)
        simp [hrest, hd] at h
        omega
      · rfl
  · rfl

section
variable {s : State} {service : Bool} {bytes : List Byte} (idle : s.link.state = .idle)
include idle

/-- A bad frame on an IDLE link. -/
theorem takeCommandWrite_bad (h : judgeFrame bytes = .bad) :
    takeCommandWrite service bytes s = (s.sendMiso [] bytes.length).frameError bytes := by
  have idle' : (s.sendMiso [] bytes.length).link.state = .idle := idle
  simp only [takeCommandWrite, idle', h]

/-- A good frame on an IDLE link. -/
theorem takeCommandWrite_good {code tag : Byte} {p : List Byte} (h : judgeFrame bytes = .good code tag p) :
    takeCommandWrite service bytes s = (s.sendMiso [] bytes.length).acceptFrame service code tag p := by
  have idle' : (s.sendMiso [] bytes.length).link.state = .idle := idle
  simp only [takeCommandWrite, idle', h]

end

/-- Every code with a length is a command. -/
theorem readCommand_of_length {code : Byte} {n : Nat} (service : Bool) (tag : Byte) (p : List Byte) (h : requestLength code = some n) :
    ∃ i, readCommand service tag code p = some i := by
  unfold requestLength at h
  unfold readCommand
  generalize code.toNat = c at h ⊢
  split at h
  all_goals first | exact ⟨_, rfl⟩ | cases h

/-- Settles O9: a collision by the link state, a bad frame by its judgement, and the other two by the code's length. -/
theorem discardedFramesReachNoBlock : Obligations.DiscardedFramesReachNoBlock := by
  intro s service bytes released
  have run : exec (.commandWrite service bytes) s = .next (takeCommandWrite service bytes s) := State.running_of_released released
  have zeros : s.sendMiso [] bytes.length = { s with link := { s.link with miso := List.replicate bytes.length 0#8 } } := by
    simp [State.sendMiso, State.setLink]
  rw [run]
  refine ⟨fun busy => ?_, fun idle bad => ?_, fun idle code tag payload status hlen hbytes hcase => ?_⟩
  · have h1 : (s.sendMiso [] bytes.length).link.state ≠ .idle := busy
    unfold takeCommandWrite
    dsimp only
    split
    · next h => exact absurd h h1
    · rw [zeros]; rfl
  · rw [takeCommandWrite_bad idle (judgeFrame_bad bad), zeros]
    rfl
  · have good : judgeFrame bytes = .good code tag payload := hbytes ▸ judgeFrame_closeFrame hlen
    rw [takeCommandWrite_good idle good, zeros]
    unfold State.acceptFrame
    obtain ⟨hnone, rfl⟩ | ⟨⟨n, hn, hne⟩, rfl⟩ := hcase
    · simp only [hnone]; rfl
    · obtain ⟨i, hi⟩ := readCommand_of_length service tag payload hn
      simp only [hn, hi, if_pos hne]; rfl

end Sys2Proof.Machine
end

section
/-! PROOF. A good frame on an IDLE link, and what the transactions beside it send (Chapter 10). -/

namespace Sys2Proof.Machine

open Sys2Proof.Laws

/-! ### A good frame -/

/-- No row's payload is longer than a frame can carry. -/
theorem requestLength_le {code : Byte} {n : Nat} (h : requestLength code = some n) : n ≤ 56 := by
  unfold requestLength at h
  split at h
  all_goals cases h
  all_goals decide

/-- Only PART_RESET reads the tag of its frame. -/
theorem readCommand_tag {service : Bool} {code : Byte} (h : code ≠ 0xFF#8) (tag tag' : Byte) (p : List Byte) :
    readCommand service tag code p = readCommand service tag' code p := by
  have hne : code.toNat ≠ 0xFF := fun hc => h (BitVec.eq_of_toNat_eq hc)
  unfold readCommand
  generalize code.toNat = c at hne
  split
  all_goals first | rfl | exact absurd rfl hne

theorem State.post_answer {s : State} {a : Answer} (h : s.answer = some a) (tag code : Byte) :
    s.post tag code = s.setLinkState (.respReady (responseFrame a.status tag code a.payload)) := by
  simp only [State.post, h]

/-- An accepted frame with the command and the length of its code. -/
theorem State.acceptFrame_command {s : State} {service : Bool} {code tag : Byte} {p : List Byte} {i : Instr}
    (hn : requestLength code = some p.length) (hi : readCommand service tag code p = some i) :
    s.acceptFrame service code tag p =
      if code = 0xFF#8 then takeCommand i (s.setLinkState (.executing tag code))
      else (takeCommand i (s.setLinkState (.executing tag code))).post tag code := by
  simp only [State.acceptFrame, hn, hi, ne_eq, not_true_eq_false, if_false, Config.partResetCode]
  rfl

/-- PART_RESET is the command of code 0xFF alone. -/
theorem partReset_code {code tag : Byte} {p : List Byte} (h : encodeCommand (.partReset tag) = some (code, p)) : code = 0xFF#8 := by
  cases h; rfl

/-- Settles O8: the frame reads back as its command, which answers; a PART_RESET is left EXECUTING. -/
theorem commandFrameCarriesOutItsCommand : Obligations.CommandFrameCarriesOutItsCommand := by
  intro s tag released idle
  have zeros : ∀ n, s.sendMiso [] n = { s with link := { s.link with miso := List.replicate n 0#8 } } := by
    simp [State.sendMiso, State.setLink]
  have run : ∀ (u : State) (i : Instr) (x : Byte × List Byte), u.resetHeld = false → encodeCommand i = some x →
      exec i u = .next (takeCommand i u) := fun u i x hu hi => (exec_of_encode hi u).trans (State.running_of_released hu)
  refine ⟨fun i code payload frame hwf hi hcode hframe => ?_, fun service => ?_⟩
  · have hn := requestLength_of_encode hi
    have hread : readCommand i.service tag code payload = some i :=
      (readCommand_tag hcode _ _ _).trans (readCommand_of_encode hwf hi)
    have good : judgeFrame frame = .good code tag payload := hframe ▸ judgeFrame_closeFrame (requestLength_le hn)
    generalize hu : ({ s with link := { s.link with
      state := .executing tag code, miso := List.replicate frame.length 0#8 } } : State) = u
    have hreset : ∀ t, i ≠ .partReset t := fun t ht => hcode (partReset_code (ht ▸ hi))
    obtain ⟨a, ha, -⟩ := takeCommand_answer (s := u) hi hreset
    refine ⟨_, a, run u i _ (hu ▸ released) hi, ha, ?_⟩
    have hwrite : exec (.commandWrite i.service frame) s = .next (takeCommandWrite i.service frame s) :=
      State.running_of_released released
    have hs : (s.sendMiso [] frame.length).setLinkState (.executing tag code) = u := by rw [zeros, ← hu]; rfl
    rw [hwrite, takeCommandWrite_good idle good, State.acceptFrame_command hn hread, if_neg hcode, hs, State.post_answer ha]
    rfl
  · have good : judgeFrame (closeFrame [0xFF#8, tag, 0#8]) = .good 0xFF#8 tag [] :=
      judgeFrame_closeFrame (code := 0xFF#8) (tag := tag) (p := []) (by simp)
    have hwrite : exec (.commandWrite service (closeFrame [0xFF#8, tag, 0#8])) s =
        .next (takeCommandWrite service (closeFrame [0xFF#8, tag, 0#8]) s) := State.running_of_released released
    have hlen : (closeFrame [0xFF#8, tag, 0#8]).length = 5 := by simp [closeFrame]
    rw [hwrite, takeCommandWrite_good idle good, State.acceptFrame_command (i := .partReset tag) rfl rfl, if_pos rfl, hlen, zeros]
    exact (run _ (.partReset tag) (0xFF#8, []) (by exact released) rfl).symm

/-! ### The other transactions -/

/-- The bits of the link status byte (R178). -/
theorem Link.statusByte_bits (x : Link) :
    (x.statusByte.getLsbD 0 = true ↔ ∃ frame, x.state = .respReady frame) ∧
    (x.statusByte.getLsbD 1 = true ↔ ∃ tag code, x.state = .executing tag code) ∧
    x.statusByte.getLsbD 2 = x.collision ∧ x.statusByte.getLsbD 3 = x.frameBad ∧ x.statusByte.getLsbD 4 = x.attnPending := by
  unfold Link.statusByte
  generalize x.attnPending = pending
  cases x.state <;> cases x.collision <;> cases x.frameBad <;> cases pending <;> simp [member]

/-- The command of a transaction is that of its first byte, whatever part of a byte follows the last one (R174). -/
theorem readTransaction_bytes (service : Bool) (first : Byte) (rest : List Byte) {tail : List Bool} (h : tail.length < 8) :
    readTransaction service ((first :: rest).flatMap byteBits ++ tail) = some (
      if first = 0x01#8 then .commandWrite service rest
      else if first = 0x02#8 then .responseRead rest.length
      else if first = 0x03#8 then .statusRead rest.length
      else .unknownTransaction first rest.length) := by
  simp only [readTransaction, mosiBytes_bytes _ h, Config.commandWriteByte, Config.responseReadByte, Config.statusReadByte]
  by_cases h1 : first = 0x01#8
  · simp [h1]
  by_cases h2 : first = 0x02#8
  · simp [h2]
  by_cases h3 : first = 0x03#8
  · simp [h3]
  simp [h1, h2, h3]

theorem takeResponseRead_ready {s : State} {frame : List Byte} (h : s.link.state = .respReady frame) (n : Nat) :
    takeResponseRead n s = { s with link := { s.link with
      miso := (frame ++ List.replicate n 0#8).take n
      state := if frame.length ≤ n then .idle else .respReady frame } } := by
  obtain ⟨⟩ := s
  simp only [takeResponseRead] at h ⊢
  simp only [h]
  split <;> simp_all [State.sendMiso, State.setLink, State.setLinkState]

/-- Settles O10: the two reads by the link state, the flags, and the bits of MOSI. -/
theorem responseAndStatusReadsSendAndClear : Obligations.ResponseAndStatusReadsSendAndClear := by
  intro s n released
  have run : ∀ f : State → State, s.running f = .next (f s) := fun f => State.running_of_released released
  obtain ⟨ready, executing, collision, bad, pending⟩ := s.link.statusByte_bits
  refine ⟨fun frame h => (run _).trans ?_, fun h => (run _).trans ?_, (run _).trans rfl, fun first h1 h2 h3 => (run _).trans ?_,
    ready, executing, collision, bad, pending, fun service first rest tail htail => ⟨?_, ?_⟩⟩
  · rw [takeResponseRead_ready h]
  · unfold takeResponseRead
    split
    · next frame hf => exact absurd hf (h frame)
    · rfl
  · have known : Config.transactions.contains first = false := by
      simp [Config.transactions, Config.commandWriteByte, Config.responseReadByte, Config.statusReadByte, h1, h2, h3]
    simp only [takeUnknownTransaction, known, Bool.false_eq_true, if_false]
    simp [State.sendMiso, State.setLink]
  · simp [readTransaction, mosiBytes_of_short htail]
  · exact readTransaction_bytes service first rest htail

end Sys2Proof.Machine
end

section
/-! PROOF. The operands of a command that name a record, and the reads of the records (R17, R66, R89, R90, R104, R118, R138, R160,
R172). -/

namespace Sys2Proof.Machine

open Sys2Proof.Laws

/-! ### Operands that name a record -/

@[simp] theorem readLine_val (l : Line) : readLine l.val = some l := by simp [readLine]

@[simp] theorem readTrunk_val (t : Trunk) : readTrunk t.val = some t := by simp [readTrunk]

@[simp] theorem readSet_val (n : Fin 4) : readSet n.val = some n := by simp [readSet]

@[simp] theorem readPosition_code (p : Position) : readPosition (positionCode p) = some p := by cases p <;> rfl

@[simp] theorem readLoop_code (i : LoopId) : readLoop (loopCode i) = some i := by cases i <;> rfl

@[simp] theorem readBinding_val (b : Binding) : readBinding (loopCode b.loop) b.slot.val = some b := by simp [readBinding]

@[simp] theorem readPlace_val (l : Line) (p : Position) : readPlace l.val (positionCode p) = some (l, p) := by simp [readPlace]

theorem within_iff {lo hi n : Nat} : within lo hi n = true ↔ lo ≤ n ∧ n ≤ hi := by simp [within]

/-- A command of the Venue Link on the part that runs. -/
theorem exec_released {s : State} {i : Instr} {x : Byte × List Byte} (released : s.resetHeld = false)
    (h : encodeCommand i = some x) : exec i s = .next (takeCommand i s) :=
  (exec_of_encode h s).trans (State.running_of_released released)

/-! ### Finding a keg and an account -/

/-- The search for a tag finds a record with it. -/
theorem State.findTag_spec {s : State} {tag : Tag} {x : Line × Position × KegRec} (h : s.findTag tag = some x) :
    s.keg x.1 x.2.1 = some x.2.2 ∧ x.2.2.tag = tag := by
  unfold State.findTag at h
  obtain ⟨l, -, hl⟩ := List.exists_of_findSome?_eq_some h
  obtain ⟨p, -, hp⟩ := List.exists_of_findSome?_eq_some hl
  cases hk : s.keg l p with
  | none => simp [hk] at hp
  | some k =>
    simp only [hk, Option.ite_none_right_eq_some, Option.some.injEq] at hp
    obtain ⟨ht, rfl⟩ := hp
    exact ⟨hk, ht⟩

/-- A tag that one record alone has finds that record. -/
theorem State.findTag_of_unique {s : State} {l : Line} {p : Position} {k : KegRec} (hk : s.keg l p = some k)
    (hu : ∀ m q k', s.keg m q = some k' → k'.tag = k.tag → m = l ∧ q = p) : s.findTag k.tag = some (l, p, k) := by
  cases h : s.findTag k.tag with
  | none => exact absurd rfl (State.findTag_eq_none h l p k hk)
  | some x =>
    obtain ⟨m, q, k'⟩ := x
    obtain ⟨hk', ht⟩ := State.findTag_spec h
    obtain ⟨rfl, rfl⟩ := hu m q k' hk' ht
    cases hk.symm.trans hk'
    rfl

theorem State.findTag_none_of {s : State} {tag : Tag} (h : ∀ m q k, s.keg m q = some k → k.tag ≠ tag) : s.findTag tag = none := by
  cases hf : s.findTag tag with
  | none => rfl
  | some x =>
    obtain ⟨hk, ht⟩ := State.findTag_spec hf
    exact absurd ht (h _ _ _ hk)

theorem idInRange_iff {id : Nat} : idInRange id = true ↔ 1 ≤ id ∧ id ≤ 65535 := within_iff

/-! ### The reads -/

section
variable {s : State} {page : Nat}

theorem takeAccountRead_id {id : Nat} (h : 1 ≤ id ∧ id ≤ 65535) : takeAccountRead 0 id page s =
    match s.findAccount id with
    | none => s.refuse .notFound
    | some (i, a) => s.ok (s.accountPage i a page) := by
  simp [takeAccountRead, idInRange_iff.mpr h] <;> rfl

theorem takeAccountRead_index (i : AccountIx) : takeAccountRead 1 i.val page s =
    match s.account i with
    | none => s.refuse .notFound
    | some a => s.ok (s.accountPage i a page) := by
  simp [takeAccountRead] <;> rfl

end

/-- Settles O13: each read finds its record by its operand and answers from it. -/
theorem readCommandsChangeNothing : Obligations.ReadCommandsChangeNothing := by
  intro s page released
  have run {i : Instr} {x : Byte × List Byte} (h : encodeCommand i = some x) : exec i s = .next (takeCommand i s) :=
    exec_released released h
  refine ⟨fun l => ⟨(run rfl).trans ?_, (run rfl).trans ?_, fun p => (run rfl).trans ?_, fun p k hk hu => (run rfl).trans ?_⟩,
    fun tag h => (run rfl).trans ?_, fun i => (run rfl).trans ?_, fun id h => (run rfl).trans ?_,
    fun i a ha h1 h2 hu => (run rfl).trans ?_, fun id h1 h2 hu => (run rfl).trans ?_, fun n hn => (run rfl).trans ?_,
    fun i a ha => (run rfl).trans ?_, fun i hi => (run rfl).trans ?_, run rfl, run rfl, run rfl⟩
  · simp only [takeCommand, takeLineRead, readLine_val]; rfl
  · simp only [takeCommand, takePourRead, readLine_val]; rfl
  · simp only [takeCommand, takeKegRead, readPlace_val]; rfl
  · simp only [takeCommand, takeKegFind, State.findTag_of_unique hk hu]; rfl
  · simp only [takeCommand, takeKegFind, State.findTag_none_of h]; rfl
  · simp only [takeCommand, takeLoopRead, readLoop_code]; rfl
  · have out : idInRange id = false := by simp [idInRange, within]; omega
    simp only [takeCommand, takeAccountRead, out, if_true]; rfl
  · simp only [takeCommand, takeAccountRead_id ⟨h1, h2⟩, State.findAccount_of_unique ha rfl hu]; rfl
  · simp only [takeCommand, takeAccountRead_id ⟨h1, h2⟩, State.findAccount_eq_none.mpr hu]; rfl
  · have out : ¬n < 48 := by omega
    simp only [takeCommand, takeAccountRead, out, dite_false]; rfl
  · simp only [takeCommand, takeAccountRead_index, ha]; rfl
  · simp only [takeCommand, takeAccountRead_index, hi]; rfl

end Sys2Proof.Machine
end

section
/-! PROOF. The requests that lines and kegs make of the valves (R14, R70, R165), as their two members stand afterwards. -/

namespace Sys2Proof.Machine

/-! ### Pairs -/

theorem partner_lineBit (l : Line) :
    partner (lineGroup l) (lineBit l) = some (lineBit' l) ∧ partner (lineGroup l) (lineBit' l) = some (lineBit l) := by
  revert l; decide

theorem partner_selectorBit (l : Line) :
    partner (selectorGroup l) (lineBit l) = some (lineBit' l) ∧ partner (selectorGroup l) (lineBit' l) = some (lineBit l) := by
  revert l; decide

theorem lineBit_ne (l : Line) : lineBit' l ≠ lineBit l := by revert l; decide

theorem selectorGroup_ne (l m : Line) : selectorGroup l ≠ lineGroup m := by
  intro h
  have := congrArg Fin.val h
  simp only [selectorGroup, lineGroup] at this
  omega

section
variable {s t u : State} {l : Line}

/-- Requests read the valves alone. -/
theorem AskedPair.congr {s' t' : State} {g : ValveGroup} {b c : Fin 8} {vb vc : Bool} (h : AskedPair s t g b c vb vc)
    (hs : s'.valve g = s.valve g) (ht : t'.valve g = t.valve g) : AskedPair s' t' g b c vb vc := by
  unfold AskedPair at h ⊢
  rw [hs, ht]
  exact h

/-- The same request with its members in the other order. -/
theorem AskedPair.swap {g : ValveGroup} {b c : Fin 8} {vb vc : Bool} (h : AskedPair s t g b c vb vc) : AskedPair s t g c b vc vb := by
  obtain ⟨hv, hb, hc, hd⟩ := h
  exact ⟨hv, hc, hb, fun d h1 h2 => hd d h2 h1⟩

/-- A bit of the asked group's next pattern. -/
theorem State.getLsbD_ask (g : ValveGroup) (b d : Fin 8) (on : Bool) : ((s.ask g b on).valve g).next.getLsbD d.val =
    if on = true ∧ partner g b = some d then false else if d = b then on else (s.valve g).next.getLsbD d.val := by
  rw [State.ask_valve, if_pos rfl, getLsbD_askBit]

/-- A member asked on clears its partner. -/
theorem State.ask_on {g : ValveGroup} {b c : Fin 8} (hp : partner g b = some c) : AskedPair s (s.ask g b true) g b c true false := by
  have hne := (partner_symm hp).2
  refine ⟨by rw [State.ask_valve, if_pos rfl], ?_, ?_, fun d hb hc => ?_⟩
  · rw [State.getLsbD_ask, hp, if_neg (by simp [hne]), if_pos rfl]
  · rw [State.getLsbD_ask, hp, if_pos ⟨rfl, rfl⟩]
  · rw [State.getLsbD_ask, hp, if_neg (by simp [hc.symm]), if_neg hb]

/-- A member asked off leaves its partner. -/
theorem State.ask_off {g : ValveGroup} {b c : Fin 8} (hne : c ≠ b) :
    AskedPair s (s.ask g b false) g b c false ((s.valve g).next.getLsbD c.val) := by
  refine ⟨by rw [State.ask_valve, if_pos rfl], ?_, ?_, fun d hb hc => ?_⟩
  · rw [State.getLsbD_ask, if_neg (by simp), if_pos rfl]
  · rw [State.getLsbD_ask, if_neg (by simp), if_neg hne]
  · rw [State.getLsbD_ask, if_neg (by simp), if_neg hb]

/-- A request that follows another on the same pair. -/
theorem AskedPair.trans {g : ValveGroup} {b c : Fin 8} {vb vc wb wc : Bool} (h : AskedPair s t g b c vb vc)
    (k : AskedPair t u g b c wb wc) : AskedPair s u g b c wb wc := by
  obtain ⟨hv, -, -, hd⟩ := h
  obtain ⟨kv, kb, kc, kd⟩ := k
  exact ⟨by rw [kv, hv], kb, kc, fun d hb hc => (kd d hb hc).trans (hd d hb hc)⟩

/-- The member that is asked after its partner was asked off. -/
theorem State.ask_pair {g : ValveGroup} {b c : Fin 8} (hp : partner g b = some c) (on : Bool) :
    AskedPair s ((s.ask g c false).ask g b on) g b c on false := by
  have hne := (partner_symm hp).2
  have first := (State.ask_off (s := s) (g := g) hne.symm).swap
  cases on
  · have second := State.ask_off (s := s.ask g c false) (g := g) hne
    rw [first.2.2.1] at second
    exact first.trans second
  · exact first.trans (State.ask_on hp)

/-! ### The valves of a line -/

theorem State.ask_valve_ne {g h : ValveGroup} (b : Fin 8) (on : Bool) (hne : h ≠ g) : (s.ask g b on).valve h = s.valve h := by
  rw [State.ask_valve, if_neg hne]

/-- What a line's mode asks of its two valves (R14). -/
theorem State.askValves_asked (s : State) (l : Line) :
    AskedLine s (s.askValves l) l (if (s.line l).mode = .cleaning then false else (s.line l).productOpen)
      ((s.line l).mode == .cleaning) := by
  obtain ⟨hp, hc⟩ := partner_lineBit l
  unfold State.askValves
  by_cases h : (s.line l).mode = .cleaning
  · rw [if_pos h, if_pos h, h]
    exact (State.ask_pair hc true).swap
  · rw [if_neg h, if_neg h, beq_eq_false_iff_ne.mpr h]
    exact State.ask_pair hp _

theorem State.askValves_valve_ne {g : ValveGroup} (h : g ≠ lineGroup l) : (s.askValves l).valve g = s.valve g := by
  unfold State.askValves State.askProduct State.askCleaning
  split <;> rw [State.ask_valve_ne _ _ h, State.ask_valve_ne _ _ h]

/-- What a changed line record asks of its valves. -/
theorem State.changeLine_asked (s : State) (l : Line) (r : LineRec) :
    AskedLine s (s.changeLine l r) l (if r.mode = .cleaning then false else r.productOpen) (r.mode == .cleaning) := by
  have h := State.askValves_asked (s.setLine l r) l
  rw [State.line_setLine_same] at h
  exact AskedPair.congr h rfl rfl

theorem State.changeLine_valve_ne {g : ValveGroup} (r : LineRec) (h : g ≠ lineGroup l) : (s.changeLine l r).valve g = s.valve g :=
  State.askValves_valve_ne h

theorem State.changeLine_line (r : LineRec) (m : Line) : (s.changeLine l r).line m = if m = l then r else s.line m := by
  rw [State.changeLine_frame]
  exact look_put ..

/-! ### The selectors of a line -/

/-- A selector asked on (R70). -/
theorem State.askSelector_on (s : State) (l : Line) (p : Position) :
    AskedSelectors s (s.askSelector l p true) l (p == .A) (p == .B) := by
  obtain ⟨ha, hb⟩ := partner_selectorBit l
  cases p
  · exact State.ask_on ha
  · exact (State.ask_on hb).swap

/-- A selector asked off (R70). -/
theorem State.askSelector_off (s : State) (l : Line) (p : Position) :
    AskedSelectors s (s.askSelector l p false) l (p == .B && (s.valve (selectorGroup l)).next.getLsbD (lineBit l).val)
      (p == .A && (s.valve (selectorGroup l)).next.getLsbD (lineBit' l).val) := by
  cases p
  · exact State.ask_off (lineBit_ne l)
  · exact (State.ask_off (lineBit_ne l).symm).swap

theorem State.askSelector_valve_ne {g : ValveGroup} (p : Position) (on : Bool) (h : g ≠ selectorGroup l) :
    (s.askSelector l p on).valve g = s.valve g := State.ask_valve_ne _ _ h

end

end Sys2Proof.Machine
end

section
/-! PROOF. The line commands and the settings (Chapter 1, section 3.12). -/

namespace Sys2Proof.Machine

open Sys2Proof.Laws

/-! ### What the configuration of a line writes -/

/-- A state with line records, bindings, receive states, stored K values and valve groups taken from another. -/
def State.rewired (s t : State) : State :=
  { s with
    lineTable := { s.lineTable with
      lines := t.lineTable.lines, mapA := t.lineTable.mapA, mapB := t.lineTable.mapB, storedK := t.lineTable.storedK }
    tapLoops := { a := { s.tapLoops.a with recv := t.tapLoops.a.recv }, b := { s.tapLoops.b with recv := t.tapLoops.b.recv } }
    valves := { s.valves with groups := t.valves.groups } }

/-- Nothing changes but what the configuration of a line writes. -/
def Rewired (s t : State) : Prop := t = s.rewired t

theorem Rewired.refl (s : State) : Rewired s s := rfl

theorem Rewired.trans {s t u : State} (h : Rewired s t) (k : Rewired t u) : Rewired s u := by
  have e : t.rewired u = (s.rewired t).rewired u := congrArg (State.rewired · u) h
  exact Eq.trans k e

section
variable {s : State} {l : Line}

theorem State.setLine_rewired (r : LineRec) : Rewired s (s.setLine l r) := rfl
theorem State.storeK_rewired (k : Nat) : Rewired s (s.storeK l k) := rfl

theorem State.changeLine_rewired (r : LineRec) : Rewired s (s.changeLine l r) := by rw [State.changeLine_frame]; rfl

theorem State.bind_rewired (b : Binding) : Rewired s (s.bind b l) := by
  obtain ⟨_ | _, k⟩ := b <;> rfl

theorem State.unbind_rewired (b : Binding) : Rewired s (s.unbind b) := by
  obtain ⟨_ | _, k⟩ := b <;> rfl

theorem State.rebind_rewired (old new : Binding) : Rewired s (s.rebind l old new) := by
  unfold State.rebind
  split
  · exact .refl s
  · exact (State.unbind_rewired _).trans (State.bind_rewired _)

theorem State.unbindLine_rewired : Rewired s (s.unbindLine l) := by
  unfold State.unbindLine
  split
  · exact State.unbind_rewired _
  · exact .refl s

end

theorem State.line_of_lines {s t : State} (h : t.lineTable.lines = s.lineTable.lines) (l : Line) : t.line l = s.line l := by
  rw [State.line, h]; rfl

section
variable {s : State} {l : Line}

theorem State.changeLine_lines (r : LineRec) : (s.changeLine l r).lineTable = { s.lineTable with lines := put s.lineTable.lines l r } := by
  rw [State.changeLine_frame]; rfl

theorem State.changeLine_tapLoops (r : LineRec) : (s.changeLine l r).tapLoops = s.tapLoops := by rw [State.changeLine_frame]; rfl

theorem State.changeLine_kegRegister (r : LineRec) : (s.changeLine l r).kegRegister = s.kegRegister := by
  rw [State.changeLine_frame]; rfl

theorem State.changeLine_bound (r : LineRec) (b : Binding) : (s.changeLine l r).bound b = s.bound b := by
  rw [State.changeLine_frame]; rfl

theorem State.changeLine_recv (r : LineRec) (b : Binding) : (s.changeLine l r).recv b = s.recv b := by
  rw [State.changeLine_frame]; rfl

end

/-- A mode that a line is held from asks its product valve open, WATER apart (R14). -/
theorem Mode.holdable_productOpen {m : Mode} (h : m.holdable = true) : m.productOpen = (m != .water) ∧ m ≠ .cleaning ∧ m ≠ .held := by
  cases m <;> simp_all [Mode.holdable, Mode.productOpen]

theorem LineRec.productOpen_of_not_held {r : LineRec} (h : r.mode ≠ .held) : r.productOpen = r.mode.productOpen := by
  unfold LineRec.productOpen
  split
  · contradiction
  · rfl

/-- A changed line record in a mode but HELD and CLEANING asks its cleaning valve closed and its product valve by the mode. -/
theorem State.changeLine_asked_mode (s : State) (l : Line) {r : LineRec} (hh : r.mode ≠ .held) (hc : r.mode ≠ .cleaning) :
    AskedLine s (s.changeLine l r) l r.mode.productOpen false := by
  have h := State.changeLine_asked s l r
  rwa [if_neg hc, LineRec.productOpen_of_not_held hh, beq_eq_false_iff_ne.mpr hc] at h

/-! ### LINE_CONFIG -/

theorem configOf_eq {a : LineConfigArgs} {trunk : Trunk} {b : Binding} {set : Fin 4} (hcontent : a.content ≤ 1)
    (h1 : 1 ≤ a.product) (h2 : a.product ≤ 65535) (ht : a.trunk = trunk.val) (h3 : 100 ≤ a.fill) (h4 : a.fill ≤ 20000)
    (h5 : 20000 ≤ a.k) (h6 : a.k ≤ 400000) (h7 : a.tailSeed ≤ 40000000) (hl : a.loop = loopCode b.loop) (hs : a.slot = b.slot.val)
    (h8 : a.account ≤ 65535) (hp : a.portionSet = set.val)
    (h9 : a.primePercent = 0 ∨ 100 ≤ a.primePercent ∧ a.primePercent ≤ 200) :
    configOf a = some {
      product := a.product, trunk := trunk, fill := a.fill, k := a.k, tail := a.tailSeed, binding := b
      account := a.account, portionSet := set, primePercent := if a.primePercent = 0 then 125 else a.primePercent } := by
  have ranges : (within 0 1 a.content && within 1 65535 a.product && within 100 20000 a.fill && within 20000 400000 a.k &&
      within 0 40000000 a.tailSeed && (a.primePercent == 0 || within 100 200 a.primePercent) &&
      within 0 65535 a.account) = true := by
    simp [within, *]
  rw [configOf, if_pos ranges, ht, hl, hs, hp, readTrunk_val, readBinding_val, readSet_val]

/-- Settles O14: the checks pass, and the record is written with its binding and its stored K. -/
theorem lineConfigGivesTheWholeRecord : Obligations.LineConfigGivesTheWholeRecord := by
  intro s a l trunk b set mode released hline hoff hmode h1 h2 ht h3 h4 h5 h6 h7 hloop hslot h8 hset h9 hn hfree hlock
  have hc := configOf_eq (by omega) h1 h2 ht h3 h4 h5 h6 h7 hloop hslot h8 hset h9
  generalize hcfg : LineCfg.mk a.product trunk a.fill a.k a.tailSeed b a.account set
    (if a.primePercent = 0 then 125 else a.primePercent) = c at hc ⊢
  have hb : c.binding = b := hcfg ▸ rfl
  have hk : c.k = a.k := hcfg ▸ rfl
  have passes : s.configRefusal l c = none := by
    rw [State.configRefusal, firstFail_eq_none, hb, hk]
    cases hlk : s.lineTable.calLock
    · simp [hn, hfree]
    · have := hlock hlk
      simp only [List.mem_cons, List.not_mem_nil, or_false, forall_eq_or_imp, forall_eq]
      exact ⟨decide_eq_true hn, by simp [hfree], by simp [← this]; omega⟩
  have hm : (if a.content = 0 then Mode.water else Mode.dry) = mode := by
    obtain ⟨h, rfl⟩ | ⟨h, rfl⟩ := hmode <;> simp [h]
  have taken : takeLineConfig a s = (s.configure l c mode).ok (byte mode.code) := by
    simp only [takeLineConfig, hline, readLine_val, hoff, ne_eq, not_true_eq_false, if_false, hc, passes, hm]
  have plain : mode ≠ .held ∧ mode ≠ .cleaning ∧ mode.productOpen = (mode == .dry) := by
    obtain ⟨-, rfl⟩ | ⟨-, rfl⟩ := hmode <;> exact ⟨nofun, nofun, rfl⟩
  obtain ⟨hheld, hclean, hopen⟩ := plain
  refine ⟨_, (exec_released released rfl).trans (congrArg _ taken), ?_⟩
  have wired : Rewired s (s.configure l c mode) :=
    ((State.bind_rewired _).trans (State.storeK_rewired _)).trans (State.changeLine_rewired _)
  have bound (d : Binding) : (s.configure l c mode).bound d = if d = b then some l else s.bound d := by
    rw [State.configure, State.changeLine_bound, ← hb]; exact State.bound_bind ..
  have recv (d : Binding) : (s.configure l c mode).recv d = if d = b then some RecvState.fresh else s.recv d := by
    rw [State.configure, State.changeLine_recv, ← hb]; exact State.recv_bind ..
  have table : (s.configure l c mode).lineTable.lines = put s.lineTable.lines l { LineRec.reset with mode := mode, cfg := some c } ∧
      (s.configure l c mode).lineTable.storedK = put s.lineTable.storedK l a.k := by
    rw [State.configure, State.changeLine_lines, ← hk]
    rcases c.binding with ⟨_ | _, _⟩ <;> exact ⟨rfl, rfl⟩
  have asked : AskedLine s (s.configure l c mode) l (mode == .dry) false := by
    rw [← hopen]
    exact AskedPair.congr (State.changeLine_asked_mode _ l (r := { LineRec.reset with mode := mode, cfg := some c }) hheld hclean)
      (by rcases c.binding with ⟨_ | _, _⟩ <;> rfl) rfl
  refine ⟨?_, ?_, (bound b).trans (if_pos rfl), (recv b).trans (if_pos rfl),
    fun d hd => ⟨(bound d).trans (if_neg hd), (recv d).trans (if_neg hd)⟩, ?_, ?_, asked, fun g hg => ?_, ?_⟩
  · exact (congrArg (look · l) table.1).trans (look_put_same _ _ _)
  · exact table.1 ▸ sameBut_put _ _ _
  · exact (congrArg (look · l) table.2).trans (look_put_same _ _ _)
  · exact table.2 ▸ sameBut_put _ _ _
  · have : (s.configure l c mode).valve g = s.valve g := by
      rw [State.configure, State.changeLine_valve_ne _ hg]
      rcases c.binding with ⟨_ | _, _⟩ <;> rfl
    exact this
  · conv_lhs => rw [State.ok, wired]
    rfl

end Sys2Proof.Machine
end

section
/-! PROOF. The other line commands and the settings (Chapter 1, section 3.12). -/

namespace Sys2Proof.Machine

open Sys2Proof.Laws

/-! ### LINE_SET -/

/-- A selected binding that no other line has is that of the line, or free. -/
theorem writeSelected_eq {a : LineSetArgs} {c : LineCfg} {trunk : Trunk} {b : Binding} {set : Fin 4}
    (hset : if selected a.selection 1 then a.portionSet = set.val else set = c.portionSet)
    (htrunk : if selected a.selection 3 then a.trunk = trunk.val else trunk = c.trunk)
    (hb : if selected a.selection 4 then a.loop = loopCode b.loop ∧ a.slot = b.slot.val else b = c.binding) :
    writeSelected a c = {
      product := if selected a.selection 7 then a.product else c.product
      trunk := trunk
      fill := if selected a.selection 5 then a.fill else c.fill
      k := if selected a.selection 6 then a.k else c.k
      tail := if selected a.selection 8 then a.tailReseed else c.tail
      binding := b
      account := if selected a.selection 0 then a.account else c.account
      portionSet := set
      primePercent := if selected a.selection 2 then a.primePercent else c.primePercent } := by
  have e1 : (if selected a.selection 1 then (readSet a.portionSet).getD c.portionSet else c.portionSet) = set := by
    split at hset <;> simp [*]
  have e3 : (if selected a.selection 3 then (readTrunk a.trunk).getD c.trunk else c.trunk) = trunk := by
    split at htrunk <;> simp [*]
  have e4 : (if selected a.selection 4 then (readBinding a.loop a.slot).getD c.binding else c.binding) = b := by
    split at hb <;> simp [*]
  simp only [writeSelected, e1, e3, e4]

/-- What an accepted LINE_SET writes over a configuration; `stores` says whether K is selected. -/
def State.rewriteLine (s : State) (l : Line) (stores : Bool) (old new : LineCfg) : State :=
  let t := (s.rebind l old.binding new.binding).setLine l { s.line l with cfg := some new }
  if stores then t.storeK l new.k else t

theorem takeLineSet_accepted {s : State} {a : LineSetArgs} {l : Line} {c : LineCfg} (hline : a.line = l.val)
    (hoff : (s.line l).mode ≠ .offline) (hc : (s.line l).cfg = some c) (hchecks : firstFail (s.lineSetChecks l a) = none) :
    takeLineSet a s = (s.rewriteLine l (selected a.selection 6) c (writeSelected a c)).ok
      ((s.rewriteLine l (selected a.selection 6) c (writeSelected a c)).line l).payload := by
  unfold takeLineSet
  rw [hline, readLine_val]
  dsimp only
  split
  · next h => exact absurd h hoff
  · next h _ => cases h.symm.trans hc
  · next h _ => cases h.symm.trans hc; rw [hchecks]; rfl

section
variable {s : State} {l : Line} {stores : Bool} {old new : LineCfg}

theorem State.rewriteLine_rewired : Rewired s (s.rewriteLine l stores old new) := by
  have written : Rewired s ((s.rebind l old.binding new.binding).setLine l { s.line l with cfg := some new }) :=
    (State.rebind_rewired _ _).trans (State.setLine_rewired _)
  unfold State.rewriteLine
  cases stores
  · exact written
  · exact written.trans (State.storeK_rewired _)

theorem State.rewriteLine_line (m : Line) :
    (s.rewriteLine l stores old new).line m = if m = l then { s.line l with cfg := some new } else s.line m := by
  have lines : (s.rebind l old.binding new.binding).line = s.line := (State.rebind_wired _ _).lines
  have written : ((s.rebind l old.binding new.binding).setLine l { s.line l with cfg := some new }).line m =
      if m = l then { s.line l with cfg := some new } else s.line m := by
    rw [← congrFun lines m]; exact look_put ..
  cases stores <;> exact written

theorem State.rebind_storedK (b c : Binding) : (s.rebind l b c).lineTable.storedK = s.lineTable.storedK := by
  unfold State.rebind
  split
  · rfl
  · rcases b with ⟨_ | _, _⟩ <;> rcases c with ⟨_ | _, _⟩ <;> rfl

theorem State.rewriteLine_storedK : (s.rewriteLine l stores old new).lineTable.storedK =
    if stores then put s.lineTable.storedK l new.k else s.lineTable.storedK := by
  have kept := State.rebind_storedK (s := s) (l := l) old.binding new.binding
  cases stores
  · exact kept
  · exact congrArg (put · l new.k) kept

theorem State.rewriteLine_wiring (d : Binding) :
    (s.rewriteLine l stores old new).bound d = (s.rebind l old.binding new.binding).bound d ∧
    (s.rewriteLine l stores old new).recv d = (s.rebind l old.binding new.binding).recv d := by
  cases stores <;> exact ⟨rfl, rfl⟩

theorem State.rewriteLine_valves : (s.rewriteLine l stores old new).valves = s.valves := by
  rw [← (State.rebind_wired (s := s) (l := l) old.binding new.binding).valves]
  cases stores <;> rfl

end

/-- Settles O15: the record is written over a moved binding, and a selected K is stored. -/
theorem lineSetWritesTheSelectedFields : Obligations.LineSetWritesTheSelectedFields := by
  intro s a l c trunk b set released hline hoff hc hchecks hset htrunk hb
  have hw := writeSelected_eq (a := a) (c := c) hset htrunk hb
  generalize hcfg : writeSelected a c = c1 at hw
  have hb1 : c1.binding = b := by rw [hw]
  have hk1 : selected a.selection 6 = true → c1.k = a.k := fun h => by rw [hw]; exact if_pos h
  have taken := takeLineSet_accepted hline hoff hc hchecks
  rw [hcfg] at taken
  have lines := State.rewriteLine_line (s := s) (l := l) (stores := selected a.selection 6) (old := c) (new := c1)
  have storedK := State.rewriteLine_storedK (s := s) (l := l) (stores := selected a.selection 6) (old := c) (new := c1)
  have wiring := State.rewriteLine_wiring (s := s) (l := l) (stores := selected a.selection 6) (old := c) (new := c1)
  have valves := State.rewriteLine_valves (s := s) (l := l) (stores := selected a.selection 6) (old := c) (new := c1)
  have wired := State.rewriteLine_rewired (s := s) (l := l) (stores := selected a.selection 6) (old := c) (new := c1)
  generalize s.rewriteLine l (selected a.selection 6) c c1 = t at *
  rw [hb1] at wiring
  refine ⟨_, (exec_released released rfl).trans (congrArg _ taken), ?_, fun m hm => ?_, ?_, fun m hm => ?_, fun h d => ?_, fun h => ?_, ?_⟩
  · exact (lines l).trans ((if_pos rfl).trans (by rw [hw]))
  · exact (lines m).trans (if_neg hm)
  · refine (congrArg (look · l) storedK).trans ?_
    split
    · next h => rw [hk1 h]; exact look_put_same _ _ _
    · rfl
  · refine (congrArg (look · m) storedK).trans ?_
    split
    · exact look_put_ne _ _ _ _ hm
    · rfl
  · simp only [State.bound_rebind, State.recv_rebind, if_pos h] at wiring
    exact wiring d
  · simp only [State.bound_rebind, State.recv_rebind, if_neg h] at wiring
    refine ⟨(wiring b).1.trans (if_pos rfl), (wiring b).2.trans (if_pos rfl), (wiring c.binding).1.trans ?_,
      (wiring c.binding).2.trans ?_, fun d h1 h2 => ⟨(wiring d).1.trans ?_, (wiring d).2.trans ?_⟩⟩
    · rw [if_neg (Ne.symm h), if_pos rfl]
    · rw [if_neg (Ne.symm h), if_pos rfl]
    · rw [if_neg h1, if_neg h2]
    · rw [if_neg h1, if_neg h2]
  · rw [Rewired, State.rewired, valves] at wired
    conv_lhs => rw [State.ok, wired]
    rfl

/-! ### LINE_HOLD and LINE_RELEASE -/

/-- Settles O16: the checks by the mode, and the record there and back. -/
theorem lineHoldAndReleaseGoThereAndBack : Obligations.LineHoldAndReleaseGoThereAndBack := by
  intro s l released
  have run {i : Instr} {x : Byte × List Byte} (h : encodeCommand i = some x) : exec i s = .next (takeCommand i s) :=
    exec_released released h
  refine ⟨fun hm => ?_, fun hm hp => ?_, fun hm => ?_, fun m hm hf hh => ?_, fun hm => ?_⟩
  · have passes : s.holdRefusal l = none := by
      obtain h | h | h | ⟨h, hp⟩ := hm
      all_goals simp [State.holdRefusal, h]
      simp [State.pourIdle, hp]
    refine ⟨_, (run rfl).trans ?_, rfl⟩
    simp only [takeCommand, takeLineHold, readLine_val, passes]
    rfl
  · have refused : s.holdRefusal l = some .pourActive := by simp [State.holdRefusal, hm, State.pourIdle, hp]
    refine (run rfl).trans ?_
    simp only [takeCommand, takeLineHold, readLine_val, refused]
    rfl
  · have refused : s.holdRefusal l = some .wrongState := by
      obtain h | h | h | h := hm <;> simp [State.holdRefusal, h]
    refine (run rfl).trans ?_
    simp only [takeCommand, takeLineHold, readLine_val, refused]
    rfl
  · obtain ⟨hopen, hclean, hheld⟩ := Mode.holdable_productOpen hh
    refine ⟨(s.changeLine l { s.line l with mode := m, heldFrom := none }).ok (byte m.code), (run rfl).trans ?_, ?_,
      fun g hg => ?_, ?_⟩
    · simp only [takeCommand, takeLineRelease, readLine_val, hm, hf]
    · rw [← hopen]
      exact AskedPair.congr (State.changeLine_asked_mode s l (r := { s.line l with mode := m, heldFrom := none }) hheld hclean) rfl rfl
    · exact State.changeLine_valve_ne _ hg
    · conv_lhs => rw [State.ok, State.changeLine_frame]
      rfl
  · refine (run rfl).trans ?_
    simp only [takeCommand, takeLineRelease, readLine_val]
    split
    · contradiction
    · rfl

/-! ### LINE_PRIME -/

/-- A state with line records, kegs and valve groups taken from another. -/
def State.kegged (s t : State) : State :=
  { s with
    lineTable := { s.lineTable with lines := t.lineTable.lines }
    kegRegister := { s.kegRegister with kegs := t.kegRegister.kegs }
    valves := { s.valves with groups := t.valves.groups } }

/-- Nothing changes but line records, kegs and valve groups. -/
def Kegged (s t : State) : Prop := t = s.kegged t

theorem Kegged.refl (s : State) : Kegged s s := rfl

theorem Kegged.trans {s t u : State} (h : Kegged s t) (k : Kegged t u) : Kegged s u := by
  have e : t.kegged u = (s.kegged t).kegged u := congrArg (State.kegged · u) h
  exact Eq.trans k e

section
variable {s : State} {l : Line}

theorem State.setLine_kegged (r : LineRec) : Kegged s (s.setLine l r) := rfl
theorem State.setKeg_kegged (p : Position) (k : Option KegRec) : Kegged s (s.setKeg l p k) := rfl
theorem State.askSelector_kegged (p : Position) (on : Bool) : Kegged s (s.askSelector l p on) := rfl
theorem State.changeLine_kegged (r : LineRec) : Kegged s (s.changeLine l r) := by rw [State.changeLine_frame]; rfl
theorem State.setKegState_kegged (p : Position) (x : KegState) : Kegged s (s.setKegState l p x) := by
  rw [State.setKegState_frame]; rfl

end

section
variable {s : State} {l : Line} {p : Position}

theorem State.chooseKeg_eq (he : s.eligible l p = true) (ha : p = .B → s.eligible l .A = false) : s.chooseKeg l = some p := by
  cases p
  · simp [State.chooseKeg, he]
  · simp [State.chooseKeg, he, ha rfl]

theorem State.putOnTap_eq (he : s.eligible l p = true) (hn : s.onTap l = none) :
    s.putOnTap l p = some ((s.setKegState l p .onTap).askSelector l p true) := by simp [State.putOnTap, he, hn]

/-- The records of a line whose keg changes state. -/
theorem State.setKegState_kegs {k : KegRec} (hk : s.keg l p = some k) (x : KegState) :
    (s.setKegState l p x).kegRegister.kegs =
      put s.kegRegister.kegs l ((s.kegSlots l).set p ((s.keg l p).map fun k => { k with state := x })) := by
  rw [State.setKegState, hk]
  rfl

/-- A line that is put on tap: its record, its keg and its four valves. -/
theorem State.putOnTap_changeLine (he : s.eligible l p = true) {r : LineRec} (hh : r.mode ≠ .held) (hc : r.mode ≠ .cleaning)
    {t : State} (ht : t = ((s.setKegState l p .onTap).askSelector l p true).changeLine l r) :
    t.lineTable.lines = put s.lineTable.lines l r ∧
    t.kegRegister.kegs = put s.kegRegister.kegs l ((s.kegSlots l).set p ((s.keg l p).map fun k => { k with state := .onTap })) ∧
    AskedLine s t l r.mode.productOpen false ∧ AskedSelectors s t l (p == .A) (p == .B) ∧
    (∀ g : ValveGroup, g ≠ lineGroup l → g ≠ selectorGroup l → t.valve g = s.valve g) ∧
    Kegged s t := by
  obtain ⟨k, hk, -⟩ := State.keg_of_eligible he
  have kegged : Kegged s ((s.setKegState l p .onTap).askSelector l p true) :=
    (State.setKegState_kegged _ _).trans (State.askSelector_kegged _ _)
  have lines : ((s.setKegState l p .onTap).askSelector l p true).lineTable = s.lineTable := by rw [State.setKegState_frame]; rfl
  have hv (g : ValveGroup) : (s.setKegState l p .onTap).valve g = s.valve g := by rw [State.setKegState_frame]; rfl
  generalize hu : (s.setKegState l p .onTap).askSelector l p true = u at ht kegged lines
  have hug (g : ValveGroup) (h : g ≠ selectorGroup l) : u.valve g = s.valve g := by
    rw [← hu, State.askSelector_valve_ne _ _ h, hv]
  subst ht
  refine ⟨?_, ?_, ?_, ?_, fun g h1 h2 => ?_, ?_⟩
  · rw [State.changeLine_lines, lines]
  · rw [State.changeLine_kegRegister, ← hu, ← State.setKegState_kegs hk]
    rfl
  · exact AskedPair.congr (State.changeLine_asked_mode u l hh hc) (hug _ (selectorGroup_ne l l).symm).symm rfl
  · have asked : AskedSelectors (s.setKegState l p .onTap) u l (p == .A) (p == .B) := hu ▸ State.askSelector_on _ l p
    exact AskedPair.congr asked (hv _).symm (State.changeLine_valve_ne _ (selectorGroup_ne l l))
  · rw [State.changeLine_valve_ne _ h1, hug g h2]
  · exact kegged.trans (State.changeLine_kegged _)

end

/-- Settles O17: the keg chosen goes on tap, and the line record is written by its mode. -/
theorem linePrimePutsAnEligibleKegOnTap : Obligations.LinePrimePutsAnEligibleKegOnTap := by
  intro s l p released hq hf he ha hn hm
  have chosen := State.chooseKeg_eq he ha
  have tapped := State.putOnTap_eq he hn
  have hl : ((s.setKegState l p .onTap).askSelector l p true).line l = s.line l := by rw [State.setKegState_frame]; rfl
  have refusal (warm : Bool) (h : warm = true → s.lineGate l ≠ .hot) : s.primeRefusal l warm = none := by
    cases warm <;> simp_all [State.primeRefusal]
  obtain ⟨hm, hg⟩ | hm := hm
  · obtain ⟨hlines, hkegs, hline, hsel, hother, hframe⟩ := State.putOnTap_changeLine he
      (r := { s.line l with mode := .priming, primed := some 0, lastKeg := some p }) nofun nofun rfl
    generalize ht : ((s.setKegState l p .onTap).askSelector l p true).changeLine l
      { s.line l with mode := .priming, primed := some 0, lastKeg := some p } = t at hlines hkegs hline hsel hother hframe
    refine ⟨t.ok (byte Mode.priming.code), (exec_released released rfl).trans (congrArg _ ?_), ?_, ?_, ?_, ?_, AskedPair.congr hline rfl rfl,
      AskedPair.congr hsel rfl rfl, hother, ?_⟩
    · simp only [takeCommand, takeLinePrime, readLine_val, hm, State.startPriming, refusal true fun _ => hg, chosen,
        tapped, hl, ht]
    · simp only [hm, if_true]
      exact (congrArg (look · l) hlines).trans (look_put_same _ _ _)
    · exact fun m hne => (congrArg (look · m) hlines).trans (look_put_ne _ _ _ _ hne)
    · exact (congrArg (look · l) hkegs).trans (look_put_same _ _ _)
    · exact fun m hne => (congrArg (look · m) hkegs).trans (look_put_ne _ _ _ _ hne)
    · simp only [hm, if_true]
      conv_lhs => rw [State.ok, hframe]
      rfl
  · obtain ⟨hlines, hkegs, hline, hsel, hother, hframe⟩ := State.putOnTap_changeLine he
      (r := { s.line l with mode := .ready, lastKeg := some p }) nofun nofun rfl
    generalize ht : ((s.setKegState l p .onTap).askSelector l p true).changeLine l { s.line l with mode := .ready, lastKeg := some p } = t
      at hlines hkegs hline hsel hother hframe
    refine ⟨(t.raise .lineReady l).ok (byte Mode.ready.code), (exec_released released rfl).trans (congrArg _ ?_), ?_, ?_, ?_, ?_, AskedPair.congr hline rfl rfl,
      AskedPair.congr hsel rfl rfl, hother, ?_⟩
    · simp only [takeCommand, takeLinePrime, readLine_val, hm, refusal false nofun, chosen, State.dryToReady, tapped, hl,
        ht]
    · simp only [hm, reduceCtorEq, if_false]
      exact (congrArg (look · l) hlines).trans (look_put_same _ _ _)
    · exact fun m hne => (congrArg (look · m) hlines).trans (look_put_ne _ _ _ _ hne)
    · exact (congrArg (look · l) hkegs).trans (look_put_same _ _ _)
    · exact fun m hne => (congrArg (look · m) hkegs).trans (look_put_ne _ _ _ _ hne)
    · simp only [hm, reduceCtorEq, if_false]
      conv_lhs => rw [State.ok, State.raise, hframe]
      rfl

/-! ### LINE_RETIRE -/

theorem State.unbind_storedK {s : State} (b : Binding) : (s.unbind b).lineTable.storedK = s.lineTable.storedK := by
  rcases b with ⟨_ | _, _⟩ <;> rfl

/-- Settles O18: the faucet is unbound, and the record of the line returns to its reset values. -/
theorem lineRetireReturnsTheLineToOffline : Obligations.LineRetireReturnsTheLineToOffline := by
  intro s l c released hc hm hq ha hb
  have passes : s.retireRefusal l = none := by
    rw [State.retireRefusal, firstFail_eq_none]
    obtain h | h | h := hm <;> simp [h, hq, ha, hb]
  generalize hu : (s.unbindLine l).changeLine l LineRec.reset = u
  have wired : Rewired s u := hu ▸ State.unbindLine_rewired.trans (State.changeLine_rewired _)
  have hof : s.bindingOf l = some c.binding := by rw [State.bindingOf, hc]; rfl
  have bound (d : Binding) : u.bound d = if d = c.binding then none else s.bound d := by
    rw [← hu, State.changeLine_bound, State.bound_unbindLine, hof]
    simp [eq_comm]
  have recv (d : Binding) : u.recv d = if d = c.binding then none else s.recv d := by
    rw [← hu, State.changeLine_recv, State.recv_unbindLine, hof]
    simp [eq_comm]
  have unbound := State.unbindLine_wired (s := s) (l := l)
  have lines (m : Line) : u.line m = if m = l then LineRec.reset else s.line m := by
    rw [← hu, State.changeLine_line, congrFun unbound.lines m]
  have storedK : u.lineTable.storedK = s.lineTable.storedK := by
    rw [← hu, State.changeLine_lines, State.unbindLine, hc]
    exact State.unbind_storedK c.binding
  have asked : AskedLine s u l false false := by
    rw [← hu]
    exact AskedPair.congr (State.changeLine_asked_mode _ l (r := LineRec.reset) nofun nofun)
      (by rw [State.valve, ← unbound.valves]; rfl) rfl
  refine ⟨((u.setLastEnrol l none).setPour l { s.pour l with shown := none, last := none }).ok (s.line l).retirePayload,
    (exec_released released rfl).trans (congrArg _ ?_), ?_, fun m hm => ?_, ?_, ?_, fun d hd => ⟨?_, ?_⟩,
    AskedPair.congr asked rfl rfl, fun g hg => ?_, ?_⟩
  · simp only [takeCommand, takeLineRetire, readLine_val, passes, hu]
  · exact (lines l).trans (if_pos rfl)
  · exact (lines m).trans (if_neg hm)
  · exact (bound _).trans (if_pos rfl)
  · exact (recv _).trans (if_pos rfl)
  · exact (bound d).trans (if_neg hd)
  · exact (recv d).trans (if_neg hd)
  · have : u.valve g = s.valve g := by
      rw [← hu, State.changeLine_valve_ne _ hg, State.valve, unbound.valves]; rfl
    exact this
  · rw [Rewired, State.rewired, storedK] at wired
    conv_lhs => rw [wired]
    rfl

/-! ### Settings -/

/-- Settles O19: each field clamped into its range, and the lock. -/
theorem settingsTakeTheirClampedValues : Obligations.SettingsTakeTheirClampedValues := by
  intro s released
  have run {i : Instr} {x : Byte × List Byte} (h : encodeCommand i = some x) : exec i s = .next (takeCommand i s) :=
    exec_released released h
  refine ⟨fun a n x hn hx => (run rfl).trans ?_, fun a hn => (run rfl).trans ?_, run rfl, fun service => (run rfl).trans ?_,
    fun a x hx => (run rfl).trans ?_⟩
  · subst hx
    simp only [takeCommand, takePortionSet, hn, readSet_val]
    rfl
  · have out : readSet a.set = none := by rw [readSet, dif_neg (by omega)]
    simp only [takeCommand, takePortionSet, out]
    rfl
  · simp only [takeCommand, takeCalUnlock]
    cases s.lineTable.calLock <;> cases service <;> rfl
  · have hp : partTiming a s.timing = x := by
      subst hx
      simp only [partTiming, pick, selected, clampNat, rateOf, Nat.zero_max]
      rfl
    simp only [takeCommand, takePartSet, hp]
    rfl

end Sys2Proof.Machine
end

section
/-! PROOF. Pour Control as its commands and events ask it: POUR_ABORT by the state of the pour record, promotion on a trunk, and the
tests of a frame. -/

namespace Sys2Proof.Machine
open Sys2Proof.Laws

/-! ### What promotion on a trunk does (R48) -/

section
variable {s u : State} {t : Trunk}

/-- What promotion on one trunk may do: take lines from the head of its wait queue, and write the records of WAITING ones. -/
structure Promoted (t : Trunk) (s u : State) : Prop where
  queue : ∃ k : Nat, (u.trunk t).queue = (s.trunk t).queue.drop k
  limit : (u.trunk t).limit = (s.trunk t).limit
  trunks : SameBut s.pourControl.trunks u.pourControl.trunks t
  unqueued : ∀ m : Line, m ∉ (s.trunk t).queue → u.pour m = s.pour m
  unwaiting : ∀ m : Line, (s.pour m).record.code ≠ 1 → u.pour m = s.pour m

theorem Promoted.refl (s : State) : Promoted t s s := ⟨⟨0, rfl⟩, rfl, fun _ _ => rfl, fun _ _ => rfl, fun _ _ => rfl⟩

theorem Promoted.trans {v : State} (h : Promoted t s u) (k : Promoted t u v) : Promoted t s v := by
  obtain ⟨i, hi⟩ := h.queue
  obtain ⟨j, hj⟩ := k.queue
  refine ⟨⟨i + j, by rw [hj, hi, List.drop_drop]⟩, k.limit.trans h.limit, fun m hm => (k.trunks m hm).trans (h.trunks m hm),
    fun m hm => ?_, fun m hm => ?_⟩
  · exact (k.unqueued m fun hq => hm (List.mem_of_mem_drop (hi ▸ hq))).trans (h.unqueued m hm)
  · have hu := h.unwaiting m hm
    exact (k.unwaiting m (by rwa [hu])).trans hu

@[simp] theorem State.setRecord_trunk (l : Line) (r : PourRec) : (s.setRecord l r).trunk t = s.trunk t := rfl
@[simp] theorem State.setPour_trunk (l : Line) (x : PourSlot) : (s.setPour l x).trunk t = s.trunk t := rfl
@[simp] theorem State.setTrunk_pour (l : Line) (d : TrunkDraw) : (s.setTrunk t d).pour l = s.pour l := rfl
@[simp] theorem State.setRecord_pour_same (l : Line) (r : PourRec) : (s.setRecord l r).pour l = { s.pour l with record := r } :=
  look_put_same _ _ _

theorem State.promoteHead_of_waiting {l : Line} {rest : List Line} {p : Pour} {n : Nat} (hq : (s.trunk t).queue = l :: rest)
    (hp : (s.pour l).record = .waiting p n) :
    s.promoteHead t = (s.setTrunk t { s.trunk t with queue := rest }).setRecord l (.enterPouring p) := by
  simp only [State.promoteHead, hq, hp]

theorem State.promoteHead_promoted (s : State) (t : Trunk) : Promoted t s (s.promoteHead t) := by
  cases hq : (s.trunk t).queue with
  | nil => simp only [State.promoteHead, hq]; exact Promoted.refl s
  | cons l rest =>
    have queue (r : Option PourRec) (u : State)
        (hu : u = s.setTrunk t { s.trunk t with queue := rest } ∨ (s.pour l).record.code = 1 ∧
          ∃ r, u = (s.setTrunk t { s.trunk t with queue := rest }).setRecord l r) : Promoted t s u := by
      obtain rfl | ⟨hw, r, rfl⟩ := hu
      · exact ⟨⟨1, by simp [hq]⟩, by simp, sameBut_put _ _ _, fun _ _ => rfl, fun _ _ => rfl⟩
      · refine ⟨⟨1, by simp [hq]⟩, by simp, sameBut_put _ _ _, fun m hm => ?_, fun m hm => ?_⟩
        · exact look_put_ne _ _ _ _ fun e => hm (by simp [hq, e])
        · exact look_put_ne _ _ _ _ fun e => hm (e ▸ hw)
    simp only [State.promoteHead, hq]
    split
    next p n hp => exact queue none _ (.inr ⟨by rw [hp]; rfl, _, rfl⟩)
    next => exact queue none _ (.inl rfl)

theorem State.promoteUpTo_promoted (n : Nat) (s : State) : Promoted t s (State.promoteUpTo n s t) := by
  induction n generalizing s with
  | zero => exact Promoted.refl s
  | succ n ih =>
    unfold State.promoteUpTo
    split
    · exact (s.promoteHead_promoted t).trans (ih _)
    · exact Promoted.refl s

/-- Promotion with an entry for every place of the queue stops where nothing waits or the trunk may not promote. -/
theorem State.promoteUpTo_exhausts {n : Nat} {s : State} (h : (s.trunk t).queue.length ≤ n) :
    ((State.promoteUpTo n s t).trunk t).queue = [] ∨ (State.promoteUpTo n s t).mayPromote t = false := by
  induction n generalizing s with
  | zero => exact .inl (List.length_eq_zero_iff.mp (Nat.le_zero.mp h))
  | succ n ih =>
    unfold State.promoteUpTo
    split
    next hm =>
      cases hq : (s.trunk t).queue with
      | nil => simp [hq] at hm
      | cons l rest =>
        have : ((s.promoteHead t).trunk t).queue = rest := by
          simp only [State.promoteHead, hq]
          split <;> simp
        exact ih (by rw [this]; simpa [hq] using h)
    next hm =>
      cases hq : (s.trunk t).queue with
      | nil => exact .inl rfl
      | cons l rest => exact .inr (by simpa [hq] using hm)

theorem State.mayPromote_iff : s.mayPromote t = true ↔ (s.zone t).gate ≠ .hot ∧ s.trunkPouring t < (s.trunk t).limit := by
  simp [State.mayPromote]

/-- Where the trunk may promote, the WAITING head of its queue is promoted first. -/
theorem State.promote_of_waiting {l : Line} {rest : List Line} {p : Pour} {n : Nat} (hm : s.mayPromote t = true)
    (hq : (s.trunk t).queue = l :: rest) (hp : (s.pour l).record = .waiting p n) :
    s.promote t =
      State.promoteUpTo rest.length ((s.setTrunk t { s.trunk t with queue := rest }).setRecord l (.enterPouring p)) t := by
  simp only [State.promote, hq, List.length_cons, State.promoteUpTo, hm, List.isEmpty_cons, Bool.not_false, Bool.and_self, if_true,
    State.promoteHead_of_waiting hq hp]

/-! ### Withdrawal (R50) -/

/-- What a withdrawal writes. -/
theorem State.withdraw_of_waiting {l : Line} {p : Pour} {n : Nat} {c : LineCfg} (hp : (s.pour l).record = .waiting p n)
    (hc : (s.line l).cfg = some c) :
    s.withdraw l = { s with
      pourControl := { s.pourControl with
        pours := put s.pourControl.pours l { s.pour l with record := .idle }
        trunks := put s.pourControl.trunks c.trunk { s.trunk c.trunk with
          queue := (s.trunk c.trunk).queue.filter fun m => m != l } }
      accounts := (s.releasePour p).accounts
      link := (s.releasePour p).link } := by
  have leaves : s.leaveQueue l = s.setTrunk c.trunk { s.trunk c.trunk with
      queue := (s.trunk c.trunk).queue.filter fun m => m != l } := by simp only [State.leaveQueue, hc]
  have same (d : TrunkDraw) : ((s.setTrunk c.trunk d).releasePour p).accounts = (s.releasePour p).accounts ∧
      ((s.setTrunk c.trunk d).releasePour p).link = (s.releasePour p).link := by
    unfold State.releasePour
    split
    · unfold State.releaseHold
      rw [show ∀ id, (s.setTrunk c.trunk d).findAccount id = s.findAccount id from fun _ => rfl]
      split
      · exact ⟨rfl, rfl⟩
      · unfold State.endHold
        split <;> exact ⟨rfl, rfl⟩
    · exact ⟨rfl, rfl⟩
  have frame := s.releasePour_frame p
  simp only [State.withdraw, hp, leaves]
  rw [State.releasePour_frame]
  obtain ⟨ha, hl⟩ := same { s.trunk c.trunk with queue := (s.trunk c.trunk).queue.filter fun m => m != l }
  rw [ha, hl]
  conv_rhs => rw [show (s.releasePour p).link = { s.link with attention := (s.releasePour p).link.attention } by rw [frame]]
  rfl

end

/-- Settles O20: each state of the pour record in turn. -/
theorem pourAbortActsByThePourState : Obligations.PourAbortActsByThePourState := by
  intro s l released
  have run {n : Nat} : exec (.pourAbort n) s = .next (takePourAbort n s) := State.running_of_released released
  have notClean {r : PourRec} {p : Pour} (hr : r.pour = some p) (hk : p.kind ≠ .clean) : r.isClean = false := by
    simp [PourRec.isClean, hr, hk]
  refine ⟨fun n hn => ?_, fun hi => ?_, fun ⟨p, hp, hk⟩ => ?_, fun p n c hp hk hc => ?_, fun p n bf bp hp hk => ?_,
    fun p n v r q k hp hk => ?_⟩ <;> rw [run, takePourAbort]
  · have : readLine n = none := by simp [readLine]; omega
    rw [this]; rfl
  · simp only [readLine_val, hi]; rfl
  · have : (s.pour l).record.isClean = true := by simp [PourRec.isClean, hp, hk]
    simp only [readLine_val, this, if_true]; rfl
  · refine ⟨(s.withdraw l).ok (byte 0), ?_, by rw [State.withdraw_of_waiting hp hc]; rfl⟩
    simp only [readLine_val, hp, notClean (r := .waiting p n) rfl hk, Bool.false_eq_true, if_false]; rfl
  · refine ⟨(s.closePour l .abort).ok (byte 1), ?_, by simp only [State.closePour, hp]; rfl⟩
    simp only [readLine_val, hp, notClean (r := .pouring p n bf bp) rfl hk, Bool.false_eq_true, if_false]; rfl
  · simp only [readLine_val, hp, notClean (r := .tailing p n v r q k) rfl hk, Bool.false_eq_true, if_false]; rfl

/-- Settles O21: promotion takes the head of the queue first, and stops where nothing waits or the trunk may not promote. -/
theorem trunkDrawAndPromotionFillTheTrunk : Obligations.TrunkDrawAndPromotionFillTheTrunk := by
  intro s t released
  have draw {x y : Nat} : exec (.trunkDraw x y) s = .next (takeTrunkDraw x y s) := State.running_of_released released
  have promotes {s : State} (h : s.resetHeld = false) : exec (.promotion t) s = .next (s.promote t) := State.running_of_released h
  have clamp (x : Nat) : clampNat 1 32 x = max 1 (min 32 x) := by simp [clampNat]
  refine ⟨fun trunk limit ht => ?_, fun limit new hn => ⟨fun hle => ?_, fun hlt => ?_⟩, fun hnone => ?_,
    fun l rest p n hg hr hq hp => ?_⟩
  · have : readTrunk trunk = none := by simp [readTrunk]; omega
    rw [draw, takeTrunkDraw, this]; rfl
  · have : ¬ new > (s.trunk t).limit := by omega
    rw [draw, takeTrunkDraw]
    simp only [readTrunk_val, clamp, ← hn, this, if_false]
    simp [State.ok, State.drawPayload, State.reply, State.setTrunk, State.trunk, State.trunkPouring]; rfl
  · refine ⟨(s.setTrunk t { s.trunk t with limit := new }).promote t, promotes released, ?_⟩
    have kept : (((s.setTrunk t { s.trunk t with limit := new }).promote t).trunk t).limit = new := by
      rw [State.promote, (State.promoteUpTo_promoted _ _).limit]; simp
    rw [draw, takeTrunkDraw]
    simp only [readTrunk_val, clamp, ← hn, show new > (s.trunk t).limit from hlt, if_true]
    simp only [State.ok, State.drawPayload, kept]; rfl
  · rw [promotes released, State.promote_none s t]
    by_cases hq : (s.trunk t).queue = []
    · exact .inl hq
    · refine .inr (Bool.eq_false_iff.mpr fun hm => ?_)
      obtain ⟨hg, hr⟩ := State.mayPromote_iff.mp hm
      obtain h | h | h := hnone
      · exact hg h
      · omega
      · exact hq h
  · have first := State.promote_of_waiting (State.mayPromote_iff.mpr ⟨hg, hr⟩) hq hp
    generalize hv : (s.setTrunk t { s.trunk t with queue := rest }).setRecord l (.enterPouring p) = v at first
    have vq : (v.trunk t).queue = rest := by rw [← hv]; simp
    have vl : v.pour l = { s.pour l with record := .pouring p 0 0 0 } := by rw [← hv]; simp [PourRec.enterPouring]
    have whole := State.promoteUpTo_promoted (t := t) (s.trunk t).queue.length s
    have later := State.promoteUpTo_promoted (t := t) rest.length v
    have stops := State.promoteUpTo_exhausts (t := t) (s := s) le_rfl
    have frame := s.promote_frame t
    rw [← first] at later
    change Promoted t s (s.promote t) at whole
    change ((s.promote t).trunk t).queue = [] ∨ (s.promote t).mayPromote t = false at stops
    refine ⟨s.promote t, promotes released, ?_, vq ▸ later.queue, stops.imp id fun h => ?_, whole.limit, whole.trunks,
      whole.unqueued, frame⟩
    · rw [later.unwaiting l (by rw [vl]; simp [PourRec.code]), vl]
    · have gate : ((s.promote t).zone t).gate ≠ .hot := by rw [frame]; exact hg
      by_contra hlt
      exact Bool.false_ne_true (h ▸ State.mayPromote_iff.mpr ⟨gate, by omega⟩)

/-- Settles O22: each test by its own function, where the count is due and where it is not. -/
theorem frameTestsCloseAndTimeOut : Obligations.FrameTestsCloseAndTimeOut := by
  intro s l released
  refine ⟨fun p n bf bp hp => ⟨?_, ?_⟩, fun p n c hp hc => ⟨fun hn => ?_, fun hn => ?_⟩⟩
  · refine (State.running_of_released (f := takePourOvertime l) released).trans (congrArg (fun x : State => Host.Outcome.next x.follow) ?_)
    simp only [State.overtime, State.closePour, hp, Bool.and_eq_true, decide_eq_true_eq]
    rfl
  · refine (State.running_of_released (f := takeLowFlowBlockEnd l) released).trans (congrArg (fun x : State => Host.Outcome.next x.follow) ?_)
    simp only [State.judgeBlock, State.closePour, hp]
    by_cases hk : p.kind = .clean ∨ bf < s.timing.lowFlowBlock
    · simp only [hk, if_true]
    · by_cases hb : bp < s.timing.lowFlowMin <;> simp only [hk, hb, if_true, if_false] <;> rfl
  · refine (State.running_of_released (f := takeWaitTimeout l) released).trans ?_
    have : s.timedOut l = false := by simpa [State.timedOut, hp] using hn
    simp [takeWaitTimeout, this]
  · refine ⟨s.waitTimeout l, ?_, ?_⟩
    · refine (State.running_of_released (f := takeWaitTimeout l) released).trans ?_
      have : s.timedOut l = true := by simpa [State.timedOut, hp] using hn
      simp [takeWaitTimeout, this]
    · simp only [State.waitTimeout, hp, ge_iff_le, hn, if_true, State.withdraw_of_waiting hp hc]
      simp [State.setShown, State.setPour, State.pour]

end Sys2Proof.Machine
end

section
/-! PROOF. Stand accounts: ACCOUNT_OPEN, ACCOUNT_CREDIT, ACCOUNT_FLOAT and ACCOUNT_CLOSE by their checks. -/

namespace Sys2Proof.Machine
open Sys2Proof.Laws

/-- The first index of a table with a property is the one below which none has it. -/
theorem find_indices {n : Nat} {p : Fin n → Bool} {i : Fin n} (hi : p i = true) (hlow : ∀ j, j < i → p j = false) :
    (indices n).find? p = some i := by
  refine List.find?_eq_some_iff_getElem.mpr ⟨hi, i.val, by simp [indices], by simp [indices], fun j hj => ?_⟩
  have := hlow ⟨j, by omega⟩ (Fin.lt_def.mpr hj)
  simpa [indices] using this

theorem idInRange_false {id : Nat} (h : id = 0 ∨ 65535 < id) : idInRange id = false :=
  Bool.eq_false_iff.mpr fun hr => by obtain ⟨h1, h2⟩ := idInRange_iff.mp hr; omega

section
variable {s : State} {id : Nat}

theorem State.findAccount_isSome {i : AccountIx} {a : Account} (h : s.account i = some a) (hid : a.id = id) :
    (s.findAccount id).isSome = true := by
  cases hf : s.findAccount id with
  | none => exact absurd hid (State.findAccount_eq_none.mp hf i a h)
  | some x => rfl

theorem State.emptyPlace_none (h : ∀ i, ∃ a, s.account i = some a) : s.emptyPlace = none := by
  refine List.find?_eq_none.mpr fun i _ => ?_
  obtain ⟨a, ha⟩ := h i
  simp [ha]

theorem State.emptyPlace_lowest {i : AccountIx} (hi : s.account i = none) (hlow : ∀ j, j < i → s.account j ≠ none) :
    s.emptyPlace = some i :=
  find_indices (by simp [hi]) fun j hj => by simpa [Option.isSome_iff_ne_none] using hlow j hj

end

/-- Settles O30: the three checks in turn, and the search of an empty place from the lowest index. -/
theorem accountOpenTakesTheLowestEmptyPlace : Obligations.AccountOpenTakesTheLowestEmptyPlace := by
  intro s id float credit released
  have run : exec (.accountOpen id float credit) s = .next (takeAccountOpen id float credit s) := State.running_of_released released
  rw [run]
  refine ⟨fun hbad => ?_, fun h1 h2 h3 h4 h5 => ?_⟩
  · have : (idInRange id && within 0 65535 float && decide (0 ≤ credit ∧ credit ≤ 2147483647)) = false := by
      refine Bool.eq_false_iff.mpr fun h => ?_
      simp only [Bool.and_eq_true, idInRange_iff, within_iff, decide_eq_true_eq] at h
      omega
    rw [takeAccountOpen, if_pos this]; rfl
  · have good : ¬ (idInRange id && within 0 65535 float && decide (0 ≤ credit ∧ credit ≤ 2147483647)) = false := by
      simp only [Bool.not_eq_false, Bool.and_eq_true, idInRange_iff, within_iff, decide_eq_true_eq]
      omega
    rw [takeAccountOpen, if_neg good]
    refine ⟨fun ⟨i, a, ha, hid⟩ => ?_, fun hfull => ?_, fun i hfree hi hlow => ?_⟩
    · rw [if_pos (State.findAccount_isSome ha hid)]; rfl
    · have free : s.findAccount id = none := State.findAccount_eq_none.mpr fun i a ha => by
        obtain ⟨b, hb, hne⟩ := hfull i
        rwa [Option.some.inj (ha.symm.trans hb)]
      simp only [free, State.emptyPlace_none fun i => (hfull i).imp fun _ h => h.1]; rfl
    · simp only [State.findAccount_eq_none.mpr hfree, State.emptyPlace_lowest hi hlow]; rfl

/-- Settles O31: the checks of each command on the one record with the ID, in their order. -/
theorem creditAndFloatMoveTheAccount : Obligations.CreditAndFloatMoveTheAccount := by
  intro s id released
  have credit {n : Int} : exec (.accountCredit id n) s = .next (takeAccountCredit id n s) := State.running_of_released released
  have float {n : Nat} : exec (.accountFloat id n) s = .next (takeAccountFloat id n s) := State.running_of_released released
  refine ⟨fun n hid => ?_, fun n hn => ?_, fun h1 h2 hnone => ⟨fun n => ?_, fun n hn => ?_⟩, fun i a h1 h2 ha hid hu =>
    ⟨fun n => ?_, fun n hn => ?_⟩⟩
  · rw [credit, takeAccountCredit, if_pos (idInRange_false hid)]; rfl
  · have : (idInRange id && within 0 65535 n) = false := by
      refine Bool.eq_false_iff.mpr fun h => ?_
      simp only [Bool.and_eq_true, idInRange_iff, within_iff] at h
      omega
    rw [float, takeAccountFloat, if_pos this]; rfl
  all_goals have valid : idInRange id = true := idInRange_iff.mpr ⟨h1, h2⟩
  · rw [credit, takeAccountCredit, valid, State.findAccount_eq_none.mpr hnone]; rfl
  · have : within 0 65535 n = true := within_iff.mpr ⟨Nat.zero_le _, hn⟩
    rw [float, takeAccountFloat, valid, this, State.findAccount_eq_none.mpr hnone]; rfl
  · rw [credit, takeAccountCredit, valid, State.findAccount_of_unique ha hid hu]
    simp only [Account.creditChecks, firstFail, creditInRange, Bool.true_eq_false, if_false]
    by_cases hs : a.state = .closed
    · simp [hs]; rfl
    by_cases hr : a.credited + n < -2147483648 ∨ 2147483647 < a.credited + n
    · have : ¬ (-2147483648 ≤ a.credited + n ∧ a.credited + n ≤ 2147483647) := by omega
      simp [hs, hr, this]; rfl
    have hr' : -2147483648 ≤ a.credited + n ∧ a.credited + n ≤ 2147483647 := by omega
    by_cases hf : n < 0 ∧ a.available + n < -(a.float : Int)
    · have : ¬ (0 ≤ n ∨ a.available + n ≥ -(a.float : Int)) := by omega
      simp only [hs, hr, hr', hf, this, bne_iff_ne, ne_eq, not_false_eq_true, decide_true, decide_false, and_self, if_true, if_false,
        Bool.false_eq_true]
      rfl
    · have : 0 ≤ n ∨ a.available + n ≥ -(a.float : Int) := by omega
      simp only [hs, hr, hr', hf, this, bne_iff_ne, ne_eq, not_false_eq_true, decide_true, and_self, if_true, if_false]
      rfl
  · have : within 0 65535 n = true := within_iff.mpr ⟨Nat.zero_le _, hn⟩
    rw [float, takeAccountFloat, valid, this, State.findAccount_of_unique ha hid hu]
    simp only [Account.floatChecks, firstFail, Bool.and_self, Bool.true_eq_false, if_false]
    by_cases hs : a.state = .closed
    · simp [hs]; rfl
    by_cases hf : a.available < -(n : Int)
    · have : ¬ a.available ≥ -(n : Int) := by omega
      simp only [hs, hf, this, bne_iff_ne, ne_eq, not_false_eq_true, decide_false, if_true, if_false, Bool.false_eq_true]
      rfl
    · have : a.available ≥ -(n : Int) := by omega
      simp only [hs, hf, this, bne_iff_ne, ne_eq, not_false_eq_true, decide_true, if_true, if_false]
      rfl

/-- Settles O32: each state of the one record with the ID. -/
theorem accountCloseActsByTheRecordsState : Obligations.AccountCloseActsByTheRecordsState := by
  intro s id released
  have run : exec (.accountClose id) s = .next (takeAccountClose id s) := State.running_of_released released
  rw [run]
  refine ⟨fun hid => ?_, fun h1 h2 hnone => ?_, fun i a h1 h2 ha hid hu => ?_⟩
  · rw [takeAccountClose, if_pos (idInRange_false hid)]; rfl
  all_goals have valid : idInRange id = true := idInRange_iff.mpr ⟨h1, h2⟩
  · rw [takeAccountClose, valid, State.findAccount_eq_none.mpr hnone]; rfl
  · rw [takeAccountClose, valid, State.findAccount_of_unique ha hid hu]
    cases hs : a.state with
    | opened => by_cases hh : a.holds = 0 <;> simp only [hs, hh, if_true, if_false, Bool.true_eq_false] <;> rfl
    | closing => simp only [hs, if_false, Bool.true_eq_false]; rfl
    | closed => simp only [hs, if_false, Bool.true_eq_false]; rfl

end Sys2Proof.Machine
end

section
/-! PROOF. The loop records under LOOP_SET, LOOP_START and FRAME_SYNC, and the outputs of a loop. -/

namespace Sys2Proof.Machine
open Sys2Proof.Laws

section
variable {s : State}

/-- Nothing changes but the loop records. -/
def Looped (s t : State) : Prop := t = { s with tapLoops := t.tapLoops }

theorem Looped.trans {s t u : State} (h : Looped s t) (k : Looped t u) : Looped s u := by
  have e : { t with tapLoops := u.tapLoops } = { s with tapLoops := u.tapLoops } :=
    congrArg (fun t : State => { t with tapLoops := u.tapLoops }) h
  exact Eq.trans k e

theorem State.setLoop_frame (i : LoopId) (r : LoopRec) : s.setLoop i r = { s with tapLoops := (s.setLoop i r).tapLoops } := by
  cases i <;> rfl

theorem State.bound_setLoop (i : LoopId) (r : LoopRec) (b : Binding) : (s.setLoop i r).bound b = s.bound b := by
  rw [State.setLoop_frame]; rfl

@[simp] theorem LoopRec.isRunning_iff {r : LoopRec} : r.isRunning = true ↔ r.state ≠ .stopped := by simp [LoopRec.isRunning]

@[simp] theorem LoopRec.isRunning_eq_false {r : LoopRec} : r.isRunning = false ↔ r.state = .stopped := by simp [LoopRec.isRunning]

theorem State.noneBoundFrom_iff {i : LoopId} {n : Nat} :
    s.noneBoundFrom i n = true ↔ ∀ k : Slot, n ≤ k.val → s.bound ⟨i, k⟩ = none := by
  simp only [State.noneBoundFrom, List.all_eq_true, mem_indices, true_implies, Bool.or_eq_true, decide_eq_true_eq,
    Option.isNone_iff_eq_none]
  exact forall_congr' fun k => by rw [← not_lt, ← or_iff_not_imp_left]

/-- What a frame sync leaves: the frame counted, the words of every slot latched, and slot 0 in progress. -/
theorem State.frameSync_spec (s : State) (i : LoopId) :
    (s.frameSync i).loop i = { s.loop i with
      slot := some 0, frames := satAdd (s.loop i).frames 1, latched := ((s.frameSync i).loop i).latched } ∧
    (∀ k : Slot, look ((s.frameSync i).loop i).latched k =
      if k.val < (s.loop i).slotCount then some (s.slotCommand ⟨i, k⟩) else none) ∧
    (∀ j : LoopId, j ≠ i → (s.frameSync i).loop j = s.loop j) ∧
    s.frameSync i = { s with tapLoops := (s.frameSync i).tapLoops } := by
  simp only [State.frameSync, State.loop_setLoop_same]
  exact ⟨trivial, s.look_latchedWords i, fun j hj => State.loop_setLoop_ne _ _ _ _ hj, State.setLoop_frame _ _⟩

end

theorem LoopRec.pins_running {r : LoopRec} {bit : Fin 24} {rate : Nat} {k : Slot} {c : OutCommand} (hr : r.state = .running rate)
    (hk : r.slot = some k) (hc : look r.latched k = some c) :
    r.pins bit = ⟨true, decide (k = 0 ∧ bit = 0), c.word.getLsbD (23 - bit.val)⟩ := by
  simp only [LoopRec.pins, hr, hk, hc, Option.any_some, LoopPins.mk.injEq, true_and, and_true, Bool.decide_and]
  rfl

/-- Settles O34: the outputs by the state of the loop, then each command by its checks and the frame sync by what it latches. -/
theorem loopsAreSetStartedAndSynced : Obligations.LoopsAreSetStartedAndSynced := by
  refine ⟨fun r bit => ⟨fun hs => by simp only [LoopRec.pins, hs], fun rate k c => LoopRec.pins_running⟩, fun s i released => ?_⟩
  have set {loop n : Nat} : exec (.loopSet loop n) s = .next (takeLoopSet loop n s) := State.running_of_released released
  have start {loop : Nat} : exec (.loopStart loop) s = .next (takeLoopStart loop s) := State.running_of_released released
  have sync : exec (.frameSync i) s = .next (takeFrameSync i s) := State.running_of_released released
  have range {n : Nat} (h : n < 2 ∨ 24 < n) : within 2 24 n = false := Bool.eq_false_iff.mpr fun hr => by
    obtain ⟨h1, h2⟩ := within_iff.mp hr; omega
  refine ⟨fun loop n hl => ?_, fun n hn => ?_, fun n h1 h2 hw => ?_, fun n h1 h2 hs hb => ?_, fun hs => ?_, fun hs => ?_,
    fun cmd state answer hcmd => ?_⟩
  · have none : readLoop loop = none := by
      match loop, hl with
      | n + 2, _ => rfl
    rw [set, start, takeLoopSet, takeLoopStart, none]; exact ⟨rfl, rfl⟩
  · rw [set, takeLoopSet]
    simp only [readLoop_code, firstFail, range hn, Bool.false_eq_true, if_false]; rfl
  · rw [set, takeLoopSet]
    simp only [readLoop_code, firstFail, within_iff.mpr ⟨h1, h2⟩, if_true]
    cases hr : (s.loop i).isRunning with
    | true => rfl
    | false =>
      have : s.noneBoundFrom i n = false := Bool.eq_false_iff.mpr fun hn => by
        obtain hs | ⟨k, hk, hb⟩ := hw
        · exact hs (LoopRec.isRunning_eq_false.mp hr)
        · exact hb (State.noneBoundFrom_iff.mp hn k hk)
      simp only [this, Bool.not_false, if_true, Bool.false_eq_true, if_false]; rfl
  · refine ⟨(s.setLoop i { s.loop i with slotCount := n }).ok (byte n), ?_, ?_, fun j hj => ?_, ?_⟩
    · rw [set, takeLoopSet]
      simp only [readLoop_code, firstFail, within_iff.mpr ⟨h1, h2⟩, LoopRec.isRunning_eq_false.mpr hs,
        State.noneBoundFrom_iff.mpr hb, Bool.not_false, if_true]
    · exact State.loop_setLoop_same _ _ _
    · exact State.loop_setLoop_ne _ _ _ _ hj
    · conv_lhs => rw [State.setLoop_frame]
      rfl
  · rw [start, takeLoopStart]
    simp only [readLoop_code, LoopRec.isRunning_iff.mpr hs, if_true]; rfl
  · rw [sync, takeFrameSync, if_neg]
    simp only [Bool.and_eq_true, LoopRec.isRunning_iff, Option.isNone_iff_eq_none, not_and_or, not_not]
    exact hs
  · obtain ⟨rfl, hs, rfl, rfl⟩ | ⟨rfl, hs, hk, rfl, rfl⟩ := hcmd
    · have begun := State.frameSync_spec (s.setLoop i { s.loop i with state := .running s.timing.frameRate }) i
      have words (k : Slot) :
          (s.setLoop i { s.loop i with state := .running s.timing.frameRate }).slotCommand ⟨i, k⟩ = s.slotCommand ⟨i, k⟩ := by
        simp only [State.slotCommand, State.bound_setLoop]
        rw [State.setLoop_frame]; rfl
      simp only [State.loop_setLoop_same, words] at begun
      obtain ⟨hloop, hwords, hother, hframe⟩ := begun
      refine ⟨(s.startLoop i).ok (bytesBE 2 s.timing.frameRate ++ byte (s.loop i).slotCount), ?_, hloop, hwords,
        fun j hj => (hother j hj).trans (State.loop_setLoop_ne _ _ _ _ hj), ?_⟩
      · rw [start, takeLoopStart]
        simp only [readLoop_code, LoopRec.isRunning_eq_false.mpr hs, Bool.false_eq_true, if_false]
      · exact congrArg (State.ok · _) (Looped.trans (State.setLoop_frame _ _) hframe)
    · obtain ⟨hloop, hwords, hother, hframe⟩ := s.frameSync_spec i
      refine ⟨s.frameSync i, ?_, hloop, hwords, hother, hframe⟩
      rw [sync, takeFrameSync, if_pos]
      simp [hs, hk]

end Sys2Proof.Machine
end

section
/-! PROOF. The Cellar Timebase and what runs at its events: what the steps of the group, the windows and the applies write, the
settings of the channels, the idle millisecond, and the two phases of an apply. -/

namespace Sys2Proof.Machine
open Sys2Proof.Laws

section
variable {s : State} {l : Line}

/-! ### The steps of the group -/

theorem State.abortDraw_worked : Worked s (s.abortDraw l) := by
  unfold State.abortDraw
  split
  · split
    · exact State.setPour_worked _
    · exact .refl _
  · exact .refl _

theorem State.abortDraws_worked (xs : List GroupLine) : Worked s (s.abortDraws xs) :=
  Worked.foldl (fun _ _ => State.abortDraw_worked) _ _

theorem State.haltGroup_worked (g : Group) : Worked s (s.haltGroup g) := by
  unfold State.haltGroup
  dsimp only
  split
  · exact State.setGroup_worked _
  · exact ((State.abortDraws_worked _).trans (State.reportLoss_sequenced _).worked).trans (State.enterRelease_sequenced _).worked

theorem State.pumpFailed_worked : Worked s s.pumpFailed := by
  unfold State.pumpFailed
  split
  · split
    · exact (State.setAttention_worked _).trans (State.haltGroup_worked _)
    · exact .refl _
  · exact .refl _

theorem State.runTimeout_worked : Worked s s.runTimeout := by
  unfold State.runTimeout
  split
  · split
    · exact (State.abortDraws_worked _).trans (State.endRun_sequenced _).worked
    · exact .refl _
  · exact .refl _

theorem State.finishSoak_worked : Worked s s.finishSoak := by
  unfold State.finishSoak
  split
  · split
    · exact ((State.endHeating_sequenced _).trans (State.startRun_sequenced _ _ _)).worked
    · exact .refl _
  · exact .refl _

theorem State.issueDraw_worked {t : State} {n : Nat} (h : s.issueDraw l n = .ok t) : Worked s t := by
  unfold State.issueDraw at h
  split at h <;> cases h
  exact State.setPour_worked _

theorem State.askDraws_worked (phase : Phase) (run : Nat) (xs : List GroupLine) (s : State) :
    Worked s (State.askDraws phase run s xs).1 := by
  induction xs generalizing s with
  | nil => exact .refl s
  | cons x xs ih =>
    unfold State.askDraws
    split
    · split
      · next h => exact (State.issueDraw_worked h).trans (ih _)
      · exact ih _
      · exact ih _
    · exact ih _

theorem State.meteredStep_worked (g : Group) (n : Nat) : Worked s (s.meteredStep g n) := by
  unfold State.meteredStep
  dsimp only
  split
  · exact (State.setGroup_worked _).trans State.pumpFailed_worked
  · split
    · exact (State.setGroup_worked _).trans State.runTimeout_worked
    · unfold State.stepDraws
      exact ((State.setGroup_worked _).trans (State.askDraws_worked _ _ _ _)).trans (State.settleRun_sequenced _).worked

theorem State.soakStep_worked (g : Group) (n : Nat) : Worked s (s.soakStep g n) := by
  unfold State.soakStep
  dsimp only
  split
  · exact (State.setGroup_worked _).trans State.finishSoak_worked
  · exact (State.decideHeater_sequenced _).worked

theorem State.verifyStep_worked (g : Group) (n : Nat) : Worked s (s.verifyStep g n) := by
  unfold State.verifyStep
  dsimp only
  split
  · exact (State.enterRelease_sequenced _).worked
  · split
    · exact (State.startRun_sequenced _ _ _).worked
    · exact (State.enterRelease_sequenced _).worked

theorem State.cleanStep_worked (n : Nat) : Worked s (s.cleanStep n) := by
  unfold State.cleanStep
  split
  · exact .refl _
  · split
    · exact .refl _
    · exact .refl _
    · exact State.soakStep_worked _ _
    · exact State.verifyStep_worked _ _
    · exact State.meteredStep_worked _ _

/-! ### A window -/

/-- A state with the records that a climate window writes taken from another. -/
def State.windowed (s t : State) : State :=
  { s with
    climate := { s.climate with
      zones := t.climate.zones, boost := t.climate.boost, window := t.climate.window
      chiller := { s.climate.chiller with stage1 := t.climate.chiller.stage1, stage2 := t.climate.chiller.stage2 } }
    valves := { s.valves with groups := t.valves.groups }
    link := { s.link with attention := { s.link.attention with trunkHot := t.link.attention.trunkHot } } }

/-- Nothing changes but what a climate window writes. -/
def Windowed (s t : State) : Prop := t = s.windowed t

theorem Windowed.refl (s : State) : Windowed s s := rfl

theorem Windowed.trans {s t u : State} (h : Windowed s t) (k : Windowed t u) : Windowed s u := by
  have e : t.windowed u = (s.windowed t).windowed u := congrArg (State.windowed · u) h
  exact Eq.trans k e

theorem Windowed.foldl {α : Type} {f : State → α → State} (h : ∀ s x, Windowed s (f s x)) (xs : List α) (s : State) :
    Windowed s (xs.foldl f s) := by
  induction xs generalizing s with
  | nil => exact .refl s
  | cons x xs ih => exact (h s x).trans (ih _)

theorem State.setZone_windowed (t : Trunk) (z : Zone) : Windowed s (s.setZone t z) := rfl
theorem State.raiseTrunk_windowed (t : Trunk) : Windowed s (s.raiseTrunk t) := rfl
theorem State.setBoost_windowed (b : Option Boost) : Windowed s (s.setBoost b) := rfl
theorem State.setWindow_windowed (n : Nat) : Windowed s (s.setWindow n) := rfl
theorem State.countStages_windowed : Windowed s s.countStages := rfl
theorem State.decideStage1_windowed : Windowed s s.decideStage1 := rfl
theorem State.decideStage2_windowed (n : Nat) : Windowed s (s.decideStage2 n) := rfl
theorem State.writeClimate_windowed : Windowed s s.writeClimate := rfl

theorem State.evalGate_windowed (t : Trunk) : Windowed s (s.evalGate t) := by
  unfold State.evalGate
  dsimp only
  split
  · exact (State.setZone_windowed _ _).trans (State.raiseTrunk_windowed _)
  · exact State.setZone_windowed _ _

theorem State.windowDuty_windowed : Windowed s s.windowDuty := by
  unfold State.windowDuty
  split
  · have duties : Windowed s s.fixDuties := Windowed.foldl (f := State.fixDuty) (fun _ t => State.setZone_windowed t _) _ _
    refine duties.trans ?_
    unfold State.countBoost
    split
    next b _ =>
      refine (State.setBoost_windowed (some { b with remaining := b.remaining - 1 })).trans ?_
      unfold State.endBoost
      split
      · split
        · exact State.setBoost_windowed _
        · exact .refl _
      · exact .refl _
    · exact .refl _
  · exact .refl _

theorem State.takeWindow_windowed (n : Nat) : Windowed s (s.takeWindow n) :=
  ((((((State.setWindow_windowed _).trans (Windowed.foldl (fun _ _ => State.evalGate_windowed _) _ _)).trans
    State.windowDuty_windowed).trans State.countStages_windowed).trans State.decideStage1_windowed).trans
    (State.decideStage2_windowed _)).trans State.writeClimate_windowed

/-! ### Applies -/

theorem State.onGroups_frame (gs : List ValveGroup) (f : GroupPatterns → GroupPatterns) (s : State) :
    s.onGroups gs f = { s with valves := { s.valves with groups := (s.onGroups gs f).valves.groups } } := by
  induction gs generalizing s with
  | nil => rfl
  | cons g gs ih => exact ih _

/-- An operation on some groups, each once, writes these groups and no other. -/
theorem State.valve_onGroups (gs : List ValveGroup) (hd : gs.Nodup) (f : GroupPatterns → GroupPatterns) (s : State)
    (g : ValveGroup) : (s.onGroups gs f).valve g = if g ∈ gs then f (s.valve g) else s.valve g := by
  induction gs generalizing s with
  | nil => rfl
  | cons k gs ih =>
    obtain ⟨hk, hd⟩ := List.nodup_cons.mp hd
    have := ih hd (s.setValve k (f (s.valve k)))
    rw [show s.onGroups (k :: gs) f = (s.setValve k (f (s.valve k))).onGroups gs f from rfl, this]
    by_cases e : g = k
    · subst e; simp [hk]
    · simp [e, State.valve_setValve_ne _ _ _ _ e]

theorem channelGroups_nodup (c : Channel) : (channelGroups c).Nodup := by revert c; decide

theorem mem_channelGroups {c : Channel} {g : ValveGroup} :
    g ∈ channelGroups c ↔ (c = 0 ∧ g.val < 16) ∨ (c = 3 ∧ g = 17) := by
  unfold channelGroups
  by_cases h0 : c = 0
  · subst h0; simp
  · by_cases h3 : c = 3 <;> simp [h0, h3]

/-- A shift is asked once: it begins on a free chain with the image, and is wanted on a busy one; nothing else changes. -/
theorem State.askShift_spec (s : State) :
    s.askShift.valves.shifting = (if s.valves.shifting = none then some s.askShift.valves.image else s.valves.shifting) ∧
    s.askShift.valves.wanted = (s.valves.wanted || s.valves.shifting.isSome) ∧
    s.askShift = { s with valves := { s.valves with
      shifting := s.askShift.valves.shifting, wanted := s.askShift.valves.wanted } } := by
  obtain ⟨h, e⟩ | ⟨h, e⟩ := s.askShift_cases
  · rw [e]; simp [h]; rfl
  · rw [e]; simp [h, Option.isSome_iff_ne_none.mpr h]

theorem State.moveTake_group (f : TakeWait → TakeWait) :
    (s.moveTake f).cleaning.group =
      s.cleaning.group.map fun g => if g.phase = .take then { g with takeWait := f g.takeWait } else g := by
  unfold State.moveTake
  split
  next g hg => by_cases h : g.phase = .take <;> simp [hg, h, State.setGroup]
  next hg => simp [hg]

theorem State.moveTake_frame (f : TakeWait → TakeWait) :
    s.moveTake f = { s with cleaning := { s.cleaning with group := (s.moveTake f).cleaning.group } } := by
  unfold State.moveTake
  split
  · split <;> rfl
  · rfl

/-- What an apply writes: the groups, the shift and what TAKE waits for. -/
def State.applied (s t : State) : State :=
  { s with
    valves := { s.valves with groups := t.valves.groups, shifting := t.valves.shifting, wanted := t.valves.wanted }
    cleaning := { s.cleaning with group := t.cleaning.group } }

/-- Nothing changes but what an apply writes. -/
def Applied (s t : State) : Prop := t = s.applied t

theorem Applied.trans {s t u : State} (h : Applied s t) (k : Applied t u) : Applied s u := by
  have e : t.applied u = (s.applied t).applied u := congrArg (State.applied · u) h
  exact Eq.trans k e

theorem State.onGroups_applied (gs : List ValveGroup) (f : GroupPatterns → GroupPatterns) : Applied s (s.onGroups gs f) := by
  unfold Applied
  rw [State.onGroups_frame]; rfl

theorem State.askShift_applied : Applied s s.askShift := by
  unfold Applied
  rw [s.askShift_spec.2.2]; rfl

theorem State.moveTake_applied (f : TakeWait → TakeWait) : Applied s (s.moveTake f) := by
  unfold Applied
  rw [State.moveTake_frame]; rfl

theorem State.applyPhase2_applied (c : Channel) : Applied s (s.applyPhase2 c) := by
  unfold State.applyPhase2
  split
  · exact (State.onGroups_applied _ _).trans State.askShift_applied
  · rfl

/-! ### The channels -/

/-- The channels and the reset line stay as they are. -/
def Steady (s t : State) : Prop := t.timebase.channels = s.timebase.channels ∧ t.resetHeld = s.resetHeld

theorem Steady.trans {s t u : State} (h : Steady s t) (k : Steady t u) : Steady s u := ⟨k.1.trans h.1, k.2.trans h.2⟩

theorem Worked.steady {t : State} (h : Worked s t) : Steady s t := by rw [h]; exact ⟨rfl, rfl⟩
theorem Windowed.steady {t : State} (h : Windowed s t) : Steady s t := by rw [h]; exact ⟨rfl, rfl⟩
theorem Applied.steady {t : State} (h : Applied s t) : Steady s t := by rw [h]; exact ⟨rfl, rfl⟩

theorem State.applyPhase1_applied (c : Channel) : Applied s (s.applyPhase1 c) :=
  (State.onGroups_applied _ _).trans State.askShift_applied

theorem State.periodUsers_steady (c : Channel) : Steady s (s.periodUsers c) := by
  unfold State.periodUsers
  split
  · exact ((State.applyPhase1_applied _).trans (State.moveTake_applied _)).steady
  · split
    · exact (State.takeWindow_windowed _).steady
    · split
      · exact Steady.trans ⟨rfl, rfl⟩ (State.cleanStep_worked _).steady
      · exact (State.applyPhase1_applied _).steady

theorem State.marginUsers_steady (c : Channel) : Steady s (s.marginUsers c) := by
  unfold State.marginUsers
  split
  · split
    · exact ((State.applyPhase2_applied _).trans (State.moveTake_applied _)).steady
    · exact ⟨rfl, rfl⟩
  · split
    · exact (Applied.trans (State.onGroups_applied _ _) State.askShift_applied).steady
    · split
      · exact ⟨rfl, rfl⟩
      · exact (State.applyPhase2_applied _).steady

theorem State.channel_setChannel_ne {c d : Channel} (x : TimeChannel) (h : d ≠ c) : (s.setChannel c x).channel d = s.channel d :=
  look_put_ne _ _ _ _ h

/-- A millisecond of one channel writes no other channel, and does not pull the reset line. -/
theorem State.tickChannel_others (c : Channel) :
    (∀ d, d ≠ c → (s.tickChannel c).channel d = s.channel d) ∧ (s.tickChannel c).resetHeld = s.resetHeld := by
  have go {x : TimeChannel} {t : State} (h : Steady (s.setChannel c x) t) :
      (∀ d, d ≠ c → t.channel d = s.channel d) ∧ t.resetHeld = s.resetHeld :=
    ⟨fun d hd => (congrArg (look · d) h.1).trans (State.channel_setChannel_ne x hd), h.2⟩
  unfold State.tickChannel
  dsimp only
  split
  · exact go (State.periodUsers_steady c)
  · split
    · exact go (State.marginUsers_steady c)
    · exact go ⟨rfl, rfl⟩

theorem State.foldl_tickChannel_others (cs : List Channel) (s : State) :
    (∀ d, d ∉ cs → (cs.foldl State.tickChannel s).channel d = s.channel d) ∧
      (cs.foldl State.tickChannel s).resetHeld = s.resetHeld := by
  induction cs generalizing s with
  | nil => exact ⟨fun _ _ => rfl, rfl⟩
  | cons c cs ih =>
    obtain ⟨hch, hr⟩ := s.tickChannel_others c
    obtain ⟨hchs, hrs⟩ := ih (s.tickChannel c)
    refine ⟨fun d hd => ?_, hrs.trans hr⟩
    obtain ⟨hdc, hds⟩ := not_or.mp (List.mem_cons.not.mp hd)
    exact (hchs d hds).trans (hch d hdc)

/-- The state in which the millisecond has passed for the first `n` channels. -/
def State.ticked (s : State) (n : Fin 5) : State := ((indices 4).take n.val).foldl State.tickChannel s

theorem State.ticked_succ (c : Channel) : s.ticked c.succ = (s.ticked c.castSucc).tickChannel c := by
  have next : (indices 4).take (c.val + 1) = (indices 4).take c.val ++ [c] := by revert c; decide
  simp only [State.ticked, Fin.val_succ, next, List.foldl_append, Fin.val_castSucc]
  rfl

theorem State.ticked_last : s.ticked 4 = (indices 4).foldl State.tickChannel s := rfl

theorem State.channel_ticked (c : Channel) : (s.ticked c.castSucc).channel c = s.channel c := by
  refine (State.foldl_tickChannel_others _ s).1 c ?_
  revert c; decide

theorem State.resetHeld_ticked (n : Fin 5) : (s.ticked n).resetHeld = s.resetHeld := (State.foldl_tickChannel_others _ s).2

theorem State.step_of_idle (h : s.pending = []) (released : s.resetHeld = false) : step s = .next (s.ticked 4).follow := by
  rw [step, h]
  simp only [State.tick, released, Bool.false_eq_true, if_false, State.ticked_last]

theorem State.tickChannel_period {c : Channel} (h : (s.channel c).period ≤ (s.channel c).counter + 1) :
    s.tickChannel c = s.periodEvent c := by
  simp only [State.tickChannel, ge_iff_le, h, if_true]

theorem State.tickChannel_margin {c : Channel} (h : (s.channel c).counter + 1 < (s.channel c).period)
    (hm : (s.channel c).counter + 1 = (s.channel c).margin) : s.tickChannel c = s.marginEvent c := by
  simp only [State.tickChannel, ge_iff_le, hm, if_true]
  rw [← hm]
  simp only [Nat.not_le.mpr h, if_false]

theorem State.tickChannel_counts {c : Channel} (h : (s.channel c).counter + 1 < (s.channel c).period)
    (hm : (s.channel c).counter + 1 ≠ (s.channel c).margin) :
    s.tickChannel c = s.setChannel c { s.channel c with counter := (s.channel c).counter + 1 } := by
  simp only [State.tickChannel, ge_iff_le, Nat.not_le.mpr h, hm, if_false]

end

/-! ### The channels are set -/

/-- The chosen counters restart, and no other changes. -/
theorem State.restartChannels_spec (mask : Byte) (cs : List Channel) (s : State) :
    (∀ c : Channel, (cs.foldl (State.restartChannel mask) s).channel c = { s.channel c with
      counter := if c ∈ cs ∧ mask.getLsbD c.val = true then 0 else (s.channel c).counter }) ∧
    cs.foldl (State.restartChannel mask) s = { s with timebase := { s.timebase with
      channels := (cs.foldl (State.restartChannel mask) s).timebase.channels } } := by
  induction cs generalizing s with
  | nil => exact ⟨fun c => by simp, rfl⟩
  | cons d cs ih =>
    obtain ⟨hch, hframe⟩ := ih (s.restartChannel mask d)
    have first (c : Channel) : (s.restartChannel mask d).channel c = { s.channel c with
        counter := if c = d ∧ mask.getLsbD c.val = true then 0 else (s.channel c).counter } := by
      unfold State.restartChannel
      by_cases hm : mask.getLsbD d.val = true
      · by_cases e : c = d
        · subst e; simp [hm]
        · simp [hm, e, State.channel_setChannel_ne _ e]
      · by_cases e : c = d
        · subst e; simp [hm]
        · simp [hm, e]
    refine ⟨fun c => ?_, ?_⟩
    · rw [List.foldl_cons, hch, first]
      obtain rfl | e := eq_or_ne c d
      · by_cases hm : mask.getLsbD c.val = true <;> simp [hm]
      · simp [e]
    · rw [List.foldl_cons]
      conv_lhs => rw [hframe]
      unfold State.restartChannel
      split <;> rfl

/-- Settles O50: each command by its clamps, and the idle millisecond channel by channel. -/
theorem timebaseIsSetSyncedAndCounts : Obligations.TimebaseIsSetSyncedAndCounts := by
  intro s released
  have set {n p m : Nat} : exec (.timebaseSet n p m) s = .next (takeTimebaseSet n p m s) := State.running_of_released released
  have sync {mask : Byte} : exec (.timebaseSync mask) s = .next (takeTimebaseSync mask s) := State.running_of_released released
  refine ⟨fun n p m hn => ?_, fun c period margin p m hp hm => ?_, fun mask hm => ?_, fun mask hm => ?_,
    State.running_of_released released, fun idle => ⟨s.ticked, rfl, State.step_of_idle idle released, fun c => ?_⟩,
    fun idle hc => ⟨s.ticked 4, State.step_of_idle idle released, ?_⟩⟩
  · have : readChannel n = none := by simp [readChannel]; omega
    rw [set, takeTimebaseSet, this]; rfl
  · have read : readChannel c.val = some c := by simp [readChannel]
    have pend : pendingOf period margin = (p, m) := by simp [pendingOf, clampNat, hp, hm]
    rw [set, takeTimebaseSet, read]
    simp only [pend]; rfl
  · rw [sync, takeTimebaseSync, if_pos hm]; rfl
  · obtain ⟨hch, hframe⟩ := State.restartChannels_spec mask (indices 4) s
    refine ⟨((indices 4).foldl (State.restartChannel mask) s).ok [], ?_, fun c => ?_, ?_⟩
    · rw [sync, takeTimebaseSync, if_neg (Nat.not_lt.mpr hm)]
    · have counter := hch c
      simp only [mem_indices, true_and] at counter
      exact counter
    · conv_lhs => rw [hframe]
      rfl
  · have channel : (s.ticked c.castSucc).channel c = s.channel c := State.channel_ticked c
    have held : (s.ticked c.castSucc).resetHeld = false := (State.resetHeld_ticked _).trans released
    refine ⟨channel, fun hp => ?_, fun hp hm => ?_, fun hp hm => ?_⟩ <;> rw [← channel] at hp
    · have tick := State.ticked_succ (s := s) c
      rw [State.tickChannel_period hp] at tick
      exact ⟨tick, (State.running_of_released held).trans (by rw [tick]; rfl)⟩
    · rw [← channel] at hm
      rw [State.ticked_succ, State.tickChannel_margin hp hm]
      exact State.running_of_released held
    · rw [← channel] at hm
      rw [State.ticked_succ, State.tickChannel_counts hp hm, channel]; rfl
  · have tick (c : Channel) : s.ticked c.succ =
        (s.ticked c.castSucc).setChannel c { s.channel c with counter := (s.channel c).counter + 1 } := by
      have channel : (s.ticked c.castSucc).channel c = s.channel c := State.channel_ticked c
      obtain ⟨hp, hm⟩ := hc c
      rw [← channel] at hp hm
      rw [State.ticked_succ, State.tickChannel_counts hp hm, channel]
    have last : s.ticked 4 = ((((s.setChannel 0 { s.channel 0 with counter := (s.channel 0).counter + 1 }).setChannel 1
        { s.channel 1 with counter := (s.channel 1).counter + 1 }).setChannel 2
        { s.channel 2 with counter := (s.channel 2).counter + 1 }).setChannel 3
        { s.channel 3 with counter := (s.channel 3).counter + 1 }) :=
      (tick 3).trans (congrArg (State.setChannel · _ _) ((tick 2).trans (congrArg (State.setChannel · _ _)
        ((tick 1).trans (congrArg (State.setChannel · _ _) (tick 0))))))
    rw [last]
    refine ⟨fun c => ?_, rfl⟩
    have cases : c = 0 ∨ c = 1 ∨ c = 2 ∨ c = 3 := by revert c; decide
    obtain rfl | rfl | rfl | rfl := cases <;> simp [State.channel, look_put]

/-! ### The two phases -/

section
variable {s : State}

/-- Phase 1 of the groups of a channel. -/
theorem State.applyPhase1_spec (s : State) (c : Channel) :
    (∀ g : ValveGroup, (s.applyPhase1 c).valve g = if (c = 0 ∧ g.val < 16) ∨ (c = 3 ∧ g = 17) then
        ⟨(s.valve g).next, (s.valve g).next, (s.valve g).current &&& (s.valve g).next, true⟩ else s.valve g) ∧
    (s.applyPhase1 c).valves.shifting =
      (if s.valves.shifting = none then some (s.applyPhase1 c).valves.image else s.valves.shifting) ∧
    (s.applyPhase1 c).valves.wanted = (s.valves.wanted || s.valves.shifting.isSome) ∧
    s.applyPhase1 c = { s with valves := { s.valves with
      groups := (s.applyPhase1 c).valves.groups, shifting := (s.applyPhase1 c).valves.shifting
      wanted := (s.applyPhase1 c).valves.wanted } } := by
  have groups := State.valve_onGroups _ (channelGroups_nodup c) GroupPatterns.phase1 s
  have written := State.onGroups_frame (channelGroups c) GroupPatterns.phase1 s
  unfold State.applyPhase1
  generalize s.onGroups (channelGroups c) GroupPatterns.phase1 = t at groups written ⊢
  obtain ⟨hs, hw, hf⟩ := t.askShift_spec
  have ts : t.valves.shifting = s.valves.shifting := by rw [written]
  have tw : t.valves.wanted = s.valves.wanted := by rw [written]
  rw [ts] at hs hw
  rw [tw] at hw
  refine ⟨fun g => ?_, hs, hw, ?_⟩
  · refine (congrArg (State.valve · g) hf).trans ((groups g).trans ?_)
    simp only [mem_channelGroups]; rfl
  · rw [hf, written]

/-- Phase 2 of the groups of a channel. -/
theorem State.applyPhase2_spec (s : State) (c : Channel) :
    (∀ g : ValveGroup, (s.applyPhase2 c).valve g =
      if ((c = 0 ∧ g.val < 16) ∨ (c = 3 ∧ g = 17)) ∧ (s.valve g).turnOn = true then
        { s.valve g with current := (s.valve g).current ||| (s.valve g).snapshot, turnOn := false } else s.valve g) ∧
    (s.applyPhase2 c).valves.shifting = (if s.anyTurnOn c = true ∧ s.valves.shifting = none then
      some (s.applyPhase2 c).valves.image else s.valves.shifting) ∧
    (s.applyPhase2 c).valves.wanted = (s.valves.wanted || (s.anyTurnOn c && s.valves.shifting.isSome)) ∧
    s.applyPhase2 c = { s with valves := { s.valves with
      groups := (s.applyPhase2 c).valves.groups, shifting := (s.applyPhase2 c).valves.shifting
      wanted := (s.applyPhase2 c).valves.wanted } } := by
  cases hp : s.anyTurnOn c with
  | false =>
    have off (g : ValveGroup) (hg : (c = 0 ∧ g.val < 16) ∨ (c = 3 ∧ g = 17)) : (s.valve g).turnOn = false := by
      have := List.any_eq_false.mp hp g (mem_channelGroups.mpr hg)
      simpa using this
    have same : s.applyPhase2 c = s := by simp [State.applyPhase2, hp]
    rw [same]
    refine ⟨fun g => ?_, by simp, by simp, rfl⟩
    rw [if_neg]
    rintro ⟨hg, ht⟩
    exact Bool.false_ne_true ((off g hg).symm.trans ht)
  | true =>
    have groups := State.valve_onGroups _ (channelGroups_nodup c) GroupPatterns.phase2 s
    have written := State.onGroups_frame (channelGroups c) GroupPatterns.phase2 s
    have opened : s.applyPhase2 c = (s.onGroups (channelGroups c) GroupPatterns.phase2).askShift := by
      simp [State.applyPhase2, hp]
    rw [opened]
    generalize s.onGroups (channelGroups c) GroupPatterns.phase2 = t at groups written ⊢
    obtain ⟨hs, hw, hf⟩ := t.askShift_spec
    have ts : t.valves.shifting = s.valves.shifting := by rw [written]
    have tw : t.valves.wanted = s.valves.wanted := by rw [written]
    rw [ts] at hs hw
    rw [tw] at hw
    refine ⟨fun g => ?_, by simpa using hs, by simpa using hw, ?_⟩
    · refine (congrArg (State.valve · g) hf).trans ((groups g).trans ?_)
      simp only [mem_channelGroups, GroupPatterns.phase2]
      by_cases hg : (c = 0 ∧ g.val < 16) ∨ (c = 3 ∧ g = 17) <;> by_cases ht : (s.valve g).turnOn = true <;> simp [hg, ht]
    · rw [hf, written]

theorem State.anyTurnOn_iff {c : Channel} :
    s.anyTurnOn c = true ↔ ∃ g : ValveGroup, ((c = 0 ∧ g.val < 16) ∨ (c = 3 ∧ g = 17)) ∧ (s.valve g).turnOn = true := by
  simp only [State.anyTurnOn, List.any_eq_true, mem_channelGroups]

theorem State.moveTake_id (s : State) : s.moveTake id = s := by
  unfold State.moveTake
  split
  next g hg =>
    split
    · simp only [State.setGroup, id_eq, ← hg]
    · rfl
  next => rfl

theorem State.periodUsers_of_apply {c : Channel} (hc : c = 0 ∨ c = 3) :
    s.periodUsers c = (s.applyPhase1 c).moveTake (if c = 0 then TakeWait.atPeriod else id) := by
  obtain rfl | rfl := hc
  · rfl
  · exact (State.moveTake_id _).symm

theorem State.marginUsers_of_apply {c : Channel} (hc : c = 0 ∨ c = 3) :
    s.marginUsers c = (s.applyPhase2 c).moveTake
      (if c = 0 ∧ s.anyTurnOn c = true then TakeWait.atMargin s.valves.shifting.isSome else id) := by
  obtain rfl | rfl := hc
  · by_cases hp : s.anyTurnOn 0 = true
    · simp [State.marginUsers, hp]
    · simp [State.marginUsers, State.applyPhase2, hp, State.moveTake_id]
  · exact (State.moveTake_id _).symm

theorem TakeWait.atPeriod_eq (w : TakeWait) : w.atPeriod = if w = .period then .margin else w := by cases w <;> rfl

theorem TakeWait.atMargin_eq (b : Bool) (w : TakeWait) :
    w.atMargin b = if w = .margin then (if b then .nextShift else .thisShift) else w := by cases w <;> rfl

end

/-- Settles O51: the apply of each phase, behind the restart of the channel and before what TAKE waits for moves on. -/
theorem appliesRunInTwoPhases : Obligations.AppliesRunInTwoPhases := by
  intro s c released
  have margin {c : Channel} : exec (.timebaseMarginEvent c) s = .next (s.marginEvent c) := State.running_of_released released
  refine ⟨fun hc => ⟨?_, fun pending hp => ?_⟩, ?_, margin⟩
  · obtain ⟨groups, shifting, wanted, frame⟩ := (s.setChannel c (s.channel c).atPeriod).applyPhase1_spec c
    refine ⟨s.periodEvent c, State.running_of_released released, ?_⟩
    rw [State.periodEvent, State.periodUsers_of_apply hc]
    generalize (s.setChannel c (s.channel c).atPeriod).applyPhase1 c = t at *
    have moved := t.moveTake_frame (if c = 0 then TakeWait.atPeriod else id)
    have take := t.moveTake_group (if c = 0 then TakeWait.atPeriod else id)
    generalize t.moveTake (if c = 0 then TakeWait.atPeriod else id) = u at *
    have whole := moved
    rw [frame] at whole
    refine ⟨?_, ?_, fun g => ?_, ?_, ?_, ?_, ?_⟩
    · rw [whole]; exact State.channel_setChannel_same _ _ _
    · rw [whole]; exact sameBut_put _ _ _
    · rw [moved]; exact groups g
    · rw [moved]; exact shifting
    · rw [moved]; exact wanted
    · rw [take, show t.cleaning.group = s.cleaning.group by rw [frame]; rfl]
      refine congrArg (Option.map · _) (funext fun g => ?_)
      obtain ⟨_, _, phase, _, _, _, _, _, _, _, wait⟩ := g
      by_cases h0 : c = 0 <;> by_cases ht : phase = .take <;> by_cases hw : wait = .period <;>
        simp [h0, ht, hw, TakeWait.atPeriod_eq]
    · rw [whole]; rfl
  · obtain ⟨groups, shifting, wanted, frame⟩ :=
      (s.setChannel c { s.channel c with counter := (s.channel c).margin }).applyPhase2_spec c
    have any : (s.setChannel c { s.channel c with counter := (s.channel c).margin }).anyTurnOn c = pending := by
      rw [Bool.eq_iff_iff, hp]; exact State.anyTurnOn_iff
    rw [any] at shifting wanted
    refine ⟨s.marginEvent c, margin, ?_⟩
    rw [State.marginEvent, State.marginUsers_of_apply hc, any]
    generalize (s.setChannel c { s.channel c with counter := (s.channel c).margin }).applyPhase2 c = t at *
    rw [show (s.setChannel c { s.channel c with counter := (s.channel c).margin }).valves.shifting = s.valves.shifting from rfl]
    generalize hf : (if c = 0 ∧ pending = true then TakeWait.atMargin s.valves.shifting.isSome else id) = f
    have moved := t.moveTake_frame f
    have take := t.moveTake_group f
    generalize t.moveTake f = u at *
    have whole := moved
    rw [frame] at whole
    refine ⟨?_, ?_, fun g => ?_, ?_, ?_, ?_, ?_⟩
    · rw [whole]; exact State.channel_setChannel_same _ _ _
    · rw [whole]; exact sameBut_put _ _ _
    · rw [moved]; exact groups g
    · rw [moved]; exact shifting
    · rw [moved]; exact wanted
    · rw [take, show t.cleaning.group = s.cleaning.group by rw [frame]; rfl, ← hf]
      refine congrArg (Option.map · _) (funext fun g => ?_)
      obtain ⟨_, _, phase, _, _, _, _, _, _, _, wait⟩ := g
      by_cases h0 : c = 0 ∧ pending = true
      · by_cases ht : phase = .take <;> by_cases hw : wait = .margin <;> cases hs : s.valves.shifting <;>
          simp [h0, ht, hw, TakeWait.atMargin_eq]
      · have : ¬ (c = 0 ∧ pending = true ∧ phase = .take ∧ wait = .margin) := fun h => h0 ⟨h.1, h.2.1⟩
        simp [h0, this]
    · rw [whole]; rfl
  · have groups := State.valve_onGroups [16] (by decide) GroupPatterns.direct
      (s.setChannel 1 { s.channel 1 with counter := (s.channel 1).margin })
    have written := State.onGroups_frame [16] GroupPatterns.direct
      (s.setChannel 1 { s.channel 1 with counter := (s.channel 1).margin })
    refine ⟨s.marginEvent 1, margin, ?_⟩
    rw [State.marginEvent, show ∀ t : State, t.marginUsers 1 = (t.onGroups [16] GroupPatterns.direct).askShift from fun _ => rfl]
    generalize (s.setChannel 1 { s.channel 1 with counter := (s.channel 1).margin }).onGroups [16] GroupPatterns.direct = t at *
    obtain ⟨hs, hw, hf⟩ := t.askShift_spec
    have ts : t.valves.shifting = s.valves.shifting := by rw [written]; rfl
    have tw : t.valves.wanted = s.valves.wanted := by rw [written]; rfl
    rw [ts] at hs hw
    rw [tw] at hw
    generalize t.askShift = u at *
    have valve (g : ValveGroup) : u.valve g = if g ∈ [16] then (s.valve g).direct else s.valve g :=
      (congrArg (State.valve · g) hf).trans (groups g)
    refine ⟨valve 16, fun g hg => (valve g).trans (if_neg (by simpa using hg)), hs, hw, ?_⟩
    rw [hf, written]; rfl

end Sys2Proof.Machine
end

section
/-! PROOF. The keg commands: the changeover of a keg that leaves ON_TAP, KEG_CONFIRM, KEG_RETIRE, and the Coupler Read Queue. -/

namespace Sys2Proof.Machine
open Sys2Proof.Laws

section
variable {s t u : State} {l : Line} {p : Position}

/-! ### The changeover (R84) -/

theorem KegSlots.at_set (k : KegSlots) (p q : Position) (r : Option KegRec) : (k.set p r).at q = if q = p then r else k.at q := by
  cases p <;> cases q <;> rfl

theorem State.changeoverTarget_eq : s.changeoverTarget l p = if s.changesOver l p = true then some p.other else none := rfl

/-- What a changeover is asked of depends on the line records, the keg across, the next patterns and the fault alone. -/
theorem ChangedOver.congr {s' t' : State} (h : ChangedOver s t l p) (hl : s'.lineTable.lines = s.lineTable.lines)
    (hk : s'.keg l p.other = s.keg l p.other) (hv : s'.valves = s.valves) (tl : t'.lineTable.lines = t.lineTable.lines)
    (tk : t'.keg l p.other = t.keg l p.other) (tv : t'.valves = t.valves) : ChangedOver s' t' l p := by
  have changes : s'.changesOver l p = s.changesOver l p := by simp only [State.changesOver, State.eligible, hk, hv]
  have sline : s'.line l = s.line l := congrArg (look · l) hl
  have tline : t'.line l = t.line l := congrArg (look · l) tl
  have svalve (g : ValveGroup) : s'.valve g = s.valve g := congrArg (fun v : Valves => look v.groups g) hv
  have tvalve (g : ValveGroup) : t'.valve g = t.valve g := congrArg (fun v : Valves => look v.groups g) tv
  unfold ChangedOver at h ⊢
  unfold AskedLine AskedSelectors AskedPair at h ⊢
  simp only [SameBut, hl, tl, changes, sline, tline, svalve, tvalve, hk, tk] at h ⊢
  exact h

/-- What the changeover leaves of the rest: the keg that left, the other lines' kegs and the enrol outcome; attention, where the line
goes DRY. -/
structure Overed (s t : State) (l : Line) (p : Position) : Prop where
  changed : ChangedOver s t l p
  left : t.keg l p = s.keg l p
  kegs : SameBut s.kegRegister.kegs t.kegRegister.kegs l
  enrol : (t.kegSlots l).lastEnrol = (s.kegSlots l).lastEnrol
  frame : t = { s with
    lineTable := { s.lineTable with lines := t.lineTable.lines }
    kegRegister := { s.kegRegister with kegs := t.kegRegister.kegs }
    valves := { s.valves with groups := t.valves.groups }
    link := { s.link with
      attention := if s.changesOver l p = true then s.link.attention else s.link.attention.raiseLine .lineDry l } }

theorem LineRec.mode_of_under {r : LineRec} (h : r.under = .ready ∨ r.under = .priming) :
    r.mode = .ready ∨ r.mode = .priming ∨ r.mode = .held ∧ (r.heldFrom = some .ready ∨ r.heldFrom = some .priming) := by
  unfold LineRec.under at h
  split at h
  next m hm hf => exact .inr (.inr ⟨hm, by rwa [hf, Option.some.injEq, Option.some.injEq]⟩)
  next => tauto

/-- The record of a line whose keg left ON_TAP without a changeover. -/
def LineRec.dried (r : LineRec) : LineRec :=
  if r.mode = .held then { r with heldFrom := some .dry, primed := none } else { r with mode := .dry, primed := none }

theorem State.kegReport_dry (h : (s.line l).under = .ready ∨ (s.line l).under = .priming) :
    s.kegReport l none = (s.changeLine l (s.line l).dried).raise .lineDry l := by
  obtain hm | hm | ⟨hm, hf⟩ := LineRec.mode_of_under h
  · simp [State.kegReport, LineRec.dried, hm]
  · simp [State.kegReport, LineRec.dried, hm]
  · simp [State.kegReport, LineRec.dried, hm, hf]

theorem State.kegReport_over (q : Position) (h : (s.line l).under = .ready ∨ (s.line l).under = .priming) :
    s.kegReport l (some q) = s.setLine l { s.line l with lastKeg := some q } := by
  obtain hm | hm | ⟨hm, -⟩ := LineRec.mode_of_under h <;> simp [State.kegReport, hm]

theorem LineRec.dried_asks (r : LineRec) (h : r.under = .ready ∨ r.under = .priming) :
    r.dried.mode ≠ .cleaning ∧ r.dried.productOpen = true := by
  obtain hm | hm | ⟨hm, -⟩ := LineRec.mode_of_under h <;> simp [LineRec.dried, hm, LineRec.productOpen, Mode.productOpen]

/-- A keg leaves ON_TAP on a line in PRIMING or READY, or HELD from one: its selector is asked closed and the line changes over. -/
theorem State.changeover_spec (s : State) (l : Line) (p : Position) (hu : (s.line l).under = .ready ∨ (s.line l).under = .priming) :
    Overed s ((s.askSelector l p false).changeover l p) l p := by
  have off := State.askSelector_off s l p
  have others (g : ValveGroup) : g ≠ selectorGroup l → (s.askSelector l p false).valve g = s.valve g := State.askSelector_valve_ne p false
  have target : (s.askSelector l p false).changeoverTarget l p = if s.changesOver l p = true then some p.other else none := rfl
  unfold State.changeover
  by_cases hc : s.changesOver l p = true
  · obtain ⟨k, hk, -⟩ := State.keg_of_eligible (show s.eligible l p.other = true by simp_all [State.changesOver])
    have kegs := State.setKegState_kegs (s := s.askSelector l p false) hk .onTap
    have frame := State.setKegState_frame (s := s.askSelector l p false) (l := l) p.other .onTap
    rw [target, if_pos hc]
    dsimp only
    generalize (s.askSelector l p false).setKegState l p.other .onTap = v at *
    have on := State.askSelector_on v l p.other
    have vv (g : ValveGroup) : v.valve g = (s.askSelector l p false).valve g := by rw [frame]; rfl
    have vl : (v.askSelector l p.other true).line l = s.line l := by rw [frame]; rfl
    rw [State.kegReport_over _ (by rw [vl]; exact hu), vl]
    have slots : ((v.askSelector l p.other true).setLine l { s.line l with lastKeg := some p.other }).kegSlots l =
        (s.kegSlots l).set p.other ((s.keg l p.other).map fun k => { k with state := .onTap }) :=
      (congrArg (look · l) kegs).trans (look_put_same _ _ _)
    have keg (q : Position) : ((v.askSelector l p.other true).setLine l { s.line l with lastKeg := some p.other }).keg l q =
        if q = p.other then (s.keg l p.other).map (fun k => { k with state := .onTap }) else s.keg l q := by
      rw [State.keg, slots, KegSlots.at_set]; rfl
    refine ⟨⟨?_, fun g h1 h2 => ?_, ?_⟩, ?_, ?_, ?_, ?_⟩
    · rw [State.setLine_lineTable]
      intro m hm
      refine (look_put_ne _ _ _ _ hm).trans ?_
      rw [frame]; rfl
    · exact (State.askSelector_valve_ne _ _ h2).trans ((vv g).trans (others g h2))
    · rw [if_pos hc]
      refine ⟨(keg _).trans (if_pos rfl), State.line_setLine_same _ _ _, ?_, ?_⟩
      · exact (State.askSelector_valve_ne _ _ (selectorGroup_ne l l).symm).trans ((vv _).trans (others _ (selectorGroup_ne l l).symm))
      · have both := AskedPair.trans off (AskedPair.congr on (vv _).symm rfl)
        cases p <;> exact both
    · exact (keg p).trans (if_neg (Position.other_ne p).symm)
    · show SameBut s.kegRegister.kegs v.kegRegister.kegs l
      rw [kegs]; exact sameBut_put _ _ _
    · rw [slots]; cases p <;> rfl
    · have kegged : Kegged (s.askSelector l p false) v := by rw [Kegged, frame]; rfl
      rw [if_pos hc]
      exact (Kegged.trans (State.askSelector_kegged _ _) kegged).trans
        ((State.askSelector_kegged p.other true).trans (State.setLine_kegged _))
  · rw [target, if_neg hc]
    dsimp only
    rw [State.kegReport_dry (by exact hu)]
    obtain ⟨hclean, hopen⟩ := LineRec.dried_asks _ hu
    have asked := State.changeLine_asked (s.askSelector l p false) l (s.line l).dried
    have line := State.changeLine_line (s := s.askSelector l p false) (l := l) (s.line l).dried
    have lines := State.changeLine_lines (s := s.askSelector l p false) (l := l) (s.line l).dried
    have valve {g : ValveGroup} := State.changeLine_valve_ne (s := s.askSelector l p false) (l := l) (g := g) (s.line l).dried
    have frame := State.changeLine_frame (s := s.askSelector l p false) (l := l) (s.line l).dried
    rw [if_neg hclean, hopen, beq_eq_false_iff_ne.mpr hclean] at asked
    rw [show (s.askSelector l p false).line l = s.line l from rfl]
    generalize (s.askSelector l p false).changeLine l (s.line l).dried = v at *
    refine ⟨⟨?_, fun g h1 h2 => (valve h1).trans (others g h2), ?_⟩, ?_, ?_, ?_, ?_⟩
    · show SameBut s.lineTable.lines v.lineTable.lines l
      rw [lines]; exact sameBut_put _ _ _
    · rw [if_neg hc]
      refine ⟨by rw [frame]; rfl, (line l).trans (if_pos rfl), ?_, ?_⟩
      · exact AskedPair.congr asked (others _ (selectorGroup_ne l l).symm).symm rfl
      · exact AskedPair.congr off rfl (valve (selectorGroup_ne l l))
    · rw [frame]; rfl
    · rw [frame]; exact fun _ _ => rfl
    · rw [frame]; rfl
    · have kegged : Kegged (s.askSelector l p false) v := by rw [Kegged, frame]; rfl
      rw [if_neg hc]
      exact congrArg (State.raise · .lineDry l) (Kegged.trans (State.askSelector_kegged _ _) kegged)

/-- The spent decision of the keg ON_TAP: the keg is SPENT, and its line changes over (R84). -/
theorem State.spend_spec {k : KegRec} (hk : s.keg l p = some k) (hu : (s.line l).under = .ready ∨ (s.line l).under = .priming) :
    (s.spend l p).keg l p = some { k with state := .spent } ∧ SameBut s.kegRegister.kegs (s.spend l p).kegRegister.kegs l ∧
    ((s.spend l p).kegSlots l).lastEnrol = (s.kegSlots l).lastEnrol ∧ ChangedOver s (s.spend l p) l p ∧
    s.spend l p = { s with
      lineTable := { s.lineTable with lines := (s.spend l p).lineTable.lines }
      kegRegister := { s.kegRegister with kegs := (s.spend l p).kegRegister.kegs }
      valves := { s.valves with groups := (s.spend l p).valves.groups }
      link := { s.link with
        attention := if s.changesOver l p = true then s.link.attention.raiseLine .kegSpent l
          else (s.link.attention.raiseLine .kegSpent l).raiseLine .lineDry l } } := by
  have spent : s.setKegState l p .spent = s.setKeg l p (some { k with state := .spent }) := by rw [State.setKegState, hk]
  have across : (s.setKeg l p (some { k with state := .spent })).keg l p.other = s.keg l p.other :=
    State.keg_setKeg_ne _ _ _ _ _ _ (.inr (Position.other_ne p))
  obtain ⟨changed, left, kegs, enrol, frame⟩ :=
    ((s.setKeg l p (some { k with state := .spent })).raise .kegSpent l).changeover_spec l p hu
  have changes : ((s.setKeg l p (some { k with state := .spent })).raise .kegSpent l).changesOver l p = s.changesOver l p := by
    show ((s.setKeg l p (some { k with state := .spent })).eligible l p.other && _) = _
    rw [State.eligible, across]; rfl
  rw [changes] at frame
  rw [State.spend, spent]
  rw [show ((s.setKeg l p (some { k with state := .spent })).askSelector l p false).raise .kegSpent l =
    ((s.setKeg l p (some { k with state := .spent })).raise .kegSpent l).askSelector l p false from rfl]
  generalize (((s.setKeg l p (some { k with state := .spent })).raise .kegSpent l).askSelector l p false).changeover l p = w at *
  refine ⟨left.trans (State.keg_setKeg_same _ _ _ _), fun m hm => (kegs m hm).trans (look_put_ne _ _ _ _ hm), enrol.trans ?_,
    ChangedOver.congr changed rfl across.symm rfl rfl rfl rfl, ?_⟩
  · show ((s.setKeg l p (some { k with state := .spent })).kegSlots l).lastEnrol = _
    rw [State.setKeg, State.setKegSlots, State.kegSlots, look_put_same]
    cases p <;> rfl
  · exact frame

theorem State.slots_setKeg (r : Option KegRec) : (s.setKeg l p r).kegSlots l = (s.kegSlots l).set p r := look_put_same _ _ _

end

/-! ### What a keg command and a tag read write -/

/-- A state with line records, the Keg Register, valve groups and attention taken from another. -/
def State.turned (s t : State) : State :=
  { s with
    lineTable := { s.lineTable with lines := t.lineTable.lines }
    kegRegister := t.kegRegister
    valves := { s.valves with groups := t.valves.groups }
    link := { s.link with attention := t.link.attention } }

/-- Nothing changes but line records, the Keg Register, valve groups and attention. -/
def Turned (s t : State) : Prop := t = s.turned t

theorem Turned.trans {s t u : State} (h : Turned s t) (k : Turned t u) : Turned s u := by
  have e : t.turned u = (s.turned t).turned u := congrArg (State.turned · u) h
  exact Eq.trans k e

theorem Turned.frame {s t : State} (h : Turned s t) {a : Attention} (ha : t.link.attention = a) :
    t = { s with
      lineTable := { s.lineTable with lines := t.lineTable.lines }
      kegRegister := t.kegRegister
      valves := { s.valves with groups := t.valves.groups }
      link := { s.link with attention := a } } := by
  subst ha
  exact h

theorem State.setKeg_turned {s : State} (l : Line) (p : Position) (k : Option KegRec) : Turned s (s.setKeg l p k) := rfl
theorem State.setLastEnrol_turned {s : State} (l : Line) (o : Option LastEnrol) : Turned s (s.setLastEnrol l o) := rfl

theorem Overed.turned {s t : State} {l : Line} {p : Position} (h : Overed s t l p) : Turned s t := by
  rw [Turned, h.frame]; rfl

theorem Overed.attention {s t : State} {l : Line} {p : Position} (h : Overed s t l p) :
    t.link.attention = if s.changesOver l p = true then s.link.attention else s.link.attention.raiseLine .lineDry l := by
  rw [h.frame]

/-! ### KEG_CONFIRM -/

/-- Settles O27: the verdict and the state of the keg in turn. -/
theorem kegConfirmActsOnTheVerdict : Obligations.KegConfirmActsOnTheVerdict := by
  intro s l p k released hk
  have run {v : Nat} : exec (.kegConfirm l.val (positionCode p) v) s = .next (takeKegConfirm l.val (positionCode p) v s) :=
    State.running_of_released released
  have judged {v : Nat} (hv : v ≤ 1) : takeKegConfirm l.val (positionCode p) v s =
      if k.state = .verifying ∨ k.state = .spent then s.refuse .wrongState
      else if v = 0 then s.confirmEmpty l p k
      else (s.setKeg l p (some { k with suspect := false })).ok (byte k.state.code) := by
    rw [takeKegConfirm, readPlace_val]
    simp only [Nat.not_lt.mpr hv, if_false, hk]
  refine ⟨fun hs v hv => ?_, fun hs => ?_, fun hs => ?_, fun hs hp => ?_, fun hs hp hu => ?_⟩ <;>
    rw [run, judged (by omega)]
  · rw [if_pos hs]; rfl
  · have : ¬(k.state = .verifying ∨ k.state = .spent) := by obtain h | h := hs <;> simp [h]
    rw [if_neg this, if_neg (by omega)]; rfl
  · simp only [hs, reduceCtorEq, or_self, if_false, if_true, State.confirmEmpty]; rfl
  · simp only [hs, reduceCtorEq, or_self, if_false, if_true, State.confirmEmpty, State.pourIdle, beq_eq_false_iff_ne.mpr hp,
      Bool.false_eq_true]
    rfl
  · obtain ⟨spent, kegs, enrol, changed, frame⟩ := State.spend_spec hk hu
    have idle : s.pourIdle l = true := State.pourIdle_iff.mpr hp
    have answer : optNat 1 ((s.changeoverTarget l p).map positionCode) =
        if s.changesOver l p = true then byte 1 ++ byte (positionCode p.other) else byte 0 ++ byte 0 := by
      rw [State.changeoverTarget_eq]
      split <;> rfl
    simp only [hs, reduceCtorEq, or_self, if_false, if_true, State.confirmEmpty, idle, answer]
    generalize s.spend l p = u at *
    refine ⟨_, rfl, spent, kegs, enrol, ChangedOver.congr changed rfl rfl rfl rfl rfl rfl, ?_⟩
    exact congrArg (State.ok · _) frame

/-! ### KEG_RETIRE -/

section
variable {s : State} {l : Line} {p : Position}

/-- The read entry of a retired position. -/
theorem State.withdrawRead_spec (s : State) (l : Line) (p : Position) :
    (s.readInProgress l p = true → (s.withdrawRead l p).kegRegister.queue = s.kegRegister.queue ∧
      (s.withdrawRead l p).kegRegister.bus = s.kegRegister.bus.map fun t => { t with discard := true }) ∧
    (s.readInProgress l p = false → (s.withdrawRead l p).kegRegister.bus = s.kegRegister.bus ∧
      (s.withdrawRead l p).kegRegister.queue = s.kegRegister.queue.filter fun e => !(e.line == l && e.position == p)) := by
  refine ⟨fun h => ?_, fun h => ?_⟩ <;> rw [State.withdrawRead, h]
  · cases hb : s.kegRegister.bus with
    | none => simp [State.readInProgress, hb] at h
    | some t => exact ⟨rfl, by simp⟩
  · exact ⟨rfl, rfl⟩

end

/-- Settles O28: the read entry, then the state of the keg, then the record itself. -/
theorem kegRetireRemovesTheRecord : Obligations.KegRetireRemovesTheRecord := by
  intro s l p k released hk
  have run : exec (.kegRetire l.val (positionCode p)) s = .next (takeKegRetire l.val (positionCode p) s) :=
    State.running_of_released released
  refine ⟨fun hs hp => ?_, fun hs => ?_⟩
  · have busy : s.pourIdle l = false := beq_eq_false_iff_ne.mpr hp
    rw [run, takeKegRetire, readPlace_val]
    simp only [hk, hs, busy, and_self, if_true]; rfl
  · have free : ¬(k.state = .onTap ∧ s.pourIdle l = false) := fun h => by
      rw [State.pourIdle_iff.mpr (hs h.1).1] at h
      exact nomatch h.2
    obtain ⟨marked, deleted⟩ := s.withdrawRead_spec l p
    have read := State.withdrawRead_frame (s := s) (l := l) p
    refine ⟨((s.retireKeg l p k).setKeg l p none).ok k.retirePayload, ?_, State.keg_setKeg_same _ _ _ _, ?_⟩
    · rw [run, takeKegRetire, readPlace_val]
      simp only [hk, free, if_false]
    rw [State.retireKeg]
    dsimp only
    have kegs : (s.withdrawRead l p).kegRegister.kegs = s.kegRegister.kegs := by rw [read]
    have turned : Turned s (s.withdrawRead l p) := by rw [Turned, read]; rfl
    have quiet : (s.withdrawRead l p).link.attention = s.link.attention := by rw [read]
    generalize s.withdrawRead l p = w at *
    unfold KegRec.retirePayload KegRec.remaining
    have slots (v : State) (bs : List Byte) : ((v.setKeg l p none).ok bs).kegSlots l = (v.kegSlots l).set p none := look_put_same _ _ _
    have removed (v : State) (bs : List Byte) : (((v.setKeg l p none).ok bs).kegSlots l).lastEnrol = (v.kegSlots l).lastEnrol := by
      rw [slots]; cases p <;> rfl
    have others (v : State) (bs : List Byte) : ((v.setKeg l p none).ok bs).keg l p.other = v.keg l p.other := by
      rw [State.keg, slots, KegSlots.at_set, if_neg (Position.other_ne p)]; rfl
    have same (v : State) (bs : List Byte) (hv : SameBut s.kegRegister.kegs v.kegRegister.kegs l) :
        SameBut s.kegRegister.kegs ((v.setKeg l p none).ok bs).kegRegister.kegs l :=
      fun m hm => (look_put_ne _ _ _ _ hm).trans (hv m hm)
    have wslots : w.kegSlots l = s.kegSlots l := congrArg (look · l) kegs
    cases hst : k.state with
    | verifying =>
      have enrolled : (w.setLastEnrol l (some ⟨p, k.tag, .withdrawn, none⟩)).kegSlots l =
          { s.kegSlots l with lastEnrol := some ⟨p, k.tag, .withdrawn, none⟩ } := (look_put_same _ _ _).trans (by rw [wslots])
      refine ⟨same _ _ fun m hm => ?_, (removed _ _).trans ?_, marked, deleted, nofun, fun _ => ⟨(others _ _).trans ?_, by rw [read]; rfl,
        by rw [read]; rfl⟩, ?_⟩
      · exact (look_put_ne _ _ _ _ hm).trans (congrArg (look · m) kegs)
      · rw [if_pos rfl, enrolled]
      · rw [State.keg, enrolled]; cases p <;> rfl
      · rw [if_neg (by simp)]
        exact congrArg (State.ok · _) (((turned.trans (State.setLastEnrol_turned _ _)).trans (State.setKeg_turned _ _ _)).frame quiet)
    | standby | spent =>
      refine ⟨same _ _ fun m hm => congrArg (look · m) kegs, (removed _ _).trans (congrArg _ wslots), marked, deleted, nofun,
        fun _ => ⟨(others _ _).trans (congrArg (KegSlots.at · _) wslots), by rw [read]; rfl, by rw [read]; rfl⟩, ?_⟩
      rw [if_neg (by simp)]
      exact congrArg (State.ok · _) ((turned.trans (State.setKeg_turned _ _ _)).frame quiet)
    | onTap =>
      have wline : w.line l = s.line l := by rw [read]; rfl
      have wkeg (q : Position) : w.keg l q = s.keg l q := congrArg (KegSlots.at · q) wslots
      have changes : w.changesOver l p = s.changesOver l p := by
        rw [State.changesOver, State.eligible, wkeg, read]; rfl
      have changed := State.changeover_spec w l p (by rw [wline]; exact (hs hst).2)
      have queue : ((w.askSelector l p false).changeover l p).kegRegister.queue = w.kegRegister.queue ∧
          ((w.askSelector l p false).changeover l p).kegRegister.bus = w.kegRegister.bus := by rw [changed.frame]; exact ⟨rfl, rfl⟩
      generalize (w.askSelector l p false).changeover l p = v at *
      obtain ⟨hqueue, hbus⟩ := queue
      refine ⟨same _ _ fun m hm => (changed.kegs m hm).trans (congrArg (look · m) kegs), ?_, fun h => ?_, fun h => ?_, fun _ => ?_, nofun, ?_⟩
      · exact ((removed _ _).trans changed.enrol).trans (congrArg _ wslots)
      · exact ⟨hqueue.trans (marked h).1, hbus.trans (marked h).2⟩
      · exact ⟨hbus.trans (deleted h).1, hqueue.trans (deleted h).2⟩
      · exact ChangedOver.congr changed.changed (by rw [read]) (wkeg _).symm (by rw [read]) rfl (others v _) rfl
      · refine congrArg (State.ok · _) (((turned.trans changed.turned).trans (State.setKeg_turned _ _ _)).frame (a := _) ?_)
        refine changed.attention.trans ?_
        rw [changes, quiet]
        cases hc : s.changesOver l p <;> simp

end Sys2Proof.Machine
end

section
/-! PROOF. The Coupler Read Queue and the tag read: entries queued, reads tried again, and the outcome of a read applied. -/

namespace Sys2Proof.Machine
open Sys2Proof.Laws

/-! ### The Coupler Read Queue (R73, R74) -/

section
variable {s : State}

theorem State.enqueueRead_eq (e : ReadEntry) : s.enqueueRead e = { s with kegRegister := { s.kegRegister with
    queue := s.kegRegister.queue ++ [e]
    bus := if s.kegRegister.bus = none then some ⟨0, false, false⟩ else s.kegRegister.bus } } := by
  rw [State.enqueueRead]
  obtain ⟨hb, -, h⟩ | ⟨hb, h⟩ := (s.setReadQueue (s.kegRegister.queue ++ [e])).startRead_cases
  · have : s.kegRegister.bus = none := hb
    rw [h, if_pos this]; rfl
  · have : s.kegRegister.bus ≠ none := hb.resolve_right (by simp)
    rw [h, if_neg this]; rfl

theorem State.readBusy_false {l : Line} {p : Position} (hlen : s.kegRegister.queue.length < 8)
    (hnew : ∀ e ∈ s.kegRegister.queue, ¬(e.line = l ∧ e.position = p)) : s.readBusy l p = false := by
  simp only [State.readBusy, ge_iff_le, Nat.not_le.mpr hlen, decide_false, Bool.false_or, State.readQueued, List.any_eq_false,
    Bool.and_eq_true, beq_iff_eq]
  exact hnew

/-- Bytes that differ in every bit are those of complements. -/
theorem bytes_complement_iff (a b : BitVec 64) :
    (∀ i, i < 8 → a.extractLsb' (8 * i) 8 ^^^ b.extractLsb' (8 * i) 8 = 0xFF#8) ↔ b = ~~~a := by
  have ones {k : Nat} (hk : k < 8) : (0xFF#8).getLsbD k = true := by interval_cases k <;> rfl
  constructor
  · intro h
    refine BitVec.eq_of_getLsbD_eq fun j hj => ?_
    have bit := congrArg (BitVec.getLsbD · (j % 8)) (h (j / 8) (by omega))
    have hk : j % 8 < 8 := Nat.mod_lt _ (by decide)
    simp only [BitVec.getLsbD_xor, BitVec.getLsbD_extractLsb', hk, decide_true, Bool.true_and, ones hk, Nat.div_add_mod] at bit
    simp only [BitVec.getLsbD_not, hj, decide_true, Bool.true_and]
    cases ha : a.getLsbD j <;> simp_all
  · rintro rfl i hi
    refine BitVec.eq_of_getLsbD_eq fun k hk => ?_
    have : 8 * i + k < 64 := by omega
    simp only [BitVec.getLsbD_xor, BitVec.getLsbD_extractLsb', BitVec.getLsbD_not, hk, decide_true, Bool.true_and, this, ones hk,
      Bool.xor_not_self]

/-- A tag block is good when its first half is the complement of its second (R75). -/
theorem validCopy_iff (block : BitVec 128) : validCopy block = true ↔ block.extractLsb' 0 64 = ~~~(block.extractLsb' 64 64) := by
  simp only [validCopy, List.all_eq_true, List.mem_range, beq_iff_eq]
  exact bytes_complement_iff _ _

end

/-- The stages of a read of a copy on the Coupler Bus (R186). -/
theorem copyReadStages_eq (l : Line) (p : Position) {copy : Nat} (hc : copy ≤ 3) {r : BitVec 6}
    (hr : r = BitVec.ofNat 6 (2 * l.val + if p = .A then 0 else 1)) :
    copyReadStages (readerNumber l p) copy = [⟨r, false, [], 0⟩, ⟨r, true, [], 0⟩,
      ⟨r, true, [true, true, false, false, false, false, copy.testBit 1, copy.testBit 0], 0⟩, ⟨r, true, [], 17⟩,
      ⟨0, false, [], 0⟩] := by
  have number : BitVec.ofNat 6 (readerNumber l p) = r := by
    rw [hr, readerNumber, Nat.mul_comm]
    cases p <;> rfl
  have request : byteBits (BitVec.ofNat 8 (0xC0 + copy)) =
      [true, true, false, false, false, false, copy.testBit 1, copy.testBit 0] := by
    interval_cases copy <;> decide
  simp only [copyReadStages, number, request, BusStage.idle]

/-- Settles O26: entries joined at the tail, the start of a read, the retry and the next copy, and the stages of one read. -/
theorem couplerReadsAreQueuedAndTriedAgain : Obligations.CouplerReadsAreQueuedAndTriedAgain := by
  refine ⟨fun s l p released hlen hnew => ⟨fun a c hl hp h1 h2 hmode hfree hcfg hprod htag => ?_, fun k hk hs => ?_⟩,
    fun s released => ⟨?_, fun t e rest status block hb hq => ⟨fun h1 h2 h3 => ?_, fun h1 h2 h3 => ?_⟩⟩,
    fun k => ⟨fun hb => ?_, fun t e rest r hb hq hc hr => ?_⟩⟩
  · have passes : firstFail (s.enrolChecks l p a) = none := by
      rw [firstFail_eq_none]
      simp [State.enrolChecks, hmode, hfree, hcfg, hprod, State.findTag_none_of htag, State.readBusy_false hlen hnew]
    refine (State.running_of_released (f := takeKegEnrol a) released).trans (congrArg _ ?_)
    rw [takeKegEnrol, hl, hp, readPlace_val]
    simp only [within_iff.mpr ⟨h1, h2⟩, if_true, passes]
    rw [State.enqueueRead_eq]; rfl
  · refine (State.running_of_released (f := takeKegCheck l.val (positionCode p)) released).trans (congrArg _ ?_)
    rw [takeKegCheck, readPlace_val]
    simp only [hk, hs, State.readBusy_false hlen hnew, Bool.false_eq_true, if_false]
    rw [State.enqueueRead_eq]; rfl
  · refine (State.running_of_released (f := takeCouplerReadStart) released).trans (congrArg _ ?_)
    show s.startRead = _
    obtain ⟨hb, hq, h⟩ | ⟨hb, h⟩ := s.startRead_cases
    · rw [h, if_pos ⟨hb, hq⟩]; rfl
    · rw [h, if_neg (by tauto)]
  · refine (State.running_of_released (f := takeCouplerCopyRead status block) released).trans (congrArg _ ?_)
    have judged : judgeCopy t e.expected status block = .again { t with retry := true } := by
      simp only [judgeCopy, h1, h2, h3, if_false, Bool.false_eq_true]
    have read : s.copyRead status block = s.setBus (some { t with retry := true }) := by simp only [State.copyRead, hb, hq, judged]
    exact congrArg State.follow read
  · refine (State.running_of_released (f := takeCouplerCopyRead status block) released).trans (congrArg _ ?_)
    have bad : ¬ validCopy block = true := fun h => h2 ((validCopy_iff block).mp h)
    have judged : judgeCopy t e.expected status block = .again { t with copy := t.copy + 1, retry := false } := by
      simp only [judgeCopy, h1, bad, h3, if_true, if_false, Bool.false_eq_true]
    have read : s.copyRead status block = s.setBus (some { t with copy := t.copy + 1, retry := false }) := by
      simp only [State.copyRead, hb, hq, judged]
    exact congrArg State.follow read
  · rw [KegRegister.busStages, hb]; rfl
  · rw [KegRegister.busStages, hb, hq]
    exact copyReadStages_eq _ _ hc hr

/-! ### The outcome of a tag read (R76 to R80, R9) -/

/-- What the end of a tag read of a position may write: the kegs, the record and the four valves of the line, and attention. -/
structure TagRead (s t : State) (l : Line) (p : Position) : Prop where
  kegs : SameBut s.kegRegister.kegs t.kegRegister.kegs l
  lines : SameBut s.lineTable.lines t.lineTable.lines l
  across : t.keg l p.other = s.keg l p.other
  valves : ∀ g : ValveGroup, g ≠ lineGroup l → g ≠ selectorGroup l → t.valve g = s.valve g
  queue : t.kegRegister.queue = s.kegRegister.queue
  bus : t.kegRegister.bus = s.kegRegister.bus
  turned : Turned s t

section
variable {s t u : State} {l : Line} {p : Position}

theorem TagRead.refl (s : State) (l : Line) (p : Position) : TagRead s s l p :=
  ⟨fun _ _ => rfl, fun _ _ => rfl, rfl, fun _ _ _ => rfl, rfl, rfl, rfl⟩

theorem TagRead.trans (h : TagRead s t l p) (k : TagRead t u l p) : TagRead s u l p :=
  ⟨fun m hm => (k.kegs m hm).trans (h.kegs m hm), fun m hm => (k.lines m hm).trans (h.lines m hm), k.across.trans h.across,
    fun g h1 h2 => (k.valves g h1 h2).trans (h.valves g h1 h2), k.queue.trans h.queue, k.bus.trans h.bus, h.turned.trans k.turned⟩

theorem Kegged.turned (h : Kegged s t) : Turned s t := by
  have e : Turned s (s.kegged t) := rfl
  rwa [← h] at e

theorem State.setKeg_tagRead (r : Option KegRec) : TagRead s (s.setKeg l p r) l p :=
  ⟨sameBut_put _ _ _, fun _ _ => rfl, State.keg_setKeg_ne _ _ _ _ _ _ (.inr (Position.other_ne p)), fun _ _ _ => rfl, rfl, rfl, rfl⟩

theorem State.keg_setLastEnrol (o : Option LastEnrol) (q : Position) : (s.setLastEnrol l o).keg l q = s.keg l q := by
  rw [State.keg, show (s.setLastEnrol l o).kegSlots l = _ from look_put_same _ _ _]
  cases q <;> rfl

theorem State.setLastEnrol_tagRead (o : Option LastEnrol) : TagRead s (s.setLastEnrol l o) l p :=
  ⟨sameBut_put _ _ _, fun _ _ => rfl, State.keg_setLastEnrol _ _, fun _ _ _ => rfl, rfl, rfl, rfl⟩

theorem State.raise_tagRead (k : LineKind) : TagRead s (s.raise k l) l p :=
  ⟨fun _ _ => rfl, fun _ _ => rfl, rfl, fun _ _ _ => rfl, rfl, rfl, rfl⟩

/-- What a verified keg makes of a DRY line that takes it: the keg goes on tap, and the line is READY. -/
theorem State.dryToReady_spec {k : KegRec} (hk : s.keg l p = some k) (he : s.eligible l p = true) (hn : s.onTap l = none) :
    TagRead s (s.dryToReady l p) l p ∧ (s.dryToReady l p).keg l p = some { k with state := .onTap } ∧
    ((s.dryToReady l p).kegSlots l).lastEnrol = (s.kegSlots l).lastEnrol ∧
    (s.dryToReady l p).line l = { s.line l with mode := .ready, lastKeg := some p } ∧
    AskedLine s (s.dryToReady l p) l true false ∧ AskedSelectors s (s.dryToReady l p) l (p == .A) (p == .B) ∧
    (s.dryToReady l p).link.attention = s.link.attention.raiseLine .lineReady l := by
  have hl : ((s.setKegState l p .onTap).askSelector l p true).line l = s.line l := by rw [State.setKegState_frame]; rfl
  obtain ⟨hlines, hkegs, hline, hsel, hother, hframe⟩ := State.putOnTap_changeLine he
    (r := { s.line l with mode := .ready, lastKeg := some p }) nofun nofun rfl
  simp only [State.dryToReady, State.putOnTap_eq he hn, hl]
  generalize ((s.setKegState l p .onTap).askSelector l p true).changeLine l { s.line l with mode := .ready, lastKeg := some p } = t at *
  have slots : (t.raise .lineReady l).kegSlots l = (s.kegSlots l).set p ((s.keg l p).map fun k => { k with state := .onTap }) :=
    (congrArg (look · l) hkegs).trans (look_put_same _ _ _)
  have keg (q : Position) : (t.raise .lineReady l).keg l q =
      if q = p then (s.keg l p).map (fun k => { k with state := .onTap }) else s.keg l q := by
    rw [State.keg, slots, KegSlots.at_set]; rfl
  have register : t.kegRegister.queue = s.kegRegister.queue ∧ t.kegRegister.bus = s.kegRegister.bus := by
    rw [hframe]; exact ⟨rfl, rfl⟩
  have turned : Turned s t := Kegged.turned hframe
  refine ⟨⟨?_, ?_, (keg _).trans (if_neg (Position.other_ne p)), hother, register.1, register.2, turned.trans rfl⟩,
    (keg p).trans ?_, ?_, ?_, AskedPair.congr hline rfl rfl, AskedPair.congr hsel rfl rfl, ?_⟩
  · exact fun m hm => (congrArg (look · m) hkegs).trans (look_put_ne _ _ _ _ hm)
  · exact fun m hm => (congrArg (look · m) hlines).trans (look_put_ne _ _ _ _ hm)
  · rw [if_pos rfl, hk]; rfl
  · rw [slots]; cases p <;> rfl
  · exact (congrArg (look · l) hlines).trans (look_put_same _ _ _)
  · show t.link.attention.raiseLine .lineReady l = _
    rw [hframe]; rfl

theorem State.kegVerified_tagRead : TagRead s (s.kegVerified l p) l p := by
  unfold State.kegVerified
  split
  next h =>
    obtain ⟨-, -, -, he⟩ := h
    obtain ⟨k, hk, -⟩ := State.keg_of_eligible he
    cases hn : s.onTap l with
    | none => exact (State.dryToReady_spec hk he hn).1
    | some q =>
      have : s.putOnTap l p = none := by simp [State.putOnTap, hn]
      rw [State.dryToReady, this]
      exact .refl _ _ _
  next => exact .refl _ _ _

theorem State.kegVerified_enrol : ((s.kegVerified l p).kegSlots l).lastEnrol = (s.kegSlots l).lastEnrol := by
  unfold State.kegVerified
  split
  next h =>
    obtain ⟨-, -, -, he⟩ := h
    obtain ⟨k, hk, -⟩ := State.keg_of_eligible he
    cases hn : s.onTap l with
    | none => exact (State.dryToReady_spec hk he hn).2.2.1
    | some q => simp [State.dryToReady, State.putOnTap, hn]
  next => rfl

theorem State.applyEnrol_tagRead (e : ReadEntry) (o : TagOutcome) (r : Option Tag) :
    TagRead s (s.applyEnrol e o r) e.line e.position := by
  unfold State.applyEnrol
  split
  · exact .refl _ _ _
  · dsimp only
    split
    · exact (((State.setKeg_tagRead _).trans (State.setLastEnrol_tagRead _)).trans (State.raise_tagRead _)).trans
        State.kegVerified_tagRead
    · exact ((State.setKeg_tagRead _).trans (State.setLastEnrol_tagRead _)).trans (State.raise_tagRead _)

theorem State.applyCheck_tagRead (e : ReadEntry) (o : TagOutcome) : TagRead s (s.applyCheck e o) e.line e.position := by
  refine TagRead.trans ?_ (State.raise_tagRead _)
  unfold State.onKeg
  split
  · exact State.setKeg_tagRead _
  · exact .refl _ _ _

end

/-- The part of the outcome that the purpose of the entry decides; nothing under the discard mark. -/
def State.applyRead (s : State) (e : ReadEntry) (discard : Bool) (o : TagOutcome) (read : Option Tag) : State :=
  if discard then s else match e.purpose with
    | .enrol => s.applyEnrol e o read
    | .check => s.applyCheck e o

section
variable {s : State} {e : ReadEntry} {rest : List ReadEntry} {d : Bool} {o : TagOutcome} {r : Option Tag}

theorem State.applyRead_tagRead : TagRead s (s.applyRead e d o r) e.line e.position := by
  unfold State.applyRead
  split
  · exact .refl _ _ _
  · split
    · exact State.applyEnrol_tagRead _ _ _
    · exact State.applyCheck_tagRead _ _

/-- The end of a transaction: what the read applies, with the entry gone and the next one in progress. -/
theorem State.endRead_eq : s.endRead e rest d o r =
    (((s.setReadQueue rest).setBus none).applyRead e d o r).setBus (if rest = [] then none else some ⟨0, false, false⟩) := by
  have same := State.applyRead_tagRead (s := (s.setReadQueue rest).setBus none) (e := e) (d := d) (o := o) (r := r)
  show (((s.setReadQueue rest).setBus none).applyRead e d o r).startRead = _
  generalize ((s.setReadQueue rest).setBus none).applyRead e d o r = v at *
  have queue : v.kegRegister.queue = rest := same.queue
  have bus : v.kegRegister.bus = none := same.bus
  obtain ⟨-, hq, h⟩ | ⟨hq, h⟩ := v.startRead_cases
  · rw [h, if_neg (queue ▸ hq)]
  · rw [h, if_pos (queue ▸ hq.resolve_left fun hb => hb bus), ← bus]; rfl

end

section
variable {s : State} {e : ReadEntry} {o : TagOutcome} {r : Option Tag} {k : KegRec}

theorem State.applyEnrol_rejected (hk : s.keg e.line e.position = some k) (ho : o ≠ .isMatch)
    (hr : (if o = .mismatch then r else none) = r) :
    (s.applyEnrol e o r).keg e.line e.position = none ∧
    ((s.applyEnrol e o r).kegSlots e.line).lastEnrol = some ⟨e.position, k.tag, o, r⟩ ∧
    (s.applyEnrol e o r).lineTable = s.lineTable ∧ (s.applyEnrol e o r).valves = s.valves ∧
    (s.applyEnrol e o r).link.attention = s.link.attention.raiseLine .kegRejected e.line := by
  simp only [State.applyEnrol, hk, ho, if_false, hr]
  refine ⟨(State.keg_setLastEnrol _ _).trans (State.keg_setKeg_same _ _ _ _), ?_, rfl, rfl, rfl⟩
  exact congrArg KegSlots.lastEnrol (look_put_same _ _ _)

/-- The state in which a matched enrolment is reported to the Line Table. -/
def State.enrolled (s : State) (e : ReadEntry) (k : KegRec) : State :=
  ((s.setKeg e.line e.position (some { k with state := .standby })).setLastEnrol e.line
    (some ⟨e.position, k.tag, .isMatch, none⟩)).raise .kegVerified e.line

theorem State.applyEnrol_matched (hk : s.keg e.line e.position = some k) :
    s.applyEnrol e .isMatch r = (s.enrolled e k).kegVerified e.line e.position := by
  simp only [State.applyEnrol, hk, if_true]; rfl

theorem State.keg_enrolled (q : Position) :
    (s.enrolled e k).keg e.line q = if q = e.position then some { k with state := .standby } else s.keg e.line q := by
  refine (State.keg_setLastEnrol _ q).trans ?_
  split
  next h => rw [h]; exact State.keg_setKeg_same _ _ _ _
  next h => exact State.keg_setKeg_ne _ _ _ _ _ _ (.inr h)

theorem State.enrol_enrolled : ((s.enrolled e k).kegSlots e.line).lastEnrol = some ⟨e.position, k.tag, .isMatch, none⟩ :=
  congrArg KegSlots.lastEnrol (look_put_same _ _ _)

theorem State.applyCheck_spec (hk : s.keg e.line e.position = some k) :
    (s.applyCheck e o).keg e.line e.position = some { k with lastCheck := some o, checkFailed := !(o == .isMatch) } ∧
    ((s.applyCheck e o).kegSlots e.line).lastEnrol = (s.kegSlots e.line).lastEnrol ∧
    (s.applyCheck e o).lineTable = s.lineTable ∧ (s.applyCheck e o).valves = s.valves ∧
    (s.applyCheck e o).link.attention = s.link.attention.raiseLine .kegCheckDone e.line := by
  simp only [State.applyCheck, State.onKeg, hk]
  refine ⟨State.keg_setKeg_same _ _ _ _, ?_, rfl, rfl, rfl⟩
  refine (congrArg KegSlots.lastEnrol (State.slots_setKeg _)).trans ?_
  cases e.position <;> rfl

theorem State.kegVerified_kept (h : (s.line e.line).mode ≠ .dry ∨ s.queued e.line = true ∨ s.valves.fault = true) :
    s.kegVerified e.line e.position = s := by
  rw [State.kegVerified, if_neg]
  rintro ⟨hm, hq, hf, -⟩
  rw [hq, hf] at h
  simp_all

end

/-- A read that ends its transaction, by the status byte and the tag block. -/
theorem judgeCopy_ends {t : Transaction} {expected : Tag} {status : Byte} {block : BitVec 128} {o : TagOutcome} {read : Option Tag}
    (h : o = .isMatch ∧ read = none ∧ status = 0xA5#8 ∧ block.extractLsb' 0 64 = ~~~expected ∧ block.extractLsb' 64 64 = expected ∨
      o = .mismatch ∧ read = some (block.extractLsb' 64 64) ∧ status = 0xA5#8 ∧
        block.extractLsb' 0 64 = ~~~(block.extractLsb' 64 64) ∧ block.extractLsb' 64 64 ≠ expected ∨
      o = .tagBad ∧ read = none ∧ status = 0xA5#8 ∧ block.extractLsb' 0 64 ≠ ~~~(block.extractLsb' 64 64) ∧ 3 ≤ t.copy ∨
      o = .noCoupler ∧ read = none ∧ status = 0#8 ∨
      o = .readerFault ∧ read = none ∧ status ≠ 0xA5#8 ∧ status ≠ 0#8 ∧ t.retry = true) :
    judgeCopy t expected status block = .ends o read := by
  obtain ⟨rfl, rfl, rfl, hc, hi⟩ | ⟨rfl, rfl, rfl, hc, hi⟩ | ⟨rfl, rfl, rfl, hc, hn⟩ | ⟨rfl, rfl, rfl⟩ | ⟨rfl, rfl, h1, h2, h3⟩ := h
  · have good : validCopy block = true := (validCopy_iff block).mpr (by rw [hi]; exact hc)
    simp only [judgeCopy, good, blockId, hi, if_true]
  · have good : validCopy block = true := (validCopy_iff block).mpr hc
    simp only [judgeCopy, good, blockId, hi, if_true, if_false]
  · have bad : ¬ validCopy block = true := fun h => hc ((validCopy_iff block).mp h)
    simp only [judgeCopy, bad, Nat.not_lt.mpr hn, if_true, if_false, Bool.false_eq_true]
  · simp [judgeCopy]
  · simp only [judgeCopy, h1, h2, h3, if_true, if_false]

/-- Settles O29: the read is judged, its entry leaves, and its outcome is applied by the purpose of the entry. -/
theorem couplerReadAppliesItsOutcome : Obligations.CouplerReadAppliesItsOutcome := by
  intro s t e rest status block o read released hb hq hjudge
  have judged := judgeCopy_ends hjudge
  have told : (if o = .mismatch then read else none) = read := by
    obtain ⟨rfl, h, -⟩ | ⟨rfl, -, -⟩ | ⟨rfl, h, -⟩ | ⟨rfl, h, -⟩ | ⟨rfl, h, -⟩ := hjudge <;> simp [*]
  have ended : s.copyRead status block = s.endRead e rest t.discard o read := by simp only [State.copyRead, hb, hq, judged]
  have same := State.applyRead_tagRead (s := (s.setReadQueue rest).setBus none) (e := e) (d := t.discard) (o := o) (r := read)
  rw [State.endRead_eq] at ended
  have applied : ((s.setReadQueue rest).setBus none).applyRead e t.discard o read =
      if t.discard then (s.setReadQueue rest).setBus none else match e.purpose with
        | .enrol => ((s.setReadQueue rest).setBus none).applyEnrol e o read
        | .check => ((s.setReadQueue rest).setBus none).applyCheck e o := rfl
  generalize ((s.setReadQueue rest).setBus none).applyRead e t.discard o read = v at *
  refine ⟨v.setBus (if rest = [] then none else some ⟨0, false, false⟩),
    (State.running_of_released (f := takeCouplerCopyRead status block) released).trans
      (congrArg (fun x : State => Host.Outcome.next x.follow) ended),
    same.queue, rfl, same.kegs, same.lines, same.across, same.valves, fun hd => ?_, fun k hd hk hp ho => ?_,
    fun k hd hk hp ho => ?_, fun k hd hk hp => ?_, 
    Turned.trans (Turned.trans (t := (s.setReadQueue rest).setBus none) rfl same.turned) rfl⟩
  · rw [applied, hd]; rfl
  · rw [hd, hp] at applied
    rw [applied]
    exact State.applyEnrol_rejected (s := (s.setReadQueue rest).setBus none) hk ho told
  · rw [hd, hp, ho] at applied
    replace applied := applied.trans (State.applyEnrol_matched (s := (s.setReadQueue rest).setBus none) hk)
    have keg := State.keg_enrolled (s := (s.setReadQueue rest).setBus none) (e := e) (k := k)
    refine ⟨?_, fun hstay => ?_, fun hm hq hf hc hn => ?_⟩
    · rw [applied]
      exact State.kegVerified_enrol.trans State.enrol_enrolled
    · rw [applied, State.kegVerified_kept (s := ((s.setReadQueue rest).setBus none).enrolled e k) hstay]
      exact ⟨(keg _).trans (if_pos rfl), rfl, rfl, rfl⟩
    · have placed : (((s.setReadQueue rest).setBus none).enrolled e k).keg e.line e.position = some { k with state := .standby } :=
        (keg _).trans (if_pos rfl)
      have eligible : (((s.setReadQueue rest).setBus none).enrolled e k).eligible e.line e.position = true := by
        rw [State.eligible, placed]; simp [hc]
      have untapped : (((s.setReadQueue rest).setBus none).enrolled e k).onTap e.line = none := by
        have off (q : Position) : ((((s.setReadQueue rest).setBus none).enrolled e k).keg e.line q).any
            (fun k => k.state == .onTap) = false := by
          rw [keg]
          split
          · rfl
          · refine Bool.eq_false_iff.mpr fun h => ?_
            obtain ⟨x, hx, hs⟩ := (Option.any_eq_true _ _).mp h
            exact hn q x hx (beq_iff_eq.mp hs)
        simp [State.onTap, off]
      obtain ⟨-, tapped, -, line, asked, selected, attention⟩ := State.dryToReady_spec placed eligible untapped
      have ready : (((s.setReadQueue rest).setBus none).enrolled e k).kegVerified e.line e.position =
          (((s.setReadQueue rest).setBus none).enrolled e k).dryToReady e.line e.position := by
        rw [State.kegVerified, if_pos ⟨hm, hq, hf, eligible⟩]
      rw [applied, ready]
      exact ⟨tapped, line, AskedPair.congr asked rfl rfl, AskedPair.congr selected rfl rfl, attention⟩
  · rw [hd, hp] at applied
    rw [applied]
    exact State.applyCheck_spec (s := (s.setReadQueue rest).setBus none) hk

end Sys2Proof.Machine
end

section
/-! PROOF. Cellar Climate: the gates of several trunks, the scanner and its inputs, and the conversions. -/

namespace Sys2Proof.Machine
open Sys2Proof.Laws

/-! ### Gates (R126 to R128) -/

section
variable {s u : State}

theorem State.evalGate_zone (s : State) (t : Trunk) : (s.evalGate t).zone t = { s.zone t with
    gate := gateNext (s.zone t).gate (s.zone t).warn (s.zone t).stop (s.climate.gateValue t).2
    source := (s.climate.gateValue t).1 } := by
  rw [State.zone, State.evalGate_zones, look_put_same]

theorem State.evalGate_zone_ne {t m : Trunk} (h : m ≠ t) : (s.evalGate t).zone m = s.zone m := by
  rw [State.zone, State.evalGate_zones, look_put_ne _ _ _ _ h]; rfl

theorem State.evalGate_trunkHot_ne {t m : Trunk} (h : m ≠ t) :
    (s.evalGate t).link.attention.trunkHot.getLsbD m.val = s.link.attention.trunkHot.getLsbD m.val := by
  rw [State.evalGate_trunkHot, beq_eq_false_iff_ne.mpr h]; simp

/-- Inputs and roles alone say what a role reads. -/
theorem Climate.reading_congr {c d : Climate} (hi : d.inputs = c.inputs) (hr : d.roles = c.roles) (r : Role) :
    d.reading r = c.reading r := by
  simp only [Climate.reading, Climate.assigned, hi, hr]

theorem Climate.gateValue_congr {c d : Climate} (hi : d.inputs = c.inputs) (hr : d.roles = c.roles) (t : Trunk) :
    d.gateValue t = c.gateValue t := by
  simp only [Climate.gateValue, Climate.reading_congr hi hr]

/-- The evaluation of a trunk's gate reads the inputs, the roles and the zone of the trunk. -/
theorem State.evalGate_congr {t : Trunk} (hi : u.climate.inputs = s.climate.inputs) (hr : u.climate.roles = s.climate.roles)
    (hz : u.zone t = s.zone t)
    (hh : u.link.attention.trunkHot.getLsbD t.val = s.link.attention.trunkHot.getLsbD t.val) :
    (u.evalGate t).zone t = (s.evalGate t).zone t ∧
    (u.evalGate t).link.attention.trunkHot.getLsbD t.val = (s.evalGate t).link.attention.trunkHot.getLsbD t.val := by
  rw [State.evalGate_zone, State.evalGate_zone, State.evalGate_trunkHot, State.evalGate_trunkHot, hz, hh,
    Climate.gateValue_congr hi hr]
  exact ⟨rfl, rfl⟩

/-- A state with zones and TRUNK_HOT taken from another. -/
def State.gated (s u : State) : State :=
  { s with
    climate := { s.climate with zones := u.climate.zones }
    link := { s.link with attention := { s.link.attention with trunkHot := u.link.attention.trunkHot } } }

/-- Nothing changes but zones and TRUNK_HOT. -/
def Gated (s u : State) : Prop := u = s.gated u

theorem Gated.refl (s : State) : Gated s s := rfl

theorem Gated.trans {t : State} (h : Gated s t) (k : Gated t u) : Gated s u := by
  have e : t.gated u = (s.gated t).gated u := congrArg (State.gated · u) h
  exact Eq.trans k e

/-- The evaluation of the gates of some trunks, each once. -/
theorem State.foldl_evalGate (ts : List Trunk) (hd : ts.Nodup) (s : State) :
    (∀ t, (ts.foldl State.evalGate s).zone t = (if t ∈ ts then (s.evalGate t).zone t else s.zone t) ∧
      (ts.foldl State.evalGate s).link.attention.trunkHot.getLsbD t.val =
        (if t ∈ ts then (s.evalGate t).link.attention.trunkHot.getLsbD t.val else s.link.attention.trunkHot.getLsbD t.val)) ∧
    Gated s (ts.foldl State.evalGate s) := by
  induction ts generalizing s with
  | nil => exact ⟨fun t => ⟨rfl, rfl⟩, rfl⟩
  | cons m ts ih =>
    obtain ⟨hm, hd⟩ := List.nodup_cons.mp hd
    obtain ⟨each, rest⟩ := ih hd (s.evalGate m)
    have first : Gated s (s.evalGate m) := s.evalGate_frame m
    refine ⟨fun t => ?_, first.trans rest⟩
    rw [List.foldl_cons, (each t).1, (each t).2]
    by_cases e : t = m
    · subst e
      simp only [hm, List.mem_cons, if_true, if_false, true_or, and_self]
    · have same := State.evalGate_congr (u := s.evalGate m) (s := s) (t := t) (by rw [first]; rfl) (by rw [first]; rfl)
        (State.evalGate_zone_ne e) (State.evalGate_trunkHot_ne e)
      by_cases ht : t ∈ ts
      · simp only [ht, e, List.mem_cons, or_true, if_true]
        exact same
      · simp only [ht, e, List.mem_cons, or_false, if_false]
        exact ⟨State.evalGate_zone_ne e, State.evalGate_trunkHot_ne e⟩

theorem State.evalRoleGate_eq (r : Role) : s.evalRoleGate r = r.trunk.toList.foldl State.evalGate s := by
  unfold State.evalRoleGate
  cases r.trunk <;> rfl

/-- The evaluation of the gate of a role's trunk. -/
theorem State.evalRoleGate_spec (s : State) (r : Role) :
    (∀ t, (s.evalRoleGate r).zone t = (if r.trunk = some t then (s.evalGate t).zone t else s.zone t) ∧
      (s.evalRoleGate r).link.attention.trunkHot.getLsbD t.val = (if r.trunk = some t then
        (s.evalGate t).link.attention.trunkHot.getLsbD t.val else s.link.attention.trunkHot.getLsbD t.val)) ∧
    Gated s (s.evalRoleGate r) := by
  rw [State.evalRoleGate_eq]
  obtain ⟨each, frame⟩ := State.foldl_evalGate r.trunk.toList (by cases r.trunk <;> simp) s
  refine ⟨fun t => ?_, frame⟩
  simpa using each t

end

/-! ### The scanner (R120, R122) -/

theorem lowestInput_eq {mask : BitVec 16} {i : SenseInput} (hi : mask.getLsbD i.val = true)
    (hlow : ∀ j : SenseInput, j < i → mask.getLsbD j.val = false) : lowestInput mask = some i := find_indices hi hlow

theorem lowestInput_none {mask : BitVec 16} (h : mask = 0#16) : lowestInput mask = none := by
  subst h
  exact List.find?_eq_none.mpr fun i _ => by simp

/-- The conversion that a scanner starts on a mask, lowest input first. -/
theorem Scanner.start_lowest {x : Scanner} {n : Nat} {first : Option Conversion} (hn : x.resolution = n)
    (h : x.mask = 0#16 ∧ first = none ∨ ∃ i : SenseInput, x.mask.getLsbD i.val = true ∧
      (∀ j : SenseInput, j < i → x.mask.getLsbD j.val = false) ∧ first = some ⟨i, n⟩) :
    x.start (lowestInput x.mask) = { x with conversion := first } := by
  obtain ⟨hm, rfl⟩ | ⟨i, hi, hlow, rfl⟩ := h
  · rw [lowestInput_none hm]; rfl
  · rw [lowestInput_eq hi hlow, ← hn]; rfl

theorem Scanner.wake_eq {x : Scanner} {first : Option Conversion}
    (h : x.mask = 0#16 ∧ first = none ∨ ∃ i : SenseInput, x.mask.getLsbD i.val = true ∧
      (∀ j : SenseInput, j < i → x.mask.getLsbD j.val = false) ∧ first = some ⟨i, x.resolution⟩) :
    x.wake = { x with
      conversion := if x.running = true ∧ x.conversion = none then first else x.conversion } := by
  unfold Scanner.wake
  by_cases hw : x.running = true ∧ x.conversion = none
  · rw [if_pos (by simp [hw]), if_pos hw, Scanner.start_lowest rfl h]
  · rw [if_neg (by simpa using hw), if_neg hw]

theorem nextInput_none {mask : BitVec 16} (h : mask = 0#16) (i : SenseInput) : nextInput mask i = none := by
  rw [nextInput, lowestInput_none h]
  subst h
  rw [List.find?_eq_none.mpr fun j _ => by simp]

/-- The next enabled input above, or the lowest one (R122). -/
theorem nextInput_eq {mask : BitVec 16} {i j : SenseInput} (hj : mask.getLsbD j.val = true)
    (h : i < j ∧ (∀ m : SenseInput, i < m → m < j → mask.getLsbD m.val = false) ∨
      j ≤ i ∧ (∀ m : SenseInput, i < m ∨ m < j → mask.getLsbD m.val = false)) : nextInput mask i = some j := by
  obtain ⟨hij, hgap⟩ | ⟨hji, hgap⟩ := h
  · have : (indices 16).find? (fun m => decide (i < m) && mask.getLsbD m.val) = some j :=
      find_indices (by simp [hij, hj]) fun m hm => by
        by_cases him : i < m
        · simp only [him, decide_true, Bool.true_and]; exact hgap m him hm
        · simp [him]
    rw [nextInput, this]
  · have : (indices 16).find? (fun m => decide (i < m) && mask.getLsbD m.val) = none :=
      List.find?_eq_none.mpr fun m _ => by
        by_cases him : i < m
        · simp only [him, decide_true, Bool.true_and]; exact Bool.eq_false_iff.mp (hgap m (.inl him))
        · simp [him]
    rw [nextInput, this]
    exact lowestInput_eq hj fun m hm => hgap m (.inr hm)

/-! ### CHANNEL_SET (R121) -/

theorem readRole_code (r : Role) : readRole r.code = some r := by
  cases r with
  | unused => rfl
  | trunkBeer t =>
    have := t.isLt
    simp [readRole, Role.code]; omega
  | trunkGlycol t =>
    have := t.isLt
    simp [readRole, Role.code]; omega
  | bath => rfl
  | solutionTemp => rfl
  | solutionCond => rfl

theorem readRole_none {n : Nat} (h : 16 ≤ n) : readRole n = none := by
  rw [readRole, if_neg (by omega), dif_neg (by omega), dif_neg (by omega), if_neg (by omega), if_neg (by omega), if_neg (by omega)]

theorem readInput_val (i : SenseInput) : readInput i.val = some i := dif_pos i.isLt

theorem readInput_none {n : Nat} (h : 16 ≤ n) : readInput n = none := dif_neg (by omega)

section
variable {s : State}

/-- The other input with a role, where there is at most one. -/
theorem State.otherHolder_eq {i : SenseInput} {r : Role} {other : Option SenseInput}
    (h : r = .unused ∧ other = none ∨ r ≠ .unused ∧ (∀ j, j ≠ i → ((s.input j).role = r ↔ other = some j)) ∧ other ≠ some i) :
    s.otherHolder i r = other := by
  obtain ⟨rfl, rfl⟩ | ⟨hr, holds, hi⟩ := h
  · exact if_pos rfl
  rw [State.otherHolder, if_neg hr]
  cases other with
  | none => exact List.find?_eq_none.mpr fun j _ => by simpa using fun hj => (holds j hj).not.mpr (by simp)
  | some m =>
    have hmi : m ≠ i := fun e => hi (congrArg some e)
    refine find_indices (by simpa [hmi] using (holds m hmi).mpr rfl) fun j hj => ?_
    have hjm : m ≠ j := (ne_of_lt hj).symm
    simpa using fun hji => (holds j hji).not.mpr (by simpa using hjm)

theorem State.restartRole_role (s : State) (r : Role) (k : Fin 15) :
    (s.restartRole r).role k = if r.index = some k then RoleRec.reset else s.role k := by
  unfold State.restartRole
  split
  · next m hm =>
    rw [hm, State.role, State.setRole_climate, look_put]
    simp only [Option.some.injEq, eq_comm]
    rfl
  · next hm => simp [hm]

theorem State.restartRole_frame (s : State) (r : Role) :
    s.restartRole r = { s with climate := { s.climate with roles := (s.restartRole r).climate.roles } } := by
  unfold State.restartRole
  split <;> rfl

/-- The two steps of an assignment before its gates: the input that loses the role, and the input that takes it. -/
theorem State.assigned_input (s : State) (i : SenseInput) (r : Role) (base : Int) (span : Nat) (other : Option SenseInput)
    (hi : other ≠ some i) :
    ((s.dropRole other).setInput i ⟨r, base, span⟩).input i = ⟨r, base, span⟩ ∧
    (∀ j, j ≠ i → ((s.dropRole other).setInput i ⟨r, base, span⟩).input j =
      if other = some j then { s.input j with role := .unused } else s.input j) ∧
    (s.dropRole other).setInput i ⟨r, base, span⟩ = { s with climate := { s.climate with
      inputs := ((s.dropRole other).setInput i ⟨r, base, span⟩).climate.inputs } } := by
  refine ⟨by simp, fun j hj => ?_, by cases other <;> rfl⟩
  rw [State.input, State.setInput_climate, look_put_ne _ _ _ _ hj]
  cases other with
  | none => rfl
  | some m =>
    by_cases e : m = j
    · subst e; simp [State.dropRole]
    · have hne : j ≠ m := Ne.symm e
      simp [State.dropRole, look_put_ne _ _ _ _ hne, e, State.input]

/-- The gates after an assignment: each trunk of the two roles once. -/
theorem State.evalTwoGates (b : State) (old r : Role) :
    ∃ ts : List Trunk, ts.Nodup ∧ (∀ t, t ∈ ts ↔ r.trunk = some t ∨ old.trunk = some t) ∧
      (if old.trunk = r.trunk then b.evalRoleGate r else (b.evalRoleGate old).evalRoleGate r) = ts.foldl State.evalGate b := by
  by_cases e : old.trunk = r.trunk
  · refine ⟨r.trunk.toList, by cases r.trunk <;> simp, fun t => by simp [e], ?_⟩
    rw [if_pos e, State.evalRoleGate_eq]
  · refine ⟨old.trunk.toList ++ r.trunk.toList, ?_, fun t => by simp [or_comm], ?_⟩
    · cases ho : old.trunk <;> cases hr : r.trunk <;> simp_all
    · rw [if_neg e, State.evalRoleGate_eq, State.evalRoleGate_eq, List.foldl_append]

theorem optNat_one (n : Option SenseInput) : optNat 1 (n.map fun j => j.val) =
    (match n with | some j => byte 1 ++ byte j.val | none => byte 0 ++ byte 0) := by
  cases n <;> rfl

end

/-- Settles O41: each scanner command by cases, and an assignment by its three steps. -/
theorem scannerAndInputsAreSet : Obligations.ScannerAndInputsAreSet := by
  unfold Obligations.ScannerAndInputsAreSet
  intro s released
  refine ⟨fun n mask h8 h10 h12 => ?_, fun n mask first hn hfirst => ?_, fun running => ⟨?_, ?_⟩, fun stopped => ⟨?_, fun first idle hfirst => ?_⟩,
    fun input role base span h => ?_, fun i r base span other h => ?_⟩
  · refine (State.running_of_released (f := takeScanSet n mask) released).trans (congrArg _ ?_)
    exact if_neg (by simp [h8, h10, h12])
  · refine (State.running_of_released (f := takeScanSet n mask) released).trans (congrArg _ ?_)
    rw [takeScanSet, if_pos hn, Scanner.wake_eq (first := first) hfirst]
    rfl
  · refine (State.running_of_released (f := takeScanStart) released).trans (congrArg _ ?_)
    exact if_pos running
  · refine (State.running_of_released (f := takeScanStop) released).trans (congrArg _ ?_)
    exact if_pos running
  · refine (State.running_of_released (f := takeScanStop) released).trans (congrArg _ ?_)
    exact if_neg (by simp [stopped])
  · refine (State.running_of_released (f := takeScanStart) released).trans (congrArg _ ?_)
    rw [takeScanStart, if_neg (by simp [stopped]), Scanner.wake_eq (x := { s.climate.scanner with running := true }) (first := first) hfirst,
      if_pos ⟨rfl, idle⟩]
    rfl
  · refine (State.running_of_released (f := takeChannelSet input role base span) released).trans (congrArg _ ?_)
    unfold takeChannelSet
    obtain hi | hr := h
    · rw [readInput_none hi]; rfl
    · rw [readRole_none hr]
      cases readInput input <;> rfl
  have run : exec (.channelSet i.val r.code base span) s = .next ((s.assign i r base span).ok
      (byte r.code ++ bytesInt 2 base ++ bytesBE 2 span ++
        optNat 1 ((s.otherHolder i r).map fun j => j.val))).follow := by
    refine (State.running_of_released (f := takeChannelSet i.val r.code base span) released).trans (congrArg _ ?_)
    rw [takeChannelSet, readInput_val, readRole_code]
  have holder : s.otherHolder i r = other := State.otherHolder_eq h
  have hi : other ≠ some i := by
    obtain ⟨-, rfl⟩ | ⟨-, -, hi⟩ := h
    · simp
    · exact hi
  rw [holder, optNat_one] at run
  refine ⟨_, run, ?_⟩
  obtain ⟨here, there, inputs⟩ := s.assigned_input i r base span other hi
  have assigned : s.assign i r base span =
      (fun b : State => if (s.input i).role.trunk = r.trunk then b.evalRoleGate r else (b.evalRoleGate (s.input i).role).evalRoleGate r)
        ((((s.dropRole other).setInput i ⟨r, base, span⟩).restartRole (s.input i).role).restartRole r) := by
    rw [← holder]; rfl
  generalize (s.dropRole other).setInput i ⟨r, base, span⟩ = a at *
  have roles : ∀ k, ((a.restartRole (s.input i).role).restartRole r).role k =
      if (s.input i).role.index = some k ∨ r.index = some k then RoleRec.reset else a.role k := fun k => by
    rw [State.restartRole_role, State.restartRole_role]
    by_cases h1 : r.index = some k <;> simp [h1]
  have restarted : (a.restartRole (s.input i).role).restartRole r = { a with climate := { a.climate with
      roles := ((a.restartRole (s.input i).role).restartRole r).climate.roles } } := by
    have h := State.restartRole_frame (a.restartRole (s.input i).role) r
    have k := State.restartRole_frame a (s.input i).role
    exact h.trans (congrArg (fun x : State => { x with climate := { x.climate with
      roles := ((a.restartRole (s.input i).role).restartRole r).climate.roles } }) k)
  generalize (a.restartRole (s.input i).role).restartRole r = b at *
  obtain ⟨ts, once, mem, gates⟩ := b.evalTwoGates (s.input i).role r
  replace assigned := assigned.trans gates
  obtain ⟨each, frame⟩ := State.foldl_evalGate ts once b
  rw [← assigned] at each frame
  generalize s.assign i r base span = u at *
  have inputsU : u.climate.inputs = b.climate.inputs := congrArg (·.climate.inputs) frame
  have rolesU : u.climate.roles = b.climate.roles := congrArg (·.climate.roles) frame
  have inputsB : b.climate.inputs = a.climate.inputs := congrArg (·.climate.inputs) restarted
  have whole : b = { s with climate := { s.climate with inputs := u.climate.inputs, roles := u.climate.roles } } := by
    rw [inputsU, inputsB, rolesU]
    exact restarted.trans (congrArg (fun x : State => { x with climate := { x.climate with roles := b.climate.roles } }) inputs)
  have input (j : SenseInput) : u.input j = a.input j := congrArg (look · j) (inputsU.trans inputsB)
  have role (k : Fin 15) : a.role k = s.role k := by rw [inputs]; rfl
  have zone (t : Trunk) : b.zone t = s.zone t := by rw [whole]; rfl
  have hot : b.link = s.link := congrArg (·.link) whole
  have gated := congrArg (State.gated · u) whole
  refine ⟨(input i).trans here, fun j hj => (input j).trans (there j hj), fun k => ?_, fun t v hv => ?_, ?_⟩
  · rw [← role k]
    exact (congrArg (look · k) rolesU).trans (roles k)
  · have hvb : v = b.evalGate t := hv.trans (congrArg (State.evalGate · t) whole.symm)
    rw [hvb]
    refine ⟨fun touched => ?_, fun hr ho => ?_⟩
    · have h := each t
      rw [if_pos ((mem t).mpr touched), if_pos ((mem t).mpr touched)] at h
      exact h
    · have h := each t
      have out : t ∉ ts := fun ht => ((mem t).mp ht).elim hr ho
      rw [if_neg out, if_neg out, zone, hot] at h
      exact h
  · exact congrArg (State.ok · _) (Eq.trans frame gated)

/-! ### Conversions (R122 to R124) -/

section
variable {s a u : State}

/-- A state with role records, zones, PROBE_FAULT and TRUNK_HOT taken from another. -/
def State.judged (s u : State) : State :=
  { s with
    climate := { s.climate with roles := u.climate.roles, zones := u.climate.zones }
    link := { s.link with attention := { s.link.attention with
      probeFault := u.link.attention.probeFault, trunkHot := u.link.attention.trunkHot } } }

/-- Nothing changes but role records, zones, PROBE_FAULT and TRUNK_HOT. -/
def Judged (s u : State) : Prop := u = s.judged u

theorem Judged.trans (h : Judged s a) (k : Judged a u) : Judged s u := by
  have e : a.judged u = (s.judged a).judged u := congrArg (State.judged · u) h
  exact Eq.trans k e

theorem Gated.judged (h : Gated s u) : Judged s u := by
  have e : s.gated u = s.judged (s.gated u) := rfl
  rwa [← h] at e

theorem State.setRole_judged (s : State) (k : Fin 15) (x : RoleRec) : Judged s (s.setRole k x) := rfl

theorem State.raiseProbe_judged (s : State) (i : SenseInput) : Judged s (s.raiseProbe i) := rfl

/-- The gate of a role's trunk is evaluated on the role records as they stand then, and no other gate. -/
def Regated (s u : State) (r : Role) : Prop :=
  ∀ t : Trunk, u.zone t = if r.trunk = some t then
    ({ s with climate := { s.climate with roles := u.climate.roles } }.evalGate t).zone t else s.zone t

/-- The gate of a role's trunk, after role records and PROBE_FAULT have changed. -/
theorem Judged.evalRoleGate (h : Judged s a) (hz : a.climate.zones = s.climate.zones) (r : Role) :
    (a.evalRoleGate r).climate.roles = a.climate.roles ∧
    (a.evalRoleGate r).link.attention.probeFault = a.link.attention.probeFault ∧
    Regated s (a.evalRoleGate r) r ∧ Judged s (a.evalRoleGate r) := by
  obtain ⟨each, frame⟩ := a.evalRoleGate_spec r
  have roles : (a.evalRoleGate r).climate.roles = a.climate.roles := congrArg (·.climate.roles) frame
  refine ⟨roles, congrArg (·.link.attention.probeFault) frame, fun t => ?_, h.trans frame.judged⟩
  have zone : a.zone t = s.zone t := congrArg (look · t) hz
  rw [(each t).1, zone, roles, State.evalGate_zone, State.evalGate_zone, zone,
    Climate.gateValue_congr (c := { s.climate with roles := a.climate.roles }) (d := a.climate) (congrArg (·.climate.inputs) h) rfl]
  rfl

/-- The record of the role on an input changes, and no other role's. -/
def RoleMoved (s u : State) (k : Fin 15) (x : RoleRec) : Prop :=
  u.role k = x ∧ SameBut s.climate.roles u.climate.roles k

theorem RoleMoved.of_roles {k : Fin 15} {x : RoleRec} (h : u.climate.roles = put s.climate.roles k x) : RoleMoved s u k x := by
  refine ⟨?_, fun j hj => ?_⟩
  · rw [State.role, h, look_put_same]
  · rw [h, look_put_ne _ _ _ _ hj]

/-- A probe fault that is due: FAILED, PROBE_FAULT, and the gate of the role's trunk (R123). -/
theorem State.failProbe_due {i : SenseInput} {k : Fin 15} (hk : (s.input i).role.index = some k) (hrun : 8 ≤ (s.role k).faultRun)
    (hok : (s.role k).failed = false) :
    (s.failProbe i).climate.roles = put s.climate.roles k { s.role k with failed := true } ∧
    (s.failProbe i).link.attention.probeFault.getLsbD i.val = true ∧
    Regated s (s.failProbe i) (s.input i).role ∧ Judged s (s.failProbe i) := by
  have run : s.failProbe i =
      ((s.setRole k { s.role k with failed := true }).raiseProbe i).evalRoleGate (s.input i).role := by
    unfold State.failProbe
    rw [hk]
    exact if_pos ⟨hrun, hok⟩
  obtain ⟨roles, probe, gates, frame⟩ := Judged.evalRoleGate (s := s)
    (a := (s.setRole k { s.role k with failed := true }).raiseProbe i) ((s.setRole_judged k _).trans (State.raiseProbe_judged _ i)) rfl
    (s.input i).role
  rw [run]
  refine ⟨roles, ?_, gates, frame⟩
  rw [probe, State.raiseProbe]
  simp [State.setAttention, getLsbD_member]

/-- A probe fault that is not due is none (R123). -/
theorem State.failProbe_idle {i : SenseInput} {k : Fin 15} (hk : (s.input i).role.index = some k)
    (h : (s.role k).faultRun < 8 ∨ (s.role k).failed = true) : s.failProbe i = s := by
  unfold State.failProbe
  rw [hk]
  refine if_neg fun ⟨hrun, hok⟩ => ?_
  obtain h | h := h
  · omega
  · rw [hok] at h; cases h

/-- A rail code at an input with a role (R123). -/
theorem State.probeFault_spec {i : SenseInput} {k : Fin 15} (hk : (s.input i).role.index = some k) :
    RoleMoved s (s.probeFault i k) k { s.role k with
      faultRun := min ((s.role k).faultRun + 1) 255
      failed := (s.role k).failed || decide (8 ≤ min ((s.role k).faultRun + 1) 255) } ∧
    ((s.role k).failed = false → 7 ≤ (s.role k).faultRun →
      (s.probeFault i k).link.attention.probeFault.getLsbD i.val = true ∧ Regated s (s.probeFault i k) (s.input i).role) ∧
    ((s.role k).failed = true ∨ (s.role k).faultRun < 7 →
      (s.probeFault i k).climate.zones = s.climate.zones ∧ (s.probeFault i k).link.attention = s.link.attention) ∧
    Judged s (s.probeFault i k) := by
  have counted : s.probeFault i k =
      (s.setRole k { s.role k with faultRun := min ((s.role k).faultRun + 1) 255 }).failProbe i := rfl
  rw [counted]
  have first := s.setRole_judged k { s.role k with faultRun := min ((s.role k).faultRun + 1) 255 }
  have atk : (s.setRole k { s.role k with faultRun := min ((s.role k).faultRun + 1) 255 }).role k =
    { s.role k with faultRun := min ((s.role k).faultRun + 1) 255 } := State.role_setRole_same ..
  by_cases due : (s.role k).failed = false ∧ 7 ≤ (s.role k).faultRun
  · obtain ⟨hok, hrun⟩ := due
    have reached : 8 ≤ min ((s.role k).faultRun + 1) 255 := by omega
    obtain ⟨roles, probe, gates, frame⟩ := State.failProbe_due
      (s := s.setRole k { s.role k with faultRun := min ((s.role k).faultRun + 1) 255 }) (i := i) hk (by rw [atk]; exact reached)
      (by rw [atk]; exact hok)
    refine ⟨.of_roles ?_, fun _ _ => ⟨probe, gates⟩, fun h => ?_, first.trans frame⟩
    · rw [roles, atk, hok, decide_eq_true reached]
      exact put_put ..
    · rw [hok] at h
      obtain h | h := h
      · cases h
      · omega
  · have idle : (s.role k).faultRun < 7 ∨ (s.role k).failed = true := by
      cases hf : (s.role k).failed with
      | true => exact .inr rfl
      | false => exact .inl (by rw [hf] at due; simpa using due)
    rw [State.failProbe_idle (s := s.setRole k _) (i := i) hk (by rw [atk]; exact idle.imp (fun _ => by simp; omega) id)]
    refine ⟨.of_roles ?_, fun hok hrun => absurd ⟨hok, hrun⟩ due, fun _ => ⟨rfl, rfl⟩, first⟩
    have same : (s.role k).failed = ((s.role k).failed || decide (8 ≤ min ((s.role k).faultRun + 1) 255)) := by
      obtain h | h := idle
      · rw [decide_eq_false (by omega), Bool.or_false]
      · rw [h, Bool.true_or]
    rw [← same]
    rfl

theorem Role.range_eq {r : Role} {lo hi : Int}
    (h : if r = .solutionCond then lo = 0 ∧ hi = 20000 else lo = -640 ∧ hi = 1600) : r.range = (lo, hi) := by
  by_cases e : r = .solutionCond
  · rw [if_pos e] at h
    obtain ⟨rfl, rfl⟩ := h
    rw [e]; rfl
  · rw [if_neg e] at h
    obtain ⟨rfl, rfl⟩ := h
    cases r with
    | solutionCond => exact absurd rfl e
    | unused | trunkBeer | trunkGlycol | bath | solutionTemp => rfl

/-- A good sample at an input with a role (R124). -/
theorem State.goodSample_spec (s : State) (i : SenseInput) (k : Fin 15) (bits code : Nat) :
    RoleMoved s (s.goodSample i k bits code) k { value := some (sampleValue (s.input i) bits code), faultRun := 0, failed := false
                                                 filtered := some (match (s.role k).filtered with
                                                   | none => sampleValue (s.input i) bits code
                                                   | some f => f + (sampleValue (s.input i) bits code - f) / 4) } ∧
    (s.goodSample i k bits code).link.attention.probeFault = s.link.attention.probeFault ∧
    Regated s (s.goodSample i k bits code) (s.input i).role ∧ Judged s (s.goodSample i k bits code) := by
  obtain ⟨roles, probe, gates, frame⟩ := Judged.evalRoleGate (s.setRole_judged k _) rfl (s.input i).role
  refine ⟨.of_roles (roles.trans ?_), probe, gates, frame⟩
  cases (s.role k).filtered <;> rfl

theorem State.judgeCode_judged (s : State) (i : SenseInput) (bits code : Nat) : Judged s (s.judgeCode i bits code) := by
  unfold State.judgeCode
  split
  · rfl
  · next k hk =>
    split
    · exact (State.probeFault_spec hk).2.2.2
    · exact (s.goodSample_spec i k bits code).2.2.2

/-- The conversion that follows on a mask. -/
theorem Scanner.start_next {x : Scanner} {i : SenseInput} {next : Option Conversion}
    (h : x.mask = 0#16 ∧ next = none ∨ ∃ j : SenseInput, x.mask.getLsbD j.val = true ∧ next = some ⟨j, x.resolution⟩ ∧
      (i < j ∧ (∀ m : SenseInput, i < m → m < j → x.mask.getLsbD m.val = false) ∨
        j ≤ i ∧ (∀ m : SenseInput, i < m ∨ m < j → x.mask.getLsbD m.val = false))) :
    x.start (nextInput x.mask i) = { x with conversion := next } := by
  obtain ⟨hm, rfl⟩ | ⟨j, hj, rfl, order⟩ := h
  · rw [nextInput_none hm]; rfl
  · rw [nextInput_eq hj order]; rfl

end

/-- Settles O43: what is not due, the fault that is, and a conversion by its code. -/
theorem conversionsAreFilteredOrFaulted : Obligations.ConversionsAreFilteredOrFaulted := by
  unfold Obligations.ConversionsAreFilteredOrFaulted
  intro s released
  refine ⟨fun idle code => ?_, fun i k hk idle => ?_, fun i k hk hrun hok => ?_, fun i bits code next running hconv hcode hnext => ?_⟩
  · refine (State.running_of_released (f := takeConversionComplete code) released).trans
      (congrArg (fun x : State => Host.Outcome.next x.follow) ?_)
    unfold State.convert
    split
    · next c running hc =>
      rw [running, hc] at idle
      simp at idle
    · rfl
  · exact (State.running_of_released (f := takeProbeFailed i) released).trans
      (congrArg (fun x : State => Host.Outcome.next x.follow) (State.failProbe_idle hk idle))
  · obtain ⟨roles, probe, gates, frame⟩ := State.failProbe_due hk hrun hok
    obtain ⟨here, there⟩ := RoleMoved.of_roles roles
    exact ⟨_, State.running_of_released (f := takeProbeFailed i) released, here, there, probe, gates, frame⟩
  have run : exec (.conversionComplete code) s = .next (State.follow ((s.judgeCode i bits code).setScanner
      { s.climate.scanner with conversion := next })) := by
    refine (State.running_of_released (f := takeConversionComplete code) released).trans
      (congrArg (fun x : State => Host.Outcome.next x.follow) ?_)
    have scanner : (s.judgeCode i bits code).climate.scanner = s.climate.scanner :=
      congrArg (·.climate.scanner) (s.judgeCode_judged i bits code)
    unfold State.convert
    rw [running, hconv]
    simp only [Nat.mod_eq_of_lt hcode]
    rw [scanner, Scanner.start_next hnext]
  refine ⟨_, run, rfl, fun unused => ?_, fun k hk => ?_, ?_⟩
  · rw [State.judgeCode, unused]; rfl
  · have judge : s.judgeCode i bits code =
        if code = 0 ∨ code = 2 ^ bits - 1 then s.probeFault i k else s.goodSample i k bits code := by
      rw [State.judgeCode, hk]
    obtain ⟨⟨faultHere, faultThere⟩, due, idle, -⟩ := State.probeFault_spec hk
    obtain ⟨⟨goodHere, goodThere⟩, probe, gates, -⟩ := s.goodSample_spec i k bits code
    refine ⟨?_, fun rail => ?_, fun h0 h1 v lo hi range hv => ?_⟩
    · rw [judge]
      split
      · exact faultThere
      · exact goodThere
    · rw [judge, if_pos rail]
      exact ⟨faultHere, due, idle⟩
    · have value : sampleValue (s.input i) bits code = v := by
        rw [sampleValue, Role.range_eq range, hv]; rfl
      rw [judge, if_neg (by simp [h0, h1]), ← value]
      exact ⟨goodHere, probe, gates⟩
  · exact congrArg (fun x : State => x.setScanner { s.climate.scanner with conversion := next }) (s.judgeCode_judged i bits code)

/-! ### Duties, boosts and stages (R131, R135 to R137) -/

section
variable {s u : State}

theorem clampNat_zero (top n : Nat) : clampNat 0 top n = min top n := Nat.zero_max _

theorem State.dutyDue_eq (s : State) (t : Trunk) : s.climate.dutyOf t = s.dutyDue t := rfl

/-- The duty of a trunk reads the inputs, the roles, the boost and the trunk's zone. -/
theorem Climate.dutyOf_congr {c d : Climate} {t : Trunk} (hi : d.inputs = c.inputs) (hr : d.roles = c.roles) (hb : d.boost = c.boost)
    (hz : look d.zones t = look c.zones t) : d.dutyOf t = c.dutyOf t := by
  simp only [Climate.dutyOf, Climate.gateValue_congr hi hr, hz, Climate.boostOffset, hb]

/-- A state with zones taken from another. -/
def State.zoned (s u : State) : State := { s with climate := { s.climate with zones := u.climate.zones } }

/-- Nothing changes but zones. -/
def Zoned (s u : State) : Prop := u = s.zoned u

theorem Zoned.trans {t : State} (h : Zoned s t) (k : Zoned t u) : Zoned s u := by
  have e : t.zoned u = (s.zoned t).zoned u := congrArg (State.zoned · u) h
  exact Eq.trans k e

/-- The duties of some trunks are fixed, each once. -/
theorem State.foldl_fixDuty (ts : List Trunk) (hd : ts.Nodup) (s : State) :
    (∀ t, (ts.foldl State.fixDuty s).zone t = if t ∈ ts then { s.zone t with duty := s.climate.dutyOf t } else s.zone t) ∧
    Zoned s (ts.foldl State.fixDuty s) := by
  induction ts generalizing s with
  | nil => exact ⟨fun t => rfl, rfl⟩
  | cons m ts ih =>
    obtain ⟨hm, hd⟩ := List.nodup_cons.mp hd
    obtain ⟨each, rest⟩ := ih hd (s.fixDuty m)
    have first : Zoned s (s.fixDuty m) := rfl
    refine ⟨fun t => ?_, first.trans rest⟩
    rw [List.foldl_cons, each t]
    by_cases e : t = m
    · subst e
      simp only [hm, List.mem_cons, if_true, if_false, true_or]
      exact State.zone_setZone_same ..
    · have zone : (s.fixDuty m).zone t = s.zone t := by
        rw [State.fixDuty, State.zone, State.setZone_climate, look_put_ne _ _ _ _ e]
        rfl
      rw [zone, Climate.dutyOf_congr (c := s.climate) (d := (s.fixDuty m).climate) rfl rfl rfl zone]
      simp only [List.mem_cons, e, false_or]

theorem State.fixDuties_spec (s : State) :
    (∀ t, s.fixDuties.zone t = { s.zone t with duty := s.dutyDue t }) ∧ Zoned s s.fixDuties := by
  obtain ⟨each, frame⟩ := State.foldl_fixDuty (indices 6) (List.nodup_finRange 6) s
  refine ⟨fun t => (each t).trans (if_pos (List.mem_finRange t)), frame⟩

theorem State.endBoost_eq (s : State) :
    s.endBoost = s.setBoost (if (s.climate.boost.any fun b => b.remaining == 0) then none else s.climate.boost) := by
  unfold State.endBoost
  split
  · next b hb =>
    by_cases hr : b.remaining = 0
    · rw [if_pos hr, if_pos (by simp [hb, hr])]
    · rw [if_neg hr, if_neg (by simp [hb, hr])]; rfl
  · next hb => rw [if_neg (by simp [hb])]; rfl

theorem partner_climate (b : Fin 8) : partner 16 b = none := rfl

theorem Stage.decideSwitch_eq (c : Chiller) (x : Stage) (wanted : Bool) :
    x.decideSwitch wanted c.minOn c.minOff = c.switched x wanted := by
  unfold Stage.decideSwitch Chiller.switched
  by_cases h : x.on = wanted <;> simp [h]

theorem Climate.bathFailed_iff : s.climate.bathFailed = true ↔ (∃ i, (s.input i).role = .bath) ∧ (s.role 12).failed = true := by
  simp [Climate.bathFailed, Climate.assigned, State.input, State.role, indices]

theorem State.wanted1_iff : s.climate.wanted1 = true ↔ s.Wants false := by
  unfold Climate.wanted1 State.Wants
  cases s.climate.reading .bath with
  | none => exact Climate.bathFailed_iff
  | some f =>
    cases s.climate.chiller.stage1.on <;> simp

theorem State.wanted2_iff : s.climate.wanted2 s.partPouring = true ↔ s.Wants true := by
  unfold Climate.wanted2 State.Wants Chiller.surging
  cases s.climate.reading .bath with
  | none => simp
  | some f =>
    cases s.climate.chiller.stage2.on <;> simp

/-- The switch of a stage, and its request on VG16's next pattern. -/
theorem State.stageSwitch_spec (s : State) (second : Bool) :
    ∃ wanted : Bool, (wanted = true ↔ s.Wants second) ∧ takeStageSwitch second s =
      (fun y : Stage => (s.setChiller (if second then { s.climate.chiller with stage2 := y } else { s.climate.chiller with stage1 := y })).ask 16
        (if second then 7 else 6) y.on) (s.climate.chiller.switched (s.climate.chiller.stage second) wanted) := by
  cases second with
  | false =>
    refine ⟨_, State.wanted1_iff, ?_⟩
    rw [← Stage.decideSwitch_eq]; rfl
  | true =>
    refine ⟨_, State.wanted2_iff, ?_⟩
    rw [← Stage.decideSwitch_eq]; rfl

end

/-- Settles O44: each command of the climate by its operation. -/
theorem climateSettingsDutiesAndStages : Obligations.ClimateSettingsDutiesAndStages := by
  unfold Obligations.ClimateSettingsDutiesAndStages
  intro s released
  refine ⟨fun a t z ht hz => ?_, fun a c hc => ?_, fun cycles => State.running_of_released (f := takeBoost 0 cycles) released,
    fun offset cycles ho => ?_, ?_, fun hw => ?_, fun hw => ?_, fun second wanted c hc hwant => ?_⟩
  · have zone : z = s.setZone t (zoneWith (s.zone t) a) := by
      rw [hz, zoneWith, clampNat_zero, clampNat_zero]; rfl
    refine ⟨_, ?_, rfl⟩
    refine (State.running_of_released (f := takeTrunkClimate a) released).trans (congrArg _ ?_)
    have set : z.zone t = zoneWith (s.zone t) a := by rw [zone]; exact State.zone_setZone_same ..
    have params : ((z.evalGate t).zone t).parameters = (z.zone t).parameters := by rw [State.evalGate_zone]; rfl
    rw [takeTrunkClimate, ht, readTrunk_val]
    simp only [← zone]
    rw [params]
    rfl
  · refine (State.running_of_released (f := takeChillerSet a) released).trans (congrArg _ ?_)
    have chiller : chillerWith s.climate.chiller a = c := by
      rw [hc]
      simp only [chillerWith, clampNat_zero]
      rfl
    rw [takeChillerSet, chiller]
    rfl
  · refine (State.running_of_released (f := takeBoost offset cycles) released).trans (congrArg _ ?_)
    have boost : boostOf offset cycles = some ⟨min 64 offset, max 1 (min 255 cycles)⟩ := by
      rw [boostOf, clampNat_zero, if_neg (by omega)]
      rfl
    rw [takeBoost, boost]
    rfl
  · exact (State.running_of_released (f := takeBoostEnd) released).trans (congrArg _ s.endBoost_eq)
  · exact (State.running_of_released (f := takeCycleStart) released).trans (congrArg _ (if_neg hw))
  · obtain ⟨each, frame⟩ := s.fixDuties_spec
    exact ⟨_, (State.running_of_released (f := takeCycleStart) released).trans (congrArg _ (if_pos hw)), each, frame⟩
  · obtain ⟨wanted', wants, switch⟩ := s.stageSwitch_spec second
    have same : wanted' = wanted := Bool.eq_iff_iff.mpr (wants.trans hwant.symm)
    rw [same, ← hc] at switch
    refine ⟨_, _, State.running_of_released (f := takeStageSwitch second) released, rfl, ?_⟩
    rw [switch]
    refine ⟨rfl, ?_, fun b => ?_, fun j hj => ?_, rfl⟩
    · rw [State.ask_valve, if_pos rfl]; rfl
    · rw [State.ask_valve, if_pos rfl, getLsbD_askBit]
      rw [if_neg (by simp [partner_climate])]
      cases second <;> simp only [if_true, if_false, Bool.false_eq_true, Fin.ext_iff] <;> rfl
    · exact look_put_ne _ _ _ _ hj

end Sys2Proof.Machine
end

section
/-! PROOF. The operations of the Cleaning Sequencer on its group: what each writes, of the skid, the group, the lines, the kegs, the
pours and the overrides (R145, R146, R150 to R158). -/

namespace Sys2Proof.Machine
open Sys2Proof.Laws

section
variable {s t u : State} {g : Group}

/-! ### Next patterns -/

/-- A group of valves changes in its next pattern alone. -/
def NextOnly (s t : State) : Prop := ∀ k : ValveGroup, t.valve k = { s.valve k with next := (t.valve k).next }

theorem NextOnly.refl (s : State) : NextOnly s s := fun _ => rfl

theorem NextOnly.of_valves (h : t.valves = s.valves) : NextOnly s t := fun k => by simp only [State.valve, h]

theorem NextOnly.trans (h : NextOnly s t) (k : NextOnly t u) : NextOnly s u := fun m => by
  rw [k m, h m]

theorem State.ask_nextOnly (s : State) (g : ValveGroup) (b : Fin 8) (on : Bool) : NextOnly s (s.ask g b on) := fun k => by
  rw [State.ask_valve]
  split
  · next e => rw [e]
  · rfl

theorem NextOnly.foldl {α : Type} {f : State → α → State} (h : ∀ s x, NextOnly s (f s x)) (xs : List α) (s : State) :
    NextOnly s (xs.foldl f s) := by
  induction xs generalizing s with
  | nil => exact .refl s
  | cons x xs ih => exact (h s x).trans (ih _)

theorem SameBut.of_trans {α : Type} {n : Nat} {u v w : Vector α n} {i : Fin n} (h : SameBut u v i) (k : SameBut v w i) :
    SameBut u w i := fun j hj => (k j hj).trans (h j hj)

/-! ### The skid (R145) -/

/-- A state with valve patterns taken from another. -/
def State.piped (s t : State) : State := { s with valves := { s.valves with groups := t.valves.groups } }

/-- Nothing changes but the next pattern of the skid's group. -/
structure Skidded (s t : State) : Prop where
  next : NextOnly s t
  others : SameBut s.valves.groups t.valves.groups 17
  frame : t = s.piped t

theorem Skidded.trans (h : Skidded s t) (k : Skidded t u) : Skidded s u where
  next := h.next.trans k.next
  others := h.others.of_trans k.others
  frame := by
    have e : t.piped u = (s.piped t).piped u := congrArg (State.piped · u) h.frame
    exact Eq.trans k.frame e

theorem State.ask_skidded (s : State) (b : Fin 8) (on : Bool) : Skidded s (s.ask 17 b on) where
  next := s.ask_nextOnly 17 b on
  others := fun _ hj => look_put_ne _ _ _ _ hj
  frame := rfl

theorem State.askSkid_skidded (s : State) (pump water caustic heater lamp : Bool) :
    Skidded s (s.askSkid pump water caustic heater lamp) := by
  cases water
  · exact ((((State.ask_skidded _ _ _).trans (State.ask_skidded _ _ _)).trans (State.ask_skidded _ _ _)).trans
      (State.ask_skidded _ _ _)).trans (State.ask_skidded _ _ _)
  · exact ((((State.ask_skidded _ _ _).trans (State.ask_skidded _ _ _)).trans (State.ask_skidded _ _ _)).trans
      (State.ask_skidded _ _ _)).trans (State.ask_skidded _ _ _)

/-- The five skid bits of a phase, and the pattern they make (R145). -/
def Phase.skid : Phase → Pattern
  | .take => 0x10#8
  | .purge => 0x13#8
  | .caustic => 0x15#8
  | .soak => 0x10#8
  | .rinse => 0x13#8
  | .verify => 0x10#8
  | .release => 0#8

theorem skid_eq {p q : Pattern} (h : ∀ b : Fin 8, b.val < 5 → p.getLsbD b.val = q.getLsbD b.val)
    (hq : ∀ b : Fin 8, 5 ≤ b.val → q.getLsbD b.val = false) : p &&& 0x1F#8 = q := by
  refine BitVec.eq_of_getLsbD_eq fun i hi => ?_
  have mask : ∀ b : Fin 8, (0x1F#8).getLsbD b.val = decide (b.val < 5) := by decide
  rw [BitVec.getLsbD_and, mask ⟨i, hi⟩]
  by_cases h5 : i < 5
  · rw [decide_eq_true h5, Bool.and_true]; exact h ⟨i, hi⟩ h5
  · rw [decide_eq_false h5, Bool.and_false]; exact (hq ⟨i, hi⟩ (by simpa using h5)).symm

/-- The five bits of the skid, as asked. -/
theorem State.askSkid_bit (s : State) (pump water caustic heater lamp : Bool) (b : Fin 8) (hb : b.val < 5) :
    ((s.askSkid pump water caustic heater lamp).valve 17).next.getLsbD b.val =
      if b = 0 then pump else if b = 1 then water else if b = 2 then !water && caustic else if b = 3 then heater else lamp := by
  have cases5 : b = 0 ∨ b = 1 ∨ b = 2 ∨ b = 3 ∨ b = 4 := by omega
  unfold State.askSkid
  cases water <;> simp only [if_true, if_false, Bool.false_eq_true, State.getLsbD_ask] <;>
    obtain rfl | rfl | rfl | rfl | rfl := cases5 <;> simp [partner]

theorem State.askPhase_skid (s : State) (p : Phase) : AskedSkid s (s.askPhase p) p.skid := by
  have any (pump water caustic heater lamp : Bool) (q : Pattern)
      (h : ∀ b : Fin 8, b.val < 5 → (if b = 0 then pump else if b = 1 then water else if b = 2 then !water && caustic
        else if b = 3 then heater else lamp) = q.getLsbD b.val)
      (hq : ∀ b : Fin 8, 5 ≤ b.val → q.getLsbD b.val = false) : AskedSkid s (s.askSkid pump water caustic heater lamp) q := by
    have asked := s.askSkid_skidded pump water caustic heater lamp
    exact ⟨skid_eq (fun b hb => (s.askSkid_bit pump water caustic heater lamp b hb).trans (h b hb)) hq, asked.next, asked.others⟩
  cases p with
  | take | purge | caustic | soak | rinse | verify | release => exact any _ _ _ _ _ _ (by decide) (by decide)

theorem State.askPhase_skidded (s : State) (p : Phase) : Skidded s (s.askPhase p) := by
  cases p with
  | take | purge | caustic | soak | rinse | verify | release => exact s.askSkid_skidded ..

theorem Skidded.asked {p : Pattern} (h : Skidded s t) (k : AskedSkid t u p) : AskedSkid s u p :=
  ⟨k.1, h.next.trans k.2.1, h.others.of_trans k.2.2⟩

theorem AskedSkid.congr {s' t' : State} {p : Pattern} (h : AskedSkid s t p) (hs : s'.valves.groups = s.valves.groups)
    (ht : t'.valves.groups = t.valves.groups) : AskedSkid s' t' p := by
  simpa only [AskedSkid, State.valve, hs, ht] using h

/-! ### Open draws (R62) -/

/-- The record of a pour after the abort of an open CLEAN draw. -/
def PourRec.aborted (r : PourRec) : PourRec :=
  match r with
  | .pouring p fo _ _ => if p.kind = .clean then .enterTailing p fo .abort else r
  | _ => r

theorem PourRec.aborted_aborted (r : PourRec) : r.aborted.aborted = r.aborted := by
  cases r with
  | pouring p fo bf bp =>
    by_cases h : p.kind = .clean <;> simp [PourRec.aborted, PourRec.enterTailing, h]
  | idle | waiting | tailing => rfl

/-- A state with pour records taken from another. -/
def State.poured (s t : State) : State := { s with pourControl := { s.pourControl with pours := t.pourControl.pours } }

/-- Nothing changes but pour records. -/
def Poured (s t : State) : Prop := t = s.poured t

theorem Poured.trans (h : Poured s t) (k : Poured t u) : Poured s u := by
  have e : t.poured u = (s.poured t).poured u := congrArg (State.poured · u) h
  exact Eq.trans k e

theorem State.abortDraw_eq (s : State) (l : Line) : s.abortDraw l = s.setRecord l (s.pour l).record.aborted := by
  have keep : s.setRecord l (s.pour l).record = s := by
    change ({ s with pourControl := { s.pourControl with pours := put s.pourControl.pours l (look s.pourControl.pours l) } } : State) = s
    rw [put_look]
  unfold State.abortDraw PourRec.aborted
  cases hr : (s.pour l).record with
  | idle | waiting | tailing => exact (hr ▸ keep).symm
  | pouring p fo bf bp =>
    dsimp only
    split
    · rfl
    · exact (hr ▸ keep).symm

theorem State.abortDraws_spec (xs : List GroupLine) (s : State) :
    (∀ l, (s.abortDraws xs).pour l =
      if ∃ x ∈ xs, x.line = l then { s.pour l with record := (s.pour l).record.aborted } else s.pour l) ∧
    Poured s (s.abortDraws xs) := by
  induction xs generalizing s with
  | nil => exact ⟨fun l => by simp [State.abortDraws], rfl⟩
  | cons x xs ih =>
    obtain ⟨each, rest⟩ := ih (s.abortDraw x.line)
    have first : Poured s (s.abortDraw x.line) := by rw [State.abortDraw_eq]; rfl
    refine ⟨fun l => ?_, first.trans rest⟩
    refine (each l).trans ?_
    rw [State.abortDraw_eq]
    by_cases e : x.line = l
    · subst e
      simp [PourRec.aborted_aborted]
    · have other : (s.setRecord x.line (s.pour x.line).record.aborted).pour l = s.pour l :=
        State.pour_setPour_ne _ _ _ _ (Ne.symm e)
      simp [e, other]

/-- An open draw of an aborted line tails with reason ABORT. -/
theorem State.abortDraws_open {xs : List GroupLine} {x : GroupLine} (hx : x ∈ xs) {p : Pour} {n bf bp : Nat}
    (hp : (s.pour x.line).record = .pouring p n bf bp) (hk : p.kind = .clean) :
    ((s.abortDraws xs).pour x.line).record = .tailing p n p.v .abort 0 0 := by
  rw [(State.abortDraws_spec xs s).1, if_pos ⟨x, hx, rfl⟩, hp]
  exact if_pos hk

theorem State.abortDraws_other {xs : List GroupLine} {l : Line} (h : ∀ x ∈ xs, x.line ≠ l) :
    (s.abortDraws xs).pour l = s.pour l := by
  rw [(State.abortDraws_spec xs s).1, if_neg]
  exact fun ⟨x, hx, e⟩ => h x hx e

/-! ### Purge loss (R150) -/

/-- A state with line records and kegs taken from another. -/
def State.lossy (s t : State) : State :=
  { s with
    lineTable := { s.lineTable with lines := t.lineTable.lines }
    kegRegister := { s.kegRegister with kegs := t.kegRegister.kegs } }

/-- Nothing changes but line records and kegs. -/
def Lossy (s t : State) : Prop := t = s.lossy t

theorem Lossy.trans (h : Lossy s t) (k : Lossy t u) : Lossy s u := by
  have e : t.lossy u = (s.lossy t).lossy u := congrArg (State.lossy · u) h
  exact Eq.trans k e

/-- The record of a line and the kegs of a line stay. -/
def Spared (s t : State) (l : Line) : Prop := t.line l = s.line l ∧ t.kegSlots l = s.kegSlots l

/-- The purge loss of one group line, on its line and on its last product keg (R150, R88). -/
def LineCharged (s t : State) (l : Line) : Prop :=
  t.line l = { s.line l with totals := { (s.line l).totals with loss := satAdd (s.line l).totals.loss (s.fillOf l) } } ∧
  (t.kegSlots l).lastEnrol = (s.kegSlots l).lastEnrol ∧
  ∀ o : Position, t.keg l o = (s.keg l o).map fun k =>
    if (s.line l).lastKeg = some o ∧ k.state ≠ .verifying then k.withShares 0 0 0 (s.fillOf l) else k

theorem LineCharged.after {l : Line} (h : Spared s t l) (k : LineCharged t u l) : LineCharged s u l := by
  simpa only [LineCharged, State.fillOf, State.keg, h.1, h.2] using k

theorem LineCharged.before {l : Line} (h : LineCharged s t l) (k : Spared t u l) : LineCharged s u l := by
  simpa only [LineCharged, State.keg, k.1, k.2] using h

theorem Spared.trans {l : Line} (h : Spared s t l) (k : Spared t u l) : Spared s u l := ⟨k.1.trans h.1, k.2.trans h.2⟩

theorem Spared.of_tables {l : Line} (hl : t.lineTable = s.lineTable) (hk : t.kegRegister = s.kegRegister) : Spared s t l := by
  simp only [Spared, State.line, State.kegSlots, hl, hk, and_self]

theorem KegRec.addLoss_eq (k : KegRec) (n : Nat) : k.addLoss n = k.withShares 0 0 0 n := by
  simp [KegRec.addLoss, KegRec.limit, KegRec.withShares]

/-- The charge of a line's last product keg (R88). -/
theorem State.purgeLoss_spec (s : State) (l : Line) (fill : Nat) (p : Option Position) :
    ((s.purgeLoss l fill p).kegSlots l).lastEnrol = (s.kegSlots l).lastEnrol ∧
    (∀ o : Position, (s.purgeLoss l fill p).keg l o = (s.keg l o).map fun k =>
      if p = some o ∧ k.state ≠ .verifying then k.withShares 0 0 0 fill else k) ∧
    (∀ m, m ≠ l → (s.purgeLoss l fill p).kegSlots m = s.kegSlots m) ∧
    s.purgeLoss l fill p = { s with kegRegister := { s.kegRegister with kegs := (s.purgeLoss l fill p).kegRegister.kegs } } := by
  cases p with
  | none => exact ⟨rfl, fun o => by simp [State.purgeLoss], fun _ _ => rfl, rfl⟩
  | some q =>
    cases hk : s.keg l q with
    | none =>
      have same : s.purgeLoss l fill (some q) = s := by simp [State.purgeLoss, hk]
      rw [same]
      refine ⟨rfl, fun o => ?_, fun _ _ => rfl, rfl⟩
      by_cases e : q = o
      · subst e; simp [hk]
      · simp [e]
    | some k =>
      by_cases hv : k.state = .verifying
      · have same : s.purgeLoss l fill (some q) = s := by simp [State.purgeLoss, hk, hv]
        rw [same]
        refine ⟨rfl, fun o => ?_, fun _ _ => rfl, rfl⟩
        by_cases e : q = o
        · subst e; simp [hk, hv]
        · simp [e]
      · have charge : s.purgeLoss l fill (some q) = s.setKeg l q (some (k.addLoss fill)) := by simp [State.purgeLoss, hk, hv]
        rw [charge]
        refine ⟨by rw [State.slots_setKeg, KegSlots.set_lastEnrol], fun o => ?_, fun m hm => State.kegSlots_setKegSlots_ne _ _ _ _ hm, rfl⟩
        by_cases e : q = o
        · subst e
          rw [State.keg_setKeg_same, hk, KegRec.addLoss_eq]
          simp [hv]
        · rw [State.keg_setKeg_ne _ _ _ _ _ _ (.inr (Ne.symm e))]
          simp [e]

theorem State.reportLine_spec (s : State) (x : GroupLine) :
    (x.heldProduct = true → LineCharged s (s.reportLine x) x.line) ∧
    (x.heldProduct = false → Spared s (s.reportLine x) x.line) ∧
    (∀ m, m ≠ x.line → Spared s (s.reportLine x) m) ∧ Lossy s (s.reportLine x) := by
  cases hx : x.heldProduct with
  | false =>
    have same : s.reportLine x = s := if_neg (by simp [hx])
    rw [same]
    exact ⟨fun h => (by cases h), fun _ => ⟨rfl, rfl⟩, fun _ _ => ⟨rfl, rfl⟩, rfl⟩
  | true =>
    have report : s.reportLine x =
        (s.addPurgeLoss x.line (s.fillOf x.line)).purgeLoss x.line (s.fillOf x.line) (s.line x.line).lastKeg := if_pos hx
    obtain ⟨last, kegs, others, frame⟩ :=
      (s.addPurgeLoss x.line (s.fillOf x.line)).purgeLoss_spec x.line (s.fillOf x.line) (s.line x.line).lastKeg
    rw [← report] at last kegs others frame
    have line (m : Line) : (s.reportLine x).line m = (s.addPurgeLoss x.line (s.fillOf x.line)).line m := by rw [frame]; rfl
    refine ⟨fun _ => ⟨(line _).trans (State.line_setLine_same ..), last, kegs⟩, fun h => (by cases h), fun m hm => ⟨?_, others m hm⟩, ?_⟩
    · exact (line m).trans (State.line_setLine_ne _ _ _ _ hm)
    · have first : Lossy s (s.addPurgeLoss x.line (s.fillOf x.line)) := rfl
      refine first.trans ?_
      rw [Lossy, frame]; rfl

theorem State.foldl_reportLine (xs : List GroupLine) (hd : (xs.map GroupLine.line).Nodup) (s : State) :
    (∀ x ∈ xs, (x.heldProduct = true → LineCharged s (xs.foldl State.reportLine s) x.line) ∧
      (x.heldProduct = false → Spared s (xs.foldl State.reportLine s) x.line)) ∧
    (∀ l, (∀ x ∈ xs, x.line ≠ l) → Spared s (xs.foldl State.reportLine s) l) := by
  induction xs generalizing s with
  | nil => exact ⟨fun x hx => by simp at hx, fun l _ => ⟨rfl, rfl⟩⟩
  | cons y xs ih =>
    rw [List.map_cons, List.nodup_cons] at hd
    obtain ⟨hy, hd⟩ := hd
    have apart : ∀ x ∈ xs, x.line ≠ y.line := fun x hx e => hy (e ▸ List.mem_map_of_mem hx)
    obtain ⟨charged, spared, others, -⟩ := s.reportLine_spec y
    obtain ⟨each, rest⟩ := ih hd (s.reportLine y)
    refine ⟨fun x hx => ?_, fun l hl => ?_⟩
    · rcases List.mem_cons.mp hx with rfl | hx
      · exact ⟨fun h => (charged h).before (rest _ apart), fun h => (spared h).trans (rest _ apart)⟩
      · have first := others x.line (apart x hx)
        exact ⟨fun h => ((each x hx).1 h).after first, fun h => first.trans ((each x hx).2 h)⟩
    · exact (others l (hl y (List.mem_cons_self ..)).symm).trans (rest l fun x hx => hl x (List.mem_cons_of_mem _ hx))

theorem State.foldl_reportLine_lossy (xs : List GroupLine) (s : State) : Lossy s (xs.foldl State.reportLine s) := by
  induction xs generalizing s with
  | nil => rfl
  | cons y xs ih => exact (s.reportLine_spec y).2.2.2.trans (ih _)

theorem State.reportLoss_lossy (s : State) (g : Group) : Lossy s (s.reportLoss g) := by
  unfold State.reportLoss
  split
  · rfl
  · exact s.foldl_reportLine_lossy ..

theorem State.reportLoss_reported (h : g.lossReported = true) : s.reportLoss g = s := if_pos h

theorem State.fillOf_eq {l : Line} {c : LineCfg} (h : (s.line l).cfg = some c) : s.fillOf l = c.fill := by
  rw [State.fillOf, h]; rfl

theorem State.reportLoss_charged (s : State) (hd : (g.lines.map GroupLine.line).Nodup) : LossCharged s (s.reportLoss g) g := by
  cases hr : g.lossReported with
  | true =>
    rw [State.reportLoss_reported hr]
    exact ⟨fun x hx c hc h => by simp [hr] at h, fun x hx _ => ⟨rfl, rfl⟩, fun l _ => ⟨rfl, rfl⟩⟩
  | false =>
    have report : s.reportLoss g = g.lines.foldl State.reportLine s := if_neg (by simp [hr])
    obtain ⟨each, rest⟩ := State.foldl_reportLine g.lines hd s
    rw [report]
    refine ⟨fun x hx c hc _ held => ?_, fun x hx h => (each x hx).2 (h.resolve_left (by simp [hr])), rest⟩
    have charged := (each x hx).1 held
    rwa [LineCharged, State.fillOf_eq hc] at charged

/-- A charge reads and writes line records and kegs alone. -/
theorem LossCharged.congr {s' t' : State} (h : LossCharged s t g) (hl : s'.lineTable = s.lineTable)
    (hk : s'.kegRegister = s.kegRegister) (kl : t'.lineTable = t.lineTable) (kk : t'.kegRegister = t.kegRegister) :
    LossCharged s' t' g := by
  have line : s'.line = s.line := by funext l; simp only [State.line, hl]
  have slots : s'.kegSlots = s.kegSlots := by funext l; simp only [State.kegSlots, hk]
  have keg : s'.keg = s.keg := by funext l o; simp only [State.keg, slots]
  have line' : t'.line = t.line := by funext l; simp only [State.line, kl]
  have slots' : t'.kegSlots = t.kegSlots := by funext l; simp only [State.kegSlots, kk]
  have keg' : t'.keg = t.keg := by funext l o; simp only [State.keg, slots']
  unfold LossCharged
  rw [line, slots, keg, line', slots', keg']
  exact h

/-! ### What the work on a phase writes -/

/-- A state with zones, the active group and valve patterns taken from another. -/
def State.phased (s t : State) : State :=
  { s with
    climate := { s.climate with zones := t.climate.zones }
    cleaning := { s.cleaning with group := t.cleaning.group }
    valves := { s.valves with groups := t.valves.groups } }

/-- Nothing changes but zones, the active group and valve patterns. -/
def Phased (s t : State) : Prop := t = s.phased t

theorem Phased.trans (h : Phased s t) (k : Phased t u) : Phased s u := by
  have e : t.phased u = (s.phased t).phased u := congrArg (State.phased · u) h
  exact Eq.trans k e

theorem Skidded.phased (h : Skidded s t) : Phased s t := by
  have e : s.piped t = s.phased (s.piped t) := rfl
  rwa [← h.frame] at e

theorem Zoned.phased (h : Zoned s t) : Phased s t := by
  have e : s.zoned t = s.phased (s.zoned t) := rfl
  rwa [← h] at e

theorem State.setGroup_phased (s : State) (g : Option Group) : Phased s (s.setGroup g) := rfl

theorem Phased.cleaning (h : Phased s t) (hg : t.cleaning.group = s.cleaning.group) : t.cleaning = s.cleaning := by
  rw [h, State.phased, hg]

theorem Skidded.cleaning (h : Skidded s t) : t.cleaning = s.cleaning := by rw [h.frame]; rfl
theorem Skidded.climate (h : Skidded s t) : t.climate = s.climate := by rw [h.frame]; rfl

/-! ### Heating and overrides (R152, R133) -/

/-- Overrides are cleared on some trunks. -/
theorem State.foldl_clearOverride (ts : List Trunk) (s : State) :
    (∀ t ∈ ts, ((ts.foldl State.clearOverride s).zone t).override = false) ∧
    (∀ t, (s.zone t).override = false → ((ts.foldl State.clearOverride s).zone t).override = false) ∧
    Zoned s (ts.foldl State.clearOverride s) := by
  induction ts generalizing s with
  | nil => exact ⟨fun t ht => by simp at ht, fun t h => h, rfl⟩
  | cons m ts ih =>
    obtain ⟨each, keep, rest⟩ := ih (s.clearOverride m)
    have first : Zoned s (s.clearOverride m) := rfl
    have cleared (t : Trunk) (h : t = m ∨ (s.zone t).override = false) : ((s.clearOverride m).zone t).override = false := by
      by_cases e : t = m
      · rw [e, State.clearOverride, State.zone_setZone_same]
      · rw [State.clearOverride, State.zone, State.setZone_climate, look_put_ne _ _ _ _ e]
        exact h.resolve_left e
    refine ⟨fun t ht => ?_, fun t h => keep t (cleared t (.inr h)), first.trans rest⟩
    rcases List.mem_cons.mp ht with rfl | ht
    · exact keep t (cleared t (.inl rfl))
    · exact each t ht

theorem State.mem_groupTrunks {x : GroupLine} {c : LineCfg} (hx : x ∈ g.lines) (hc : (s.line x.line).cfg = some c) :
    c.trunk ∈ s.groupTrunks g := List.mem_filterMap.mpr ⟨x, hx, by rw [hc]; rfl⟩

theorem State.endHeating_idle (h : g.phase ≠ .soak) : s.endHeating g = s := if_neg h

/-- The end of a SOAK's heating: the heater is asked off, and the overrides of a warm recipe are cleared (R152). -/
theorem State.endHeating_spec (s : State) (g : Group) :
    NextOnly s (s.endHeating g) ∧ SameBut s.valves.groups (s.endHeating g).valves.groups 17 ∧
    (∀ x ∈ g.lines, ∀ c : LineCfg, g.phase = .soak → g.recipe.warm = true → (s.line x.line).cfg = some c →
      ((s.endHeating g).zone c.trunk).override = false) ∧
    (g.phase ≠ .soak → s.endHeating g = s) ∧ (s.endHeating g).cleaning = s.cleaning ∧
    Phased s (s.endHeating g) := by
  by_cases hp : g.phase = .soak
  · have off := s.ask_skidded 3 false
    cases hw : g.recipe.warm with
    | false =>
      have run : s.endHeating g = s.ask 17 3 false := by simp [State.endHeating, hp, hw]
      rw [run]
      exact ⟨off.next, off.others, fun _ _ _ _ h => (by cases h), fun h => absurd hp h, off.cleaning, off.phased⟩
    | true =>
      have run : s.endHeating g = (s.groupTrunks g).foldl State.clearOverride (s.ask 17 3 false) := by
        simp [State.endHeating, hp, hw]
      obtain ⟨each, -, frame⟩ := State.foldl_clearOverride (s.groupTrunks g) (s.ask 17 3 false)
      rw [← run] at each frame
      have valves : (s.endHeating g).valves = (s.ask 17 3 false).valves := congrArg (·.valves) frame
      refine ⟨off.next.trans (.of_valves valves), ?_, fun x hx c _ _ hc => each _ (State.mem_groupTrunks hx hc),
        fun h => absurd hp h, (congrArg (·.cleaning) frame).trans off.cleaning, off.phased.trans frame.phased⟩
      rw [valves]; exact off.others
  · rw [State.endHeating_idle hp]
    exact ⟨.refl s, fun _ _ => rfl, fun _ _ _ h => absurd h hp, fun _ => rfl, rfl, rfl⟩

/-! ### Phases (R145, R146, R152 to R155) -/

theorem Group.anyPart_iff : g.anyPart = true ↔ ∃ x ∈ g.lines, x.result.takesPart = true := by
  simp [Group.anyPart]

theorem State.enterRelease_spec (s : State) (g : Group) :
    (s.enterRelease g).cleaning = { s.cleaning with
      group := some { g with phase := .release, run := 1, steps := 0, lowPump := 0, heater := false } } ∧
    AskedSkid s (s.enterRelease g) 0#8 ∧
    (∀ x ∈ g.lines, ∀ c : LineCfg, g.phase = .soak → g.recipe.warm = true → (s.line x.line).cfg = some c →
      ((s.enterRelease g).zone c.trunk).override = false) ∧
    (g.phase ≠ .soak → (s.enterRelease g).climate = s.climate) ∧
    Phased s (s.enterRelease g) := by
  obtain ⟨next, others, overrides, idle, kept, frame⟩ := s.endHeating_spec g
  have asked := (s.endHeating g).askPhase_skid .release
  have skid := (s.endHeating g).askPhase_skidded .release
  have cleaning : ((s.endHeating g).askPhase .release).cleaning = s.cleaning := skid.cleaning.trans kept
  refine ⟨?_, ⟨asked.1, next.trans asked.2.1, others.of_trans asked.2.2⟩, fun x hx c hp hw hc => ?_, fun hp => ?_,
    (frame.trans skid.phased).trans (State.setGroup_phased _ _)⟩
  · rw [State.enterRelease, State.setGroup, cleaning]
  · exact (congrArg (fun c : Climate => (look c.zones _).override) skid.climate).trans (overrides x hx c hp hw hc)
  · exact skid.climate.trans (congrArg (·.climate) (idle hp))

theorem GroupLine.startRun_eq (x : GroupLine) (fill percent : Nat) : x.startRun fill percent = { x with
    owed := if x.result.takesPart then (fill * percent + 99) / 100 else x.owed
    delivered := if x.result.takesPart then 0 else x.delivered } := by
  unfold GroupLine.startRun
  split <;> rfl

/-- The start of a metered run in which a line takes part (R146). -/
theorem State.startRun_spec (s : State) (part : g.anyPart = true) (phase : Phase) (run : Nat) :
    (s.startRun g phase run).cleaning = { s.cleaning with
      group := some { g with
        phase := phase, run := run, steps := 0, lowPump := 0, heater := false
        lines := s.owing (g.recipe.percent phase) g.lines } } ∧
    AskedSkid s (s.startRun g phase run) phase.skid ∧
    (s.startRun g phase run).climate = s.climate ∧ Phased s (s.startRun g phase run) := by
  have skid := s.askPhase_skidded phase
  have lines : (fun x : GroupLine => x.startRun (s.fillOf x.line) (g.recipe.percent phase)) = fun x => { x with
      owed := if x.result.takesPart then (s.fillOf x.line * g.recipe.percent phase + 99) / 100 else x.owed
      delivered := if x.result.takesPart then 0 else x.delivered } := by
    funext x
    rw [GroupLine.startRun_eq]
  have start : s.startRun g phase run = (s.askPhase phase).setGroup (some { g with
      phase := phase, run := run, steps := 0, lowPump := 0, heater := false
      lines := s.owing (g.recipe.percent phase) g.lines }) := by
    rw [State.owing, ← lines]
    exact if_pos part
  have asked := s.askPhase_skid phase
  rw [start]
  refine ⟨?_, asked, skid.climate, skid.phased.trans (State.setGroup_phased _ _)⟩
  rw [State.setGroup, skid.cleaning]

theorem State.enterVerify_spec (s : State) (g : Group) :
    (s.enterVerify g).cleaning = { s.cleaning with
      group := some { g with phase := .verify, steps := 0, lowPump := 0, heater := false } } ∧
    AskedSkid s (s.enterVerify g) 0x10#8 ∧ (s.enterVerify g).climate = s.climate ∧ Phased s (s.enterVerify g) := by
  have skid := s.askPhase_skidded .verify
  refine ⟨?_, s.askPhase_skid .verify, skid.climate, skid.phased.trans (State.setGroup_phased _ _)⟩
  rw [State.enterVerify, State.setGroup, skid.cleaning]

/-- The heater of a warm recipe, decided with the heater off, is on where the solution is cold (R152). -/
theorem heaterNext_off {target : Int} {reading : Option Int} :
    heaterNext false target reading = true ↔ ∃ f : Int, reading = some f ∧ f < target - 16 := by
  cases reading with
  | none => simp [heaterNext]
  | some f =>
    by_cases h : f < target - 16 <;> simp [heaterNext, h]

/-- Overrides are set on some trunks, and their glycol bits cleared (R133). -/
theorem State.foldl_setOverride (ts : List Trunk) (s : State) :
    (∀ t ∈ ts, ((ts.foldl State.setOverride s).zone t).override = true ∧
      ((ts.foldl State.setOverride s).valve 16).next.getLsbD t.val = false) ∧
    (∀ t, (s.zone t).override = true ∧ (s.valve 16).next.getLsbD t.val = false →
      ((ts.foldl State.setOverride s).zone t).override = true ∧
      ((ts.foldl State.setOverride s).valve 16).next.getLsbD t.val = false) ∧
    NextOnly s (ts.foldl State.setOverride s) ∧ SameBut s.valves.groups (ts.foldl State.setOverride s).valves.groups 16 ∧
    (ts.foldl State.setOverride s).cleaning = s.cleaning ∧ Phased s (ts.foldl State.setOverride s) := by
  induction ts generalizing s with
  | nil => exact ⟨fun t ht => by simp at ht, fun t h => h, .refl s, fun _ _ => rfl, rfl, rfl⟩
  | cons m ts ih =>
    obtain ⟨each, keep, next, others, cleaning, rest⟩ := ih (s.setOverride m)
    have set (t : Trunk) (h : t = m ∨ (s.zone t).override = true ∧ (s.valve 16).next.getLsbD t.val = false) :
        ((s.setOverride m).zone t).override = true ∧ ((s.setOverride m).valve 16).next.getLsbD t.val = false := by
      have bit := (s.setZone m { s.zone m with override := true }).getLsbD_ask 16 ⟨m.val, by omega⟩ ⟨t.val, by omega⟩ false
      have zone : (s.setOverride m).zone t = (s.setZone m { s.zone m with override := true }).zone t := rfl
      by_cases e : t = m
      · subst e
        exact ⟨by rw [zone, State.zone_setZone_same], bit.trans (by simp)⟩
      · obtain ⟨hz, hv⟩ := h.resolve_left e
        refine ⟨?_, bit.trans ?_⟩
        · rw [zone, State.zone, State.setZone_climate, look_put_ne _ _ _ _ e]
          exact hz
        · have hne : ¬ (⟨t.val, by omega⟩ : Fin 8) = ⟨m.val, by omega⟩ := fun h => e (Fin.ext (Fin.mk.inj h))
          rw [if_neg (by simp), if_neg hne]
          exact hv
    have first : Phased s (s.setOverride m) := rfl
    refine ⟨fun t ht => ?_, fun t h => keep t (set t (.inr h)), ?_, ?_, cleaning, first.trans rest⟩
    · rcases List.mem_cons.mp ht with rfl | ht
      · exact keep t (set t (.inl rfl))
      · exact each t ht
    · exact NextOnly.trans ((s.setZone m { s.zone m with override := true }).ask_nextOnly 16 ⟨m.val, by omega⟩ false) next
    · exact SameBut.of_trans (fun j hj => look_put_ne _ _ _ _ hj) others

/-- The heater bit, asked on a skid of SOAK (R145, R152). -/
theorem State.askHeater (h : (s.valve 17).next &&& 0x1F#8 = 0x10#8) (on : Bool) :
    ((s.ask 17 3 on).valve 17).next &&& 0x1F#8 = if on then 0x18#8 else 0x10#8 := by
  have old (b : Fin 8) (hb : b.val < 5) : (s.valve 17).next.getLsbD b.val = (0x10#8).getLsbD b.val := by
    rw [← h, BitVec.getLsbD_and]
    have mask : ∀ b : Fin 8, b.val < 5 → (0x1F#8).getLsbD b.val = true := by decide
    rw [mask b hb, Bool.and_true]
  refine skid_eq (fun b hb => ?_) (by cases on <;> decide)
  rw [State.getLsbD_ask, if_neg (by simp [partner]), old b hb]
  revert b
  cases on <;> decide

/-- SOAK: the overrides and the heater of a warm recipe (R152). -/
theorem State.enterSoak_spec (s : State) (g : Group) :
    ∃ on : Bool, (s.enterSoak g).cleaning = { s.cleaning with
        group := some { g with phase := .soak, run := 1, steps := 0, lowPump := 0, heater := on } } ∧
      (on = true ↔ g.recipe.warm = true ∧
        ∃ f : Int, s.climate.reading .solutionTemp = some f ∧ f < g.recipe.target - 16) ∧
      ((s.enterSoak g).valve 17).next &&& 0x1F#8 = (if on then 0x18#8 else 0x10#8) ∧
      (g.recipe.warm = true → ∀ x ∈ g.lines, ∀ c : LineCfg, (s.line x.line).cfg = some c →
        ((s.enterSoak g).zone c.trunk).override = true ∧ ((s.enterSoak g).valve 16).next.getLsbD c.trunk.val = false) ∧
      (g.recipe.warm = false → (s.enterSoak g).climate = s.climate ∧ (s.enterSoak g).valve 16 = s.valve 16) ∧
      NextOnly s (s.enterSoak g) ∧ Phased s (s.enterSoak g) := by
  obtain ⟨bits, next, others⟩ := s.askPhase_skid .soak
  have skid := s.askPhase_skidded .soak
  cases hw : g.recipe.warm with
  | false =>
    have run : s.enterSoak g = (s.askPhase .soak).setGroup
        (some { g with phase := .soak, run := 1, steps := 0, lowPump := 0, heater := false }) := by
      simp [State.enterSoak, State.decideHeater, hw]
    rw [run]
    refine ⟨false, ?_, by simp, bits, fun h => (by cases h), fun _ => ⟨skid.climate, others 16 (by decide)⟩, next,
      skid.phased.trans (State.setGroup_phased _ _)⟩
    rw [State.setGroup, skid.cleaning]
  | true =>
    obtain ⟨each, -, nextO, othersO, cleaning, frame⟩ := State.foldl_setOverride (s.groupTrunks g) (s.askPhase .soak)
    have soak : s.enterSoak g = State.decideHeater ((s.groupTrunks g).foldl State.setOverride (s.askPhase .soak))
        { g with phase := .soak, run := 1, steps := 0, lowPump := 0, heater := false } := by
      simp only [State.enterSoak, hw, if_true]
    generalize (s.groupTrunks g).foldl State.setOverride (s.askPhase .soak) = v at *
    have whole : Phased s v := skid.phased.trans frame
    have reading : v.climate.reading .solutionTemp = s.climate.reading .solutionTemp := by rw [whole]; rfl
    have run : s.enterSoak g = (v.ask 17 3 (heaterNext false g.recipe.target (s.climate.reading .solutionTemp))).setGroup (some { g with
        phase := .soak, run := 1, steps := 0, lowPump := 0
        heater := heaterNext false g.recipe.target (s.climate.reading .solutionTemp) }) := by
      rw [soak, State.decideHeater, reading]
      exact if_pos hw
    have decided := heaterNext_off (target := g.recipe.target) (reading := s.climate.reading .solutionTemp)
    generalize heaterNext false g.recipe.target (s.climate.reading .solutionTemp) = on at *
    rw [run]
    have heater := v.ask_skidded 3 on
    have soaked : (v.valve 17).next &&& 0x1F#8 = 0x10#8 := by
      have same : v.valve 17 = (s.askPhase .soak).valve 17 := othersO 17 (by decide)
      rw [same]; exact bits
    refine ⟨on, ?_, by simpa using decided, State.askHeater soaked on, fun _ x hx c hc => ?_, fun h => (by cases h),
      (NextOnly.trans next nextO).trans heater.next, (whole.trans heater.phased).trans (State.setGroup_phased _ _)⟩
    · rw [State.setGroup, heater.cleaning, cleaning, skid.cleaning]
    · obtain ⟨override, glycol⟩ := each _ (State.mem_groupTrunks hx hc)
      refine ⟨override, ?_⟩
      have same : (v.ask 17 3 on).valve 16 = v.valve 16 := heater.others 16 (by decide)
      exact (congrArg (fun p : GroupPatterns => p.next.getLsbD c.trunk.val) same).trans glycol

/-! ### Ends of runs (R147, R150, R151, R153, R154) -/

/-- A state with line records, pour records, kegs, zones, the active group and valve patterns taken from another. -/
def State.grouped (s t : State) : State :=
  { s with
    lineTable := { s.lineTable with lines := t.lineTable.lines }
    pourControl := { s.pourControl with pours := t.pourControl.pours }
    kegRegister := { s.kegRegister with kegs := t.kegRegister.kegs }
    climate := { s.climate with zones := t.climate.zones }
    cleaning := { s.cleaning with group := t.cleaning.group }
    valves := { s.valves with groups := t.valves.groups } }

/-- Nothing changes but line records, pour records, kegs, zones, the active group and valve patterns. -/
def Grouped (s t : State) : Prop := t = s.grouped t

theorem Grouped.trans (h : Grouped s t) (k : Grouped t u) : Grouped s u := by
  have e : t.grouped u = (s.grouped t).grouped u := congrArg (State.grouped · u) h
  exact Eq.trans k e

theorem Phased.grouped (h : Phased s t) : Grouped s t := by
  have e : s.phased t = s.grouped (s.phased t) := rfl
  rwa [← h] at e

theorem Lossy.grouped (h : Lossy s t) : Grouped s t := by
  have e : s.lossy t = s.grouped (s.lossy t) := rfl
  rwa [← h] at e

theorem Poured.grouped (h : Poured s t) : Grouped s t := by
  have e : s.poured t = s.grouped (s.poured t) := rfl
  rwa [← h] at e

/-- What a phase leaves alone. -/
theorem Phased.tables (h : Phased s t) : t.lineTable = s.lineTable ∧ t.kegRegister = s.kegRegister ∧ t.pourControl = s.pourControl :=
  ⟨congrArg (·.lineTable) h, congrArg (·.kegRegister) h, congrArg (·.pourControl) h⟩

/-- What the loss leaves alone. -/
theorem Lossy.rest (h : Lossy s t) : t.valves = s.valves ∧ t.climate = s.climate ∧ t.cleaning = s.cleaning ∧
    t.pourControl = s.pourControl :=
  ⟨congrArg (·.valves) h, congrArg (·.climate) h, congrArg (·.cleaning) h, congrArg (·.pourControl) h⟩

/-- What the abort of draws leaves alone. -/
theorem Poured.rest (h : Poured s t) : t.valves = s.valves ∧ t.climate = s.climate ∧ t.cleaning = s.cleaning ∧
    t.lineTable = s.lineTable ∧ t.kegRegister = s.kegRegister :=
  ⟨congrArg (·.valves) h, congrArg (·.climate) h, congrArg (·.cleaning) h, congrArg (·.lineTable) h, congrArg (·.kegRegister) h⟩

/-- Two lists of group lines have the same lines, with the same product held. -/
def SameLines (xs ys : List GroupLine) : Prop :=
  xs.map (fun x => (x.line, x.heldProduct)) = ys.map fun x => (x.line, x.heldProduct)

theorem SameLines.map {f : GroupLine → GroupLine} (h : ∀ x, (f x).line = x.line ∧ (f x).heldProduct = x.heldProduct)
    (xs : List GroupLine) : SameLines (xs.map f) xs := by
  simp only [SameLines, List.map_map]
  exact List.map_congr_left fun x _ => Prod.ext (h x).1 (h x).2

/-- The loss reads no more of the group than its mark, its lines and what they held. -/
theorem State.reportLoss_congr {k : Group} (hl : SameLines k.lines g.lines) (hr : k.lossReported = g.lossReported) (s : State) :
    s.reportLoss k = s.reportLoss g := by
  have pairs (xs : List GroupLine) (s : State) : xs.foldl State.reportLine s =
      (xs.map fun x => (x.line, x.heldProduct)).foldl (fun s x => s.reportLine ⟨x.1, x.2, .pending, 0, 0, none⟩) s := by
    rw [List.foldl_map]; rfl
  unfold State.reportLoss
  rw [hr, pairs, pairs, hl]

theorem State.foldl_reportLine_cfg (xs : List GroupLine) (s : State) (l : Line) :
    ((xs.foldl State.reportLine s).line l).cfg = (s.line l).cfg := by
  induction xs generalizing s with
  | nil => rfl
  | cons y xs ih =>
    refine (ih _).trans ?_
    obtain ⟨charged, spared, others, -⟩ := s.reportLine_spec y
    by_cases e : l = y.line
    · subst e
      cases h : y.heldProduct with
      | true => rw [(charged h).1]
      | false => rw [(spared h).1]
    · rw [(others l e).1]

theorem State.reportLoss_cfg (s : State) (g : Group) (l : Line) : ((s.reportLoss g).line l).cfg = (s.line l).cfg := by
  unfold State.reportLoss
  split
  · rfl
  · exact State.foldl_reportLine_cfg _ _ _

theorem State.owing_congr (h : ∀ l, (t.line l).cfg = (s.line l).cfg) (n : Nat) (xs : List GroupLine) : t.owing n xs = s.owing n xs := by
  simp only [State.owing, State.fillOf, h]

/-- A group left with no line that takes part goes to RELEASE, its loss charged (R154). -/
theorem State.abandon_spec (s : State) {ls : List GroupLine} (same : SameLines ls g.lines) :
    (s.abandon { g with lines := ls }).cleaning = { s.cleaning with group := some { g with
        phase := .release, run := 1, steps := 0, lowPump := 0, heater := false, lossReported := true, lines := ls } } ∧
    AskedSkid s (s.abandon { g with lines := ls }) 0#8 ∧
    (∀ x ∈ ls, ∀ c : LineCfg, g.phase = .soak → g.recipe.warm = true → (s.line x.line).cfg = some c →
      ((s.abandon { g with lines := ls }).zone c.trunk).override = false) ∧
    (g.phase ≠ .soak → (s.abandon { g with lines := ls }).climate = s.climate) ∧
    (s.abandon { g with lines := ls }).lineTable = (s.reportLoss g).lineTable ∧
    (s.abandon { g with lines := ls }).kegRegister = (s.reportLoss g).kegRegister ∧
    (s.abandon { g with lines := ls }).pourControl = s.pourControl ∧
    Grouped s (s.abandon { g with lines := ls }) := by
  have lossy := s.reportLoss_lossy g
  obtain ⟨valves, climate, cleaning, pours⟩ := lossy.rest
  have run : s.abandon { g with lines := ls } = (s.reportLoss g).enterRelease { g with lossReported := true, lines := ls } := by
    rw [State.abandon, State.reportLoss_congr (k := { g with lines := ls }) (g := g) same rfl]
  obtain ⟨group, skid, overrides, idle, phased⟩ := (s.reportLoss g).enterRelease_spec { g with lossReported := true, lines := ls }
  obtain ⟨lines, kegs, pours'⟩ := phased.tables
  rw [run]
  refine ⟨by rw [group, cleaning], AskedSkid.congr skid (congrArg (·.groups) valves.symm) rfl, fun x hx c hp hw hc => ?_,
    fun hp => (idle hp).trans climate, lines, kegs, pours'.trans pours, lossy.grouped.trans phased.grouped⟩
  exact overrides x hx c hp hw ((s.reportLoss_cfg g _).trans hc)

theorem strongEnough_iff {reading : Option Int} {n : Nat} :
    strongEnough reading n = true ↔ ∃ f : Int, reading = some f ∧ (n : Int) ≤ f := by
  cases reading <;> simp [strongEnough]

theorem cleanEnough_iff {reading : Option Int} {n : Nat} :
    cleanEnough reading n = true ↔ ∃ f : Int, reading = some f ∧ f ≤ (n : Int) := by
  cases reading <;> simp [cleanEnough]

theorem GroupLine.markWeak_eq : GroupLine.mark GroupResult.openOrAborted .failWeak = fun z : GroupLine => { z with
    result := if z.result = .pending ∨ z.result = .aborted then .failWeak else z.result } := by
  funext z
  obtain ⟨l, held, r, owed, delivered, draw⟩ := z
  cases r <;> rfl

/-- The end of a metered run, with all that it leaves alone. -/
def RunEnded (s u : State) (g : Group) (ls : List GroupLine) : Prop :=
  ∃ h : Group, u.cleaning = { s.cleaning with group := some h } ∧ RunEnds s u g ls h ∧
    (g.phase = .purge → (g.lines.map GroupLine.line).Nodup → LossCharged s u g) ∧
    (g.phase = .caustic ∨ SameBut s.valves.groups u.valves.groups 17) ∧ NextOnly s u ∧
    u.pourControl = s.pourControl ∧ Grouped s u

section
variable {ls : List GroupLine}

theorem State.endPurge_spec (s : State) (part : ∃ x ∈ ls, x.result.takesPart = true) (hp : g.phase = .purge) :
    RunEnded s ((s.reportLoss g).startRun { g with lossReported := true, lines := ls } .caustic 1) g ls := by
  have lossy := s.reportLoss_lossy g
  obtain ⟨valves, climate, cleaning, pours⟩ := lossy.rest
  obtain ⟨group, skid, climate', phased⟩ := (s.reportLoss g).startRun_spec (g := { g with lossReported := true, lines := ls })
    (Group.anyPart_iff.mpr part) .caustic 1
  obtain ⟨lines, kegs, pours'⟩ := phased.tables
  have asked : AskedSkid s _ _ := AskedSkid.congr skid (s' := s) (congrArg (·.groups) valves.symm) rfl
  rw [State.owing_congr (s.reportLoss_cfg g), cleaning] at group
  refine ⟨_, group, ⟨fun _ => ⟨asked, rfl⟩, fun h => ?_, fun strong h => ?_, fun h => absurd hp h,
    fun _ => climate'.trans climate⟩, fun _ hd => (s.reportLoss_charged hd).congr rfl rfl lines kegs, .inr asked.2.2, asked.2.1,
    pours'.trans pours, lossy.grouped.trans phased.grouped⟩
  · rw [hp] at h; cases h
  · rw [hp] at h; cases h

theorem State.endRinse_spec (s : State) (hp : g.phase = .rinse) : RunEnded s (s.enterVerify { g with lines := ls }) g ls := by
  obtain ⟨group, skid, climate, phased⟩ := s.enterVerify_spec { g with lines := ls }
  obtain ⟨lines, kegs, pours⟩ := phased.tables
  refine ⟨_, group, ⟨fun h => ?_, fun _ => ⟨skid, rfl⟩, fun strong h => ?_, fun _ => ⟨lines, kegs⟩,
    fun _ => climate⟩, fun h => ?_, .inr skid.2.2, skid.2.1, pours, phased.grouped⟩
  · rw [hp] at h; cases h
  · rw [hp] at h; cases h
  · rw [hp] at h; cases h

theorem State.endCaustic_spec (s : State) (part : ∃ x ∈ ls, x.result.takesPart = true) (hp : g.phase = .caustic) :
    RunEnded s (s.endCaustic { g with lines := ls }) g ls := by
  have notPurge : g.phase ≠ .purge := by rw [hp]; decide
  have notRinse : g.phase ≠ .rinse := by rw [hp]; decide
  have anyPart : ({ g with lines := ls } : Group).anyPart = true := Group.anyPart_iff.mpr part
  by_cases hs : strongEnough (s.climate.reading .solutionCond) g.recipe.condMin = true
  · have run : s.endCaustic { g with lines := ls } = s.enterSoak { g with lines := ls } := if_pos hs
    rw [run]
    obtain ⟨on, group, heater, skid, warm, cold, next, phased⟩ := s.enterSoak_spec { g with lines := ls }
    obtain ⟨lines, kegs, pours⟩ := phased.tables
    exact ⟨_, group, ⟨fun h => absurd h notPurge, fun h => absurd h notRinse, fun strong _ hstrong =>
      ⟨fun _ => ⟨rfl, heater, skid, warm, cold⟩, fun h => absurd (hstrong.mpr (strongEnough_iff.mp hs)) h,
        fun h => absurd (hstrong.mpr (strongEnough_iff.mp hs)) h⟩, fun _ => ⟨lines, kegs⟩, fun h => absurd hp h⟩,
      fun h => absurd h notPurge, .inl hp, next, pours, phased.grouped⟩
  have weak (strong : Prop) (hstrong : strong ↔ ∃ f : Int, s.climate.reading .solutionCond = some f ∧ (g.recipe.condMin : Int) ≤ f) :
      ¬strong := fun h => hs (strongEnough_iff.mpr (hstrong.mp h))
  by_cases h1 : g.run = 1
  · have run : s.endCaustic { g with lines := ls } = s.startRun { g with lines := ls } .caustic 2 :=
      (if_neg hs).trans (if_pos h1)
    rw [run]
    obtain ⟨group, skid, climate, phased⟩ := s.startRun_spec anyPart .caustic 2
    obtain ⟨lines, kegs, pours⟩ := phased.tables
    exact ⟨_, group, ⟨fun h => absurd h notPurge, fun h => absurd h notRinse, fun strong _ hstrong =>
      ⟨fun h => absurd h (weak strong hstrong), fun _ _ => ⟨skid, climate, rfl⟩, fun _ h => absurd h1 h⟩, fun _ => ⟨lines, kegs⟩,
      fun h => absurd hp h⟩, fun h => absurd h notPurge, .inl hp, skid.2.1, pours, phased.grouped⟩
  · have run : s.endCaustic { g with lines := ls } = s.startRun { g with lines := ls.map fun z => { z with
        result := if z.result = .pending ∨ z.result = .aborted then .failWeak else z.result } } .rinse 1 := by
      rw [← GroupLine.markWeak_eq]
      exact (if_neg hs).trans (if_neg h1)
    have still : ({ g with lines := ls.map fun z => { z with
        result := if z.result = .pending ∨ z.result = .aborted then .failWeak else z.result } } : Group).anyPart = true := by
      obtain ⟨x, hx, takes⟩ := part
      refine Group.anyPart_iff.mpr ⟨_, List.mem_map_of_mem hx, ?_⟩
      dsimp only
      split
      · rfl
      · exact takes
    rw [run]
    obtain ⟨group, skid, climate, phased⟩ := s.startRun_spec still .rinse 1
    obtain ⟨lines, kegs, pours⟩ := phased.tables
    exact ⟨_, group, ⟨fun h => absurd h notPurge, fun h => absurd h notRinse, fun strong _ hstrong =>
      ⟨fun h => absurd h (weak strong hstrong), fun _ h => absurd h h1, fun _ _ => ⟨skid, climate, rfl⟩⟩, fun _ => ⟨lines, kegs⟩,
      fun h => absurd hp h⟩, fun h => absurd h notPurge, .inl hp, skid.2.1, pours, phased.grouped⟩

/-- The end of a metered run in which a line still takes part (R147, R150, R151, R153). -/
theorem State.endRun_spec (s : State) (same : SameLines ls g.lines) (hp : g.phase = .purge ∨ g.phase = .caustic ∨ g.phase = .rinse)
    (part : ∃ x ∈ ls, x.result.takesPart = true) : RunEnded s (s.endRun { g with lines := ls }) g ls := by
  have run (p : Phase) (hp : g.phase = p) : s.endRun { g with lines := ls } = match (generalizing := false) p with
      | .purge => (s.reportLoss g).startRun { g with lossReported := true, lines := ls } .caustic 1
      | .caustic => s.endCaustic { g with lines := ls }
      | .rinse => s.enterVerify { g with lines := ls }
      | _ => s.setGroup (some { g with lines := ls }) := by
    subst hp
    rw [← State.reportLoss_congr (k := { g with lines := ls }) (g := g) same rfl]
    exact if_pos (Group.anyPart_iff (g := { g with lines := ls }).mpr part)
  obtain hp | hp | hp := hp
  · rw [run _ hp]; exact s.endPurge_spec part hp
  · rw [run _ hp]; exact s.endCaustic_spec part hp
  · rw [run _ hp]; exact s.endRinse_spec hp

/-- The end of a metered run in which no line takes part any more (R154). -/
theorem State.endRun_abandons (s : State) (none : ∀ x ∈ ls, x.result.takesPart = false) :
    s.endRun { g with lines := ls } = s.abandon { g with lines := ls } :=
  if_neg fun h => by
    obtain ⟨x, hx, takes⟩ := Group.anyPart_iff.mp h
    rw [none x hx] at takes
    cases takes

end

end

end Sys2Proof.Machine
end

section
/-! PROOF. The cleaning commands, and the steps of a group that end it or end a phase. -/

namespace Sys2Proof.Machine
open Sys2Proof.Laws

section
variable {s t u : State} {g : Group}

/-! ### Sets of lines -/

theorem getLsbD_lineSet (xs : List Line) (l : Line) : (lineSet xs).getLsbD l.val = true ↔ l ∈ xs := by
  have go (xs : List Line) (b : LineSet) : (xs.foldl (fun b l => b ||| member l.val) b).getLsbD l.val = true ↔
      b.getLsbD l.val = true ∨ l ∈ xs := by
    induction xs generalizing b with
    | nil => simp
    | cons x xs ih =>
      rw [List.foldl_cons, ih, BitVec.getLsbD_or, getLsbD_member, Bool.or_eq_true, List.mem_cons, or_assoc]
      simp [Fin.ext_iff]
  rw [lineSet, go]
  simp

theorem lineSet_eq {xs : List Line} {r : LineSet} (h : ∀ l : Line, r.getLsbD l.val = true ↔ l ∈ xs) : lineSet xs = r :=
  BitVec.eq_of_getLsbD_eq fun i hi => Bool.eq_iff_iff.mpr ((getLsbD_lineSet xs ⟨i, hi⟩).trans (h ⟨i, hi⟩).symm)

theorem lineSet_map_eq {α : Type} {xs : List α} {f : α → Line} {r : LineSet}
    (h : ∀ l : Line, r.getLsbD l.val = true ↔ ∃ x ∈ xs, f x = l) : lineSet (xs.map f) = r :=
  lineSet_eq fun l => (h l).trans (by simp)

theorem readRecipe_val (n : Fin 4) : readRecipe n.val = some n := dif_pos n.isLt

theorem readRecipe_none {n : Nat} (h : 4 ≤ n) : readRecipe n = none := dif_neg (by omega)

end

/-- Settles O45: each command by its operands. -/
theorem recipesSettingsAndSubmissions : Obligations.RecipesSettingsAndSubmissions := by
  unfold Obligations.RecipesSettingsAndSubmissions
  intro s released
  refine ⟨fun a ha => ?_, fun a n r ha hr => ?_, fun n m => ?_, fun ls n hn => ?_, fun ls n none => ?_,
    fun ls added skipped n some hadded hskipped => ?_⟩
  · refine (State.running_of_released (f := takeRecipeSet a) released).trans (congrArg _ ?_)
    rw [takeRecipeSet, readRecipe_none ha]; rfl
  · refine (State.running_of_released (f := takeRecipeSet a) released).trans (congrArg _ ?_)
    have recipe : recipeOf a = r := by
      rw [hr, recipeOf, clampNat_zero, clampNat_zero]; rfl
    rw [takeRecipeSet, ha, readRecipe_val, recipe]; rfl
  · refine (State.running_of_released (f := takeCleanSet n m) released).trans (congrArg _ ?_)
    rw [takeCleanSet, clampNat_zero]; rfl
  · refine (State.running_of_released (f := takeCleanSubmit ls n) released).trans (congrArg _ ?_)
    rw [takeCleanSubmit, readRecipe_none hn]; rfl
  · refine (State.running_of_released (f := takeCleanSubmit ls n.val) released).trans (congrArg _ ?_)
    rw [takeCleanSubmit, readRecipe_val]
    dsimp only
    rw [none]; rfl
  · refine (State.running_of_released (f := takeCleanSubmit ls n.val) released).trans (congrArg _ ?_)
    obtain ⟨r, hr⟩ := Option.ne_none_iff_exists'.mp some
    have keeps (l : Line) : (ls.getLsbD l.val = true ∧ s.skipsSubmit l = false) ↔ added.getLsbD l.val = true := by
      rw [hadded, State.skipsSubmit, State.queued]
      simp [and_assoc]
    have new : s.appended ls = (indices 32).filter fun l => added.getLsbD l.val := by
      rw [State.appended, members, List.filter_filter]
      refine List.filter_congr fun l _ => Bool.eq_iff_iff.mpr ?_
      rw [← keeps l]
      simp [and_comm]
    have set : lineSet ((indices 32).filter fun l => added.getLsbD l.val) = added := lineSet_eq fun l => by simp
    have rest : lineSet ((members ls).filter s.skipsSubmit) = skipped := lineSet_eq fun l => by
      have bit : added.getLsbD l.val = (ls.getLsbD l.val && !s.skipsSubmit l) :=
        Bool.eq_iff_iff.mpr ((keeps l).symm.trans (by simp))
      rw [hskipped, BitVec.getLsbD_and, BitVec.getLsbD_not, List.mem_filter, members, List.mem_filter, bit]
      cases ls.getLsbD l.val <;> cases s.skipsSubmit l <;> simp
    rw [takeCleanSubmit, readRecipe_val]
    dsimp only
    rw [hr]
    dsimp only
    rw [new, set, rest]
    rfl

/-! ### The ends of a group (R150, R154, R157, R158) -/

section
variable {s t u : State} {g : Group} {ls : List GroupLine}

theorem Grouped.whole (h : Grouped s t) : t = { s.grouped t with cleaning := t.cleaning } := by
  have e : (s.grouped t).cleaning = t.cleaning := (congrArg (·.cleaning) h).symm
  rw [← e]
  exact h

theorem sameLines_result (f : GroupLine → GroupResult) (xs : List GroupLine) :
    SameLines (xs.map fun x => { x with result := f x }) xs :=
  SameLines.map (f := fun x => { x with result := f x }) (fun _ => ⟨rfl, rfl⟩) xs

/-- A group that has gone to RELEASE with its draws aborted and its loss charged. -/
structure Closed (s u : State) (g : Group) (ls : List GroupLine) : Prop where
  cleaning : u.cleaning = { s.cleaning with group := some { g with
    phase := .release, run := 1, steps := 0, lowPump := 0, heater := false, lossReported := true, lines := ls } }
  skid : AskedSkid s u 0#8
  overrides : ∀ x ∈ ls, ∀ c : LineCfg, g.phase = .soak → g.recipe.warm = true → (s.line x.line).cfg = some c →
    (u.zone c.trunk).override = false
  climate : g.phase ≠ .soak → u.climate = s.climate
  charged : (g.lines.map GroupLine.line).Nodup → LossCharged s u g
  reported : g.lossReported = true → u.lineTable = s.lineTable ∧ u.kegRegister = s.kegRegister
  frame : Grouped s u

theorem State.abandon_closed (s : State) (same : SameLines ls g.lines) : Closed s (s.abandon { g with lines := ls }) g ls := by
  obtain ⟨cleaning, skid, overrides, climate, lines, kegs, -, frame⟩ := s.abandon_spec same
  refine ⟨cleaning, skid, overrides, climate, fun hd => (s.reportLoss_charged hd).congr rfl rfl lines kegs, fun hr => ?_, frame⟩
  rw [lines, kegs, State.reportLoss_reported hr]
  exact ⟨rfl, rfl⟩

/-- Aborted draws change nothing that the end of a group reads or charges. -/
theorem Closed.after_aborts (h : Poured s t) (k : Closed t u g ls) : Closed s u g ls := by
  obtain ⟨valves, climate, cleaning, lines, kegs⟩ := h.rest
  exact ⟨by rw [k.cleaning, cleaning], AskedSkid.congr k.skid (congrArg (·.groups) valves.symm) rfl,
    fun x hx c hp hw hc => k.overrides x hx c hp hw (by rw [State.line, lines]; exact hc), fun hp => (k.climate hp).trans climate,
    fun hd => (k.charged hd).congr lines.symm kegs.symm rfl rfl, fun hr => by rw [← lines, ← kegs]; exact k.reported hr,
    h.grouped.trans k.frame⟩

/-- The open draws of a group line tail with reason ABORT, as they stand in `s`. -/
def Aborted (s u : State) (g : Group) : Prop :=
  ∀ x ∈ g.lines, ∀ (p : Pour) (n bf bp : Nat), (s.pour x.line).record = .pouring p n bf bp → p.kind = .clean →
    (u.pour x.line).record = .tailing p n p.v .abort 0 0

/-- The pours of other lines stay. -/
def OtherPours (s u : State) (g : Group) : Prop := ∀ l, (∀ x ∈ g.lines, x.line ≠ l) → u.pour l = s.pour l

theorem State.abandon_aborts (s : State) (same : SameLines ls g.lines) :
    Closed s ((s.abortDraws g.lines).abandon { g with lines := ls }) g ls ∧
    Aborted s ((s.abortDraws g.lines).abandon { g with lines := ls }) g ∧
    OtherPours s ((s.abortDraws g.lines).abandon { g with lines := ls }) g := by
  obtain ⟨-, frame⟩ := State.abortDraws_spec g.lines s
  obtain ⟨-, -, -, -, -, -, pours, -⟩ := (s.abortDraws g.lines).abandon_spec same
  refine ⟨((s.abortDraws g.lines).abandon_closed same).after_aborts frame, fun x hx p n bf bp hp hk => ?_, fun l hl => ?_⟩
  · rw [State.pour, pours]; exact State.abortDraws_open hx hp hk
  · rw [State.pour, pours]; exact State.abortDraws_other hl

theorem State.haltGroup_eq (s : State) (hp : g.phase ≠ .release) :
    s.haltGroup g = (s.abortDraws g.lines).abandon { g with lines := g.lines.map fun x => { x with result := .halted } } := by
  have loss := State.reportLoss_congr (g := g) (k := { g with lines := g.lines.map fun x => { x with result := .halted } })
    (sameLines_result _ _) rfl (s.abortDraws g.lines)
  rw [State.abandon, loss]
  exact if_neg hp

theorem State.haltGroup_release (s : State) (hp : g.phase = .release) :
    s.haltGroup g = s.setGroup (some { g with lines := g.lines.map fun x => { x with result := .halted } }) := if_pos hp

theorem State.pumpFailed_idle (h : ∀ g, s.cleaning.group = some g → g.phase.metered = false ∨ g.lowPump < 5) : s.pumpFailed = s := by
  unfold State.pumpFailed
  split
  · next g hg =>
    refine if_neg fun ⟨metered, low⟩ => ?_
    obtain h | h := h g hg
    · rw [h] at metered; cases metered
    · omega
  · rfl

theorem Phase.metered_iff {p : Phase} : p.metered = true ↔ p = .purge ∨ p = .caustic ∨ p = .rinse := by
  cases p <;> simp [Phase.metered]

theorem State.pumpFailed_due (hg : s.cleaning.group = some g) (hp : g.phase = .purge ∨ g.phase = .caustic ∨ g.phase = .rinse)
    (low : 5 ≤ g.lowPump) : s.pumpFailed = s.raisePump.haltGroup g := by
  unfold State.pumpFailed
  rw [hg]
  exact if_pos ⟨Phase.metered_iff.mpr hp, low⟩

end

/-- Settles O47: a group in RELEASE is marked, and one before it is closed, under CLEAN_HALT and under PUMP_FAULT alike. -/
theorem haltsEndTheGroup : Obligations.HaltsEndTheGroup := by
  unfold Obligations.HaltsEndTheGroup
  intro s i released
  have halt : exec .cleanHalt s = .next (takeCleanHalt s) := State.running_of_released released
  refine ⟨fun none r hr => ?_, fun g hg hp h r hh hr => ?_, fun idle => ?_, fun g hg hp hi => ?_⟩
  · refine halt.trans (congrArg (fun x : State => Host.Outcome.next x.follow) ?_)
    have idle : (s.setCleanQueue []).faultHalt = s.setCleanQueue [] := by
      have hg : (s.setCleanQueue []).cleaning.group = Option.none := none
      rw [State.faultHalt, hg]
    rw [idle, lineSet_map_eq hr, State.groupLines, none]
    rfl
  · refine halt.trans (congrArg (fun x : State => Host.Outcome.next x.follow) ?_)
    have marked : (s.setCleanQueue []).faultHalt = (s.setCleanQueue []).setGroup
        (some { g with lines := g.lines.map fun x => { x with result := .halted } }) := by
      have hg : (s.setCleanQueue []).cleaning.group = some g := hg
      rw [State.faultHalt, hg, ← State.haltGroup_release _ hp]
    rw [marked, lineSet_map_eq hr, State.groupLines, hg]
    dsimp only
    rw [lineSet_map_eq hh]
    rfl
  · exact (State.running_of_released (f := takePumpFault) released).trans
      (congrArg (fun x : State => Host.Outcome.next x.follow) (State.pumpFailed_idle idle))
  have same : SameLines (g.lines.map fun x => { x with result := .halted }) g.lines := sameLines_result _ _
  obtain rfl | ⟨rfl, metered, low⟩ := hi
  · have halted : (s.setCleanQueue []).faultHalt = ((s.setCleanQueue []).abortDraws g.lines).abandon
        { g with lines := g.lines.map fun x => { x with result := .halted } } := by
      have hg : (s.setCleanQueue []).cleaning.group = some g := hg
      rw [State.faultHalt, hg, ← State.haltGroup_eq _ hp]
    obtain ⟨closed, aborted, -⟩ := (s.setCleanQueue []).abandon_aborts same
    rw [← halted] at closed aborted
    refine ⟨_, halt, ?_⟩
    generalize (s.setCleanQueue []).faultHalt = v at *
    refine ⟨closed.cleaning, closed.skid.1, closed.skid.2.2, closed.skid.2.1, aborted, fun x hx c => ?_, closed.reported, closed.charged,
      ?_, fun _ h r hh hr => ?_, fun h => (by cases h), ?_⟩
    · exact closed.overrides _ (List.mem_map_of_mem hx) c
    · rw [if_neg (by simp)]
      exact congrArg (·.link.attention) closed.frame
    · rw [← lineSet_map_eq hh, ← lineSet_map_eq hr, State.groupLines, hg]
      rfl
    · generalize bytesBE 4 (lineSet s.groupLines).toNat ++ bytesBE 4 (lineSet (s.cleaning.queue.map CleanEntry.line)).toNat = answer
      have attention : (v.ok answer).link.attention = s.link.attention := congrArg (·.link.attention) closed.frame
      rw [attention]
      exact congrArg (State.ok · answer) closed.frame.whole
  · have halted : s.pumpFailed = (s.raisePump.abortDraws g.lines).abandon
        { g with lines := g.lines.map fun x => { x with result := .halted } } := by
      rw [State.pumpFailed_due hg metered low, State.haltGroup_eq _ hp]
    obtain ⟨closed, aborted, -⟩ := s.raisePump.abandon_aborts same
    rw [← halted] at closed aborted
    refine ⟨_, State.running_of_released (f := takePumpFault) released, ?_⟩
    generalize s.pumpFailed = v at *
    refine ⟨closed.cleaning, closed.skid.1, closed.skid.2.2, closed.skid.2.1, aborted, fun x hx c => ?_, closed.reported, closed.charged,
      ?_, fun h => (by cases h), fun _ => congrArg (·.answer) closed.frame, ?_⟩
    · exact closed.overrides _ (List.mem_map_of_mem hx) c
    · rw [if_pos rfl]
      exact congrArg (·.link.attention) closed.frame
    · have answer : v.answer = s.answer := congrArg (·.answer) closed.frame
      have attention : v.link.attention = s.raisePump.link.attention := congrArg (·.link.attention) closed.frame
      rw [answer, attention]
      exact closed.frame.whole

/-! ### Timeouts and the end of a soak (R148, R152) -/

section
variable {s t u : State} {g : Group} {ls : List GroupLine}

/-- Aborted draws change nothing that the end of a run reads or charges. -/
theorem RunEnded.after_aborts (h : Poured s t) (k : RunEnded t u g ls) : ∃ x : Group,
    u.cleaning = { s.cleaning with group := some x } ∧ RunEnds s u g ls x ∧
    (g.phase = .purge → (g.lines.map GroupLine.line).Nodup → LossCharged s u g) ∧
    (g.phase = .caustic ∨ SameBut s.valves.groups u.valves.groups 17) ∧ NextOnly s u ∧
    u.pourControl = t.pourControl ∧ Grouped s u := by
  obtain ⟨x, cleaning, ends, charged, others, next, pours, frame⟩ := k
  have grouped := h.grouped.trans frame
  generalize hp : t.pourControl = p at pours
  have same : t = { s with pourControl := { s.pourControl with pours := t.pourControl.pours } } := h
  generalize t.pourControl.pours = ps at same
  subst same
  exact ⟨x, cleaning, ends, charged, others, next, pours, grouped⟩

theorem State.runTimeout_idle (h : ∀ g, s.cleaning.group = some g → g.phase.metered = false ∨ g.steps < g.recipe.timeout) :
    s.runTimeout = s := by
  unfold State.runTimeout
  split
  · next g hg =>
    refine if_neg fun ⟨metered, due⟩ => ?_
    obtain h | h := h g hg
    · rw [h] at metered; cases metered
    · omega
  · rfl

theorem GroupLine.owing_iff {x : GroupLine} : x.owing = true ↔ x.result.takesPart = true ∧ 0 < x.owed := by
  simp [GroupLine.owing]

theorem GroupLine.timeOut_eq : GroupLine.timeOut = fun x : GroupLine => { x with
    result := if x.result.takesPart = true ∧ 0 < x.owed then .failTimeout else x.result } := by
  funext x
  unfold GroupLine.timeOut
  by_cases h : x.owing = true
  · rw [if_pos h, if_pos (GroupLine.owing_iff.mp h)]
  · rw [if_neg h, if_neg fun k => h (GroupLine.owing_iff.mpr k)]

theorem State.runTimeout_due (hg : s.cleaning.group = some g) (hp : g.phase = .purge ∨ g.phase = .caustic ∨ g.phase = .rinse)
    (due : g.recipe.timeout ≤ g.steps) : s.runTimeout = (s.abortDraws (g.lines.filter GroupLine.owing)).endRun { g with
      lines := g.lines.map fun x => { x with
        result := if x.result.takesPart = true ∧ 0 < x.owed then .failTimeout else x.result } } := by
  unfold State.runTimeout
  rw [hg, ← GroupLine.timeOut_eq]
  exact if_pos ⟨Phase.metered_iff.mpr hp, due⟩

theorem State.finishSoak_idle (h : ∀ g, s.cleaning.group = some g → g.phase ≠ .soak ∨ g.steps < g.recipe.soak) :
    s.finishSoak = s := by
  unfold State.finishSoak
  split
  · next g hg =>
    refine if_neg fun ⟨soak, due⟩ => ?_
    obtain h | h := h g hg
    · exact h soak
    · omega
  · rfl

theorem State.finishSoak_due (hg : s.cleaning.group = some g) (hp : g.phase = .soak) (due : g.recipe.soak ≤ g.steps) :
    s.finishSoak = (s.endHeating g).startRun g .rinse 1 := by
  unfold State.finishSoak
  rw [hg]
  exact if_pos ⟨hp, due⟩

/-- The heating of a group ends, and its RINSE begins (R152, R157). -/
theorem State.rinse_spec (s : State) (part : ∃ x ∈ ls, x.result.takesPart = true) :
    ((s.endHeating g).startRun { g with lines := ls } .rinse 1).cleaning = { s.cleaning with group := some { g with
        phase := .rinse, run := 1, steps := 0, lowPump := 0, heater := false, lines := s.owing g.recipe.rinse ls } } ∧
    AskedSkid s ((s.endHeating g).startRun { g with lines := ls } .rinse 1) 0x13#8 ∧
    (∀ x ∈ g.lines, ∀ c : LineCfg, g.phase = .soak → g.recipe.warm = true → (s.line x.line).cfg = some c →
      (((s.endHeating g).startRun { g with lines := ls } .rinse 1).zone c.trunk).override = false) ∧
    Phased s ((s.endHeating g).startRun { g with lines := ls } .rinse 1) := by
  obtain ⟨next, others, overrides, -, kept, frame⟩ := s.endHeating_spec g
  obtain ⟨group, skid, climate, phased⟩ := (s.endHeating g).startRun_spec (g := { g with lines := ls })
    (Group.anyPart_iff.mpr part) .rinse 1
  rw [kept, State.owing_congr (s := s) (fun l => by rw [frame]; rfl)] at group
  refine ⟨group, ⟨skid.1, next.trans skid.2.1, others.of_trans skid.2.2⟩, fun x hx c hp hw hc => ?_, frame.trans phased⟩
  exact (congrArg (fun c : Climate => (look c.zones _).override) climate).trans (overrides x hx c hp hw hc)

theorem Phased.whole (h : Phased s t) : t = { s.phased t with cleaning := t.cleaning } := by
  have e : (s.phased t).cleaning = t.cleaning := (congrArg (·.cleaning) h).symm
  rw [← e]
  exact h

end

/-- Settles O48: what is not due, a timeout by the lines that are left, and the end of a soak. -/
theorem timeoutsAndSoaksEndTheirPhase : Obligations.TimeoutsAndSoaksEndTheirPhase := by
  unfold Obligations.TimeoutsAndSoaksEndTheirPhase
  intro s released
  refine ⟨fun idle => ?_, fun idle => ?_, fun g hg due hp => ?_, fun g hg hp due part => ?_⟩
  · exact (State.running_of_released (f := takePhaseTimeout) released).trans
      (congrArg (fun x : State => Host.Outcome.next x.follow) (State.runTimeout_idle idle))
  · exact (State.running_of_released (f := takeSoakEnd) released).trans
      (congrArg (fun x : State => Host.Outcome.next x.follow) (State.finishSoak_idle idle))
  · have run : exec .phaseTimeout s = .next (s.runTimeout).follow := State.running_of_released (f := takePhaseTimeout) released
    rw [State.runTimeout_due hg hp due] at run
    have same := sameLines_result (fun x => if x.result.takesPart = true ∧ 0 < x.owed then .failTimeout else x.result) g.lines
    have notSoak : g.phase ≠ .soak := by obtain h | h | h := hp <;> rw [h] <;> decide
    obtain ⟨-, poured⟩ := State.abortDraws_spec (g.lines.filter GroupLine.owing) s
    have aborted : ∀ x ∈ g.lines, x.result.takesPart = true → 0 < x.owed → ∀ (p : Pour) (n bf bp : Nat),
        (s.pour x.line).record = .pouring p n bf bp → p.kind = .clean →
        ((s.abortDraws (g.lines.filter GroupLine.owing)).pour x.line).record = .tailing p n p.v .abort 0 0 :=
      fun x hx takes owes p n bf bp hp hk =>
        State.abortDraws_open (List.mem_filter.mpr ⟨hx, GroupLine.owing_iff.mpr ⟨takes, owes⟩⟩) hp hk
    have kept : ∀ l : Line, (∀ x ∈ g.lines, x.line = l → ¬(x.result.takesPart = true ∧ 0 < x.owed)) →
        (s.abortDraws (g.lines.filter GroupLine.owing)).pour l = s.pour l :=
      fun l h => State.abortDraws_other fun x hx e => by
        obtain ⟨hx, owes⟩ := List.mem_filter.mp hx
        exact h x hx e (GroupLine.owing_iff.mp owes)
    by_cases part : ∃ x ∈ g.lines, x.result.takesPart = true ∧ x.owed = 0
    · obtain ⟨y, hy, takes, none⟩ := part
      have still : ∃ x ∈ g.lines.map (fun x => { x with
          result := if x.result.takesPart = true ∧ 0 < x.owed then .failTimeout else x.result }), x.result.takesPart = true := by
        refine ⟨_, List.mem_map_of_mem hy, ?_⟩
        rw [if_neg fun h => by omega]
        exact takes
      obtain ⟨h, cleaning, ends, charged, others, next, pours, frame⟩ :=
        ((s.abortDraws (g.lines.filter GroupLine.owing)).endRun_spec same hp still).after_aborts poured
      refine ⟨_, h, _, run, cleaning, rfl, ?_, ?_, fun all => ?_, fun _ => ⟨ends, charged⟩, others, next, frame.whole⟩
      · simp only [State.pour, pours]; exact aborted
      · simp only [State.pour, pours]; exact kept
      · have := all y hy takes
        omega
    · have gone : ∀ x ∈ g.lines.map (fun x => { x with
          result := if x.result.takesPart = true ∧ 0 < x.owed then .failTimeout else x.result }), x.result.takesPart = false := by
        intro x hx
        obtain ⟨y, hy, rfl⟩ := List.mem_map.mp hx
        cases takes : y.result.takesPart with
        | false => simp [takes]
        | true =>
          have owes : 0 < y.owed := Nat.pos_of_ne_zero fun e => part ⟨y, hy, takes, e⟩
          rw [if_pos ⟨rfl, owes⟩]; rfl
      rw [State.endRun_abandons _ gone] at run
      have closed := ((s.abortDraws (g.lines.filter GroupLine.owing)).abandon_closed same).after_aborts poured
      obtain ⟨-, -, -, -, -, -, pours, -⟩ := (s.abortDraws (g.lines.filter GroupLine.owing)).abandon_spec same
      refine ⟨_, _, _, run, closed.cleaning, rfl, ?_, ?_, fun _ => ⟨closed.skid, closed.climate notSoak, rfl, closed.charged⟩,
        fun ⟨x, hx, takes, e⟩ => absurd ⟨x, hx, takes, e⟩ part, .inr closed.skid.2.2, closed.skid.2.1, closed.frame.whole⟩
      · simp only [State.pour, pours]; exact aborted
      · simp only [State.pour, pours]; exact kept
  · have run : exec .soakEnd s = .next (s.finishSoak).follow := State.running_of_released (f := takeSoakEnd) released
    rw [State.finishSoak_due hg hp due] at run
    obtain ⟨cleaning, skid, overrides, phased⟩ := s.rinse_spec (g := g) part
    exact ⟨_, run, cleaning, skid.1, skid.2.2, skid.2.1, fun x hx c => overrides x hx c hp, phased.whole⟩

/-! ### CLEAN_ABORT (R157) -/

section
variable {s t u : State} {g : Group} {ls : List GroupLine}

theorem Group.aborted_eq (g : Group) : g.aborted = { g with lines := g.lines.map fun x => { x with
    result := if x.result = .pending then .aborted else x.result } } := by
  have mark : GroupLine.mark (· == .pending) .aborted = fun x : GroupLine => { x with
      result := if x.result = .pending then .aborted else x.result } := by
    funext x
    by_cases h : x.result = .pending <;> simp [GroupLine.mark, h]
  rw [Group.aborted, Group.mapLines, mark]

theorem GroupResult.takesPart_aborted (r : GroupResult) : (if r = .pending then .aborted else r : GroupResult).takesPart = r.takesPart := by
  cases r <;> rfl

theorem State.owing_aborted (n : Nat) (xs : List GroupLine) :
    s.owing n (xs.map fun x => { x with result := if x.result = .pending then .aborted else x.result }) =
    xs.map fun x => { x with
      result := if x.result = .pending then .aborted else x.result
      owed := if x.result.takesPart then (s.fillOf x.line * n + 99) / 100 else x.owed
      delivered := if x.result.takesPart then 0 else x.delivered } := by
  rw [State.owing, List.map_map]
  refine List.map_congr_left fun x _ => ?_
  simp only [Function.comp_apply, GroupResult.takesPart_aborted]

theorem State.abortGroup_released (s : State) (hp : g.phase = .take ∨ g.phase = .purge) :
    s.abortGroup g = some ((s.abortDraws g.lines).abandon { g with lines := g.lines.map fun x => { x with
      result := if x.result = .pending then .aborted else x.result } }) := by
  have loss := State.reportLoss_congr (g := g) (k := { g with lines := g.lines.map fun x => { x with
    result := if x.result = .pending then .aborted else x.result } }) (sameLines_result _ _) rfl (s.abortDraws g.lines)
  rw [State.abandon, loss, ← Group.aborted_eq]
  unfold State.abortGroup
  obtain hp | hp := hp
  · rw [hp]
  · rw [hp]

theorem State.abortGroup_rinsed (s : State) (hp : g.phase = .caustic ∨ g.phase = .soak) :
    s.abortGroup g = some (((s.abortDraws g.lines).endHeating g).startRun { g with lines := g.lines.map fun x => { x with
      result := if x.result = .pending then .aborted else x.result } } .rinse 1) := by
  rw [← Group.aborted_eq]
  unfold State.abortGroup
  obtain hp | hp := hp
  · rw [hp]
  · rw [hp]

theorem State.abortGroup_past (s : State) (hp : g.phase = .rinse ∨ g.phase = .verify ∨ g.phase = .release) : s.abortGroup g = none := by
  unfold State.abortGroup
  obtain hp | hp | hp := hp
  · rw [hp]
  · rw [hp]
  · rw [hp]

theorem Grouped.cool (h : Grouped s t) (hc : t.climate = s.climate) : t = { s.grouped t with
    climate := s.climate, cleaning := t.cleaning } := by
  have e : ({ s.climate with zones := t.climate.zones } : Climate) = s.climate := by rw [hc]
  exact h.whole.trans (congrArg (fun c : Climate => { s.grouped t with climate := c, cleaning := t.cleaning }) e)

/-- A loss that the headroom holds is charged whole (R69). -/
theorem KegRec.withShares_loss {k : KegRec} {n : Nat} (room : k.drawn + n ≤ maxTotal) :
    k.withShares 0 0 0 n = { k with loss := k.loss + n, drawn := k.drawn + n } := by
  have h : min n (maxTotal - k.drawn) = n := by omega
  simp [KegRec.withShares, h]

end

/-- Settles O46: the queue entries, then the group by its phase. -/
theorem cleanAbortActsByThePhase : Obligations.CleanAbortActsByThePhase := by
  unfold Obligations.CleanAbortActsByThePhase
  intro s ls removed q released hremoved hq
  have set : lineSet (s.queuedIn ls) = removed := lineSet_map_eq fun l => (hremoved l).trans (by
    constructor
    · rintro ⟨hl, e, he, rfl⟩
      exact ⟨e, List.mem_filter.mpr ⟨he, hl⟩, rfl⟩
    · rintro ⟨e, he, rfl⟩
      obtain ⟨he, hl⟩ := List.mem_filter.mp he
      exact ⟨hl, e, he, rfl⟩)
  have unqueue : s.unqueue ls = s.setCleanQueue q := by rw [hq]; rfl
  have run : exec (.cleanAbort ls) s = .next (takeCleanAbort ls s) := State.running_of_released (f := takeCleanAbort ls) released
  have named {g : Group} (hg : s.cleaning.group = some g) (h : ∃ x ∈ g.lines, ls.getLsbD x.line.val = true) :
      s.namedGroup ls = some g := by
    rw [State.namedGroup, hg]
    exact if_pos (List.any_eq_true.mpr h)
  refine ⟨fun apart => run.trans (congrArg _ ?_), fun g hg hnamed => ⟨fun hp => run.trans (congrArg _ ?_), fun hp hd => ?_, fun hp part => ?_⟩⟩
  · have unnamed : s.namedGroup ls = none := by
      unfold State.namedGroup
      split
      · next g hg =>
        refine if_neg fun h => ?_
        obtain ⟨x, hx, hl⟩ := List.any_eq_true.mp h
        rw [apart g hg x hx] at hl
        cases hl
      · rfl
    rw [takeCleanAbort, unnamed, set, unqueue]
    rfl
  · rw [takeCleanAbort, named hg hnamed]
    dsimp only
    rw [State.abortGroup_past _ hp, set, unqueue]
    rfl
  · have same := sameLines_result (fun x => if x.result = .pending then .aborted else x.result) g.lines
    obtain ⟨closed, aborted, others⟩ := (s.setCleanQueue q).abandon_aborts same
    have take : takeCleanAbort ls s = ((((s.setCleanQueue q).abortDraws g.lines).abandon { g with lines := g.lines.map fun x => { x with
        result := if x.result = .pending then .aborted else x.result } }).ok (bytesBE 4 removed.toNat ++ flag true)).follow := by
      rw [takeCleanAbort, named hg hnamed]
      dsimp only
      rw [unqueue, State.abortGroup_released _ hp, set]
    rw [take] at run
    refine ⟨_, run, ?_⟩
    generalize ((s.setCleanQueue q).abortDraws g.lines).abandon { g with lines := g.lines.map fun x => { x with
        result := if x.result = .pending then .aborted else x.result } } = v at *
    have notSoak : g.phase ≠ .soak := by obtain h | h := hp <;> rw [h] <;> decide
    obtain ⟨held, spared, rest⟩ := closed.charged hd
    refine ⟨closed.cleaning, closed.skid.1, closed.skid.2.2, closed.skid.2.1, aborted, fun x hx c o k unreported hheld hc => ?_, spared,
      fun l hl => ⟨(rest l hl).1, (rest l hl).2, others l hl⟩, congrArg (State.ok · _) (closed.frame.cool (closed.climate notSoak))⟩
    obtain ⟨line, -, kegs⟩ := held x hx c hc unreported hheld
    refine ⟨congrArg LineRec.totals line, fun hlast hk hv room => (kegs o).trans ?_⟩
    have charge : ((s.setCleanQueue q).line x.line).lastKeg = some o ∧ k.state ≠ .verifying := ⟨hlast, hv⟩
    have here : (s.setCleanQueue q).keg x.line o = some k := hk
    rw [here, Option.map_some, if_pos charge, KegRec.withShares_loss room]
  · have part' : ∃ x ∈ g.lines.map (fun x => ({ x with
        result := if x.result = .pending then .aborted else x.result } : GroupLine)), x.result.takesPart = true := by
      obtain ⟨x, hx, takes⟩ := part
      exact ⟨_, List.mem_map_of_mem hx, by rw [GroupResult.takesPart_aborted]; exact takes⟩
    have take : takeCleanAbort ls s = ((((s.setCleanQueue q).abortDraws g.lines).endHeating g).startRun
        { g with lines := g.lines.map fun x => { x with result := if x.result = .pending then .aborted else x.result } } .rinse 1 |>.ok
          (bytesBE 4 removed.toNat ++ flag true)).follow := by
      rw [takeCleanAbort, named hg hnamed]
      dsimp only
      rw [unqueue, State.abortGroup_rinsed _ hp, set]
    rw [take] at run
    refine ⟨_, run, ?_⟩
    obtain ⟨-, poured⟩ := State.abortDraws_spec g.lines (s.setCleanQueue q)
    have aborted : Aborted s ((s.setCleanQueue q).abortDraws g.lines) g := fun x hx p n bf bp hp hk =>
      State.abortDraws_open (s := s.setCleanQueue q) hx hp hk
    obtain ⟨cleaning, skid, overrides, phased⟩ := ((s.setCleanQueue q).abortDraws g.lines).rinse_spec (g := g) part'
    obtain ⟨-, -, pours⟩ := phased.tables
    generalize (s.setCleanQueue q).abortDraws g.lines = w at *
    generalize (w.endHeating g).startRun _ .rinse 1 = v at *
    have kept : w.cleaning = { s.cleaning with queue := q } := congrArg (·.cleaning) poured
    have cfg (l : Line) : (w.line l).cfg = (s.line l).cfg := congrArg (fun x : LineTable => (look x.lines l).cfg) poured.rest.2.2.2.1
    have groups : w.valves.groups = s.valves.groups := congrArg (·.valves.groups) poured
    have asked : AskedSkid s v 0x13#8 := AskedSkid.congr skid groups.symm rfl
    rw [kept, State.owing_congr cfg, State.owing_aborted] at cleaning
    refine ⟨cleaning, asked.1, asked.2.2, asked.2.1, fun x hx p n bf bp hp hk => ?_, fun x hx c hp hw hc => ?_, ?_⟩
    · exact (congrArg (fun p : PourControl => (look p.pours x.line).record) pours).trans (aborted x hx p n bf bp hp hk)
    · exact overrides x hx c hp hw ((cfg x.line).trans hc)
    · have frame := congrArg (fun x : State => ({ x.phased v with cleaning := v.cleaning } : State).ok
        (bytesBE 4 removed.toNat ++ flag true)) poured
      have same : (v.ok (bytesBE 4 removed.toNat ++ flag true)).pourControl = w.pourControl := pours
      rw [same]
      exact (congrArg (State.ok · _) phased.whole).trans frame

end Sys2Proof.Machine
end

section
/-! PROOF. Group formation and group release (R143, R144, R155): lines taken and released one by one. -/

namespace Sys2Proof.Machine
open Sys2Proof.Laws

section
variable {s t u v : State} {l : Line}

/-! ### Lines apart from a line -/

theorem lineBits_apart {l m : Line} {b c : Fin 8} (h : m ≠ l) (hg : lineGroup m = lineGroup l) (hb : b = lineBit l ∨ b = lineBit' l)
    (hc : c = lineBit m ∨ c = lineBit' m) : c ≠ b := by
  have hne : m.val ≠ l.val := fun e => h (Fin.ext e)
  have hg := congrArg Fin.val hg
  intro e
  have he := congrArg Fin.val e
  simp only [lineGroup, lineBit, lineBit'] at hg hb hc
  obtain rfl | rfl := hb <;> obtain rfl | rfl := hc <;> simp only at he <;> omega

theorem lineGroup_of_selectorGroup {l m : Line} (h : selectorGroup m = selectorGroup l) : lineGroup m = lineGroup l := by
  have := congrArg Fin.val h
  simp only [selectorGroup] at this
  exact Fin.ext (by simp only [lineGroup]; omega)

/-- The four valve bits of a line stay as they are asked. -/
def SamePipes (s t : State) (m : Line) : Prop :=
  ∀ k : ValveGroup, k = lineGroup m ∨ k = selectorGroup m → ∀ b : Fin 8, b = lineBit m ∨ b = lineBit' m →
    (t.valve k).next.getLsbD b.val = (s.valve k).next.getLsbD b.val

theorem SamePipes.trans {m : Line} (h : SamePipes s t m) (k : SamePipes t u m) : SamePipes s u m := fun g hg b hb =>
  (k g hg b hb).trans (h g hg b hb)

/-- Next patterns change in the four valve bits of a line alone. -/
structure Plumbed (s t : State) (l : Line) : Prop where
  next : NextOnly s t
  others : ∀ m, m ≠ l → SamePipes s t m
  rest : ∀ k : ValveGroup, 16 ≤ k.val → t.valve k = s.valve k

theorem Plumbed.trans (h : Plumbed s t l) (k : Plumbed t u l) : Plumbed s u l where
  next := h.next.trans k.next
  others := fun m hm => (h.others m hm).trans (k.others m hm)
  rest := fun g hg => (k.rest g hg).trans (h.rest g hg)

theorem Plumbed.of_valves (h : t.valves = s.valves) : Plumbed s t l where
  next := .of_valves h
  others := fun _ _ _ _ _ _ => by simp only [State.valve, h]
  rest := fun _ _ => by simp only [State.valve, h]

theorem State.ask_plumbed (s : State) {g : ValveGroup} {b : Fin 8} (hg : g = lineGroup l ∨ g = selectorGroup l)
    (hb : b = lineBit l ∨ b = lineBit' l) (on : Bool) : Plumbed s (s.ask g b on) l where
  next := s.ask_nextOnly g b on
  others := fun m hm k hk c hc => by
    by_cases e : k = g
    · have same : lineGroup m = lineGroup l := by
        subst e
        obtain rfl | rfl := hg
        · exact (hk.resolve_right (selectorGroup_ne m l).symm).symm
        · exact lineGroup_of_selectorGroup (hk.resolve_left (selectorGroup_ne l m)).symm
      have pair : partner g b = some (lineBit l) ∨ partner g b = some (lineBit' l) := by
        obtain rfl | rfl := hg <;> obtain rfl | rfl := hb
        · exact .inr (partner_lineBit l).1
        · exact .inl (partner_lineBit l).2
        · exact .inr (partner_selectorBit l).1
        · exact .inl (partner_selectorBit l).2
      have notPartner : ¬(on = true ∧ partner g b = some c) := fun ⟨_, hp⟩ => by
        obtain h | h := pair
        · rw [hp] at h; exact lineBits_apart hm same (.inl rfl) hc (Option.some.inj h)
        · rw [hp] at h; exact lineBits_apart hm same (.inr rfl) hc (Option.some.inj h)
      rw [e, State.getLsbD_ask, if_neg notPartner, if_neg (lineBits_apart hm same hb hc)]
    · rw [State.ask_valve_ne _ _ e]
  rest := fun k hk => State.ask_valve_ne _ _ fun e => by
    obtain rfl | rfl := hg <;> subst e <;> simp only [lineGroup, selectorGroup] at hk <;> omega

theorem State.askValves_plumbed (s : State) (l : Line) : Plumbed s (s.askValves l) l := by
  unfold State.askValves
  split
  · exact (State.ask_plumbed _ (.inl rfl) (.inl rfl) _).trans (State.ask_plumbed _ (.inl rfl) (.inr rfl) _)
  · exact (State.ask_plumbed _ (.inl rfl) (.inr rfl) _).trans (State.ask_plumbed _ (.inl rfl) (.inl rfl) _)

theorem State.changeLine_plumbed (s : State) (l : Line) (r : LineRec) : Plumbed s (s.changeLine l r) l :=
  (Plumbed.of_valves (s := s) (t := s.setLine l r) rfl).trans (State.askValves_plumbed _ l)

theorem State.askSelector_plumbed (s : State) (l : Line) (p : Position) (on : Bool) : Plumbed s (s.askSelector l p on) l := by
  cases p
  · exact State.ask_plumbed _ (.inr rfl) (.inl rfl) _
  · exact State.ask_plumbed _ (.inr rfl) (.inr rfl) _

/-- A line stays, with its kegs and its valve bits. -/
def Untouched (s t : State) (m : Line) : Prop := Spared s t m ∧ SamePipes s t m

theorem Untouched.trans {m : Line} (h : Untouched s t m) (k : Untouched t u m) : Untouched s u m :=
  ⟨h.1.trans k.1, h.2.trans k.2⟩

/-! ### The take of a line (R12, R71) -/

/-- A state with line records, kegs, the Cleaning Queue and valve patterns taken from another. -/
def State.queueing (s t : State) : State :=
  { s with
    lineTable := { s.lineTable with lines := t.lineTable.lines }
    kegRegister := { s.kegRegister with kegs := t.kegRegister.kegs }
    cleaning := { s.cleaning with queue := t.cleaning.queue }
    valves := { s.valves with groups := t.valves.groups } }

/-- Nothing changes but line records, kegs, the Cleaning Queue and valve patterns. -/
def Queueing (s t : State) : Prop := t = s.queueing t

theorem Queueing.trans (h : Queueing s t) (k : Queueing t u) : Queueing s u := by
  have e : t.queueing u = (s.queueing t).queueing u := congrArg (State.queueing · u) h
  exact Eq.trans k e

/-- A line that has been taken for cleaning: its record, its valves and its ON_TAP keg. -/
structure Taken (s t : State) (l : Line) : Prop where
  line : t.line l = { s.line l with
    mode := .cleaning
    lastKeg := if (s.line l).mode = .ready ∨ (s.line l).mode = .dry then (s.line l).lastKeg else none }
  product : (t.valve (lineGroup l)).next.getLsbD (lineBit l).val = false
  clean : (t.valve (lineGroup l)).next.getLsbD (lineBit' l).val = true
  kept : (s.line l).mode ≠ .ready ∨ s.onTap l = none → t.kegSlots l = s.kegSlots l
  standby : ∀ o k, (s.line l).mode = .ready → s.onTap l = some o → s.keg l o = some k →
    t.keg l o = some { k with state := .standby } ∧ t.keg l o.other = s.keg l o.other ∧
    (t.valve (selectorGroup l)).next.getLsbD (match o with | .A => lineBit l | .B => lineBit' l).val = false

theorem Taken.before (h : Taken s t l) (k : Untouched t u l) : Taken s u l where
  line := k.1.1.trans h.line
  product := (k.2 _ (.inl rfl) _ (.inl rfl)).trans h.product
  clean := (k.2 _ (.inl rfl) _ (.inr rfl)).trans h.clean
  kept := fun hm => k.1.2.trans (h.kept hm)
  standby := fun o r hm ho hr => by
    obtain ⟨h1, h2, h3⟩ := h.standby o r hm ho hr
    refine ⟨?_, ?_, (k.2 _ (.inr rfl) _ (by cases o <;> simp)).trans h3⟩
    · rw [State.keg, k.1.2]; exact h1
    · rw [State.keg, k.1.2]; exact h2

theorem Taken.after (h : Untouched s t l) (k : Taken t u l) : Taken s u l := by
  obtain ⟨⟨hl, hk⟩, -⟩ := h
  have keg (o : Position) : t.keg l o = s.keg l o := by rw [State.keg, hk]; rfl
  have tap : t.onTap l = s.onTap l := by simp only [State.onTap, keg]
  obtain ⟨line, product, clean, kept, standby⟩ := k
  rw [hl] at line kept standby
  rw [tap] at kept standby
  simp only [keg] at standby
  rw [hk] at kept
  exact ⟨line, product, clean, kept, standby⟩

theorem State.kegToStandby_spec (s : State) (l : Line) :
    (s.onTap l = none → (s.kegToStandby l).kegSlots l = s.kegSlots l) ∧
    (∀ o k, s.onTap l = some o → s.keg l o = some k →
      (s.kegToStandby l).keg l o = some { k with state := .standby } ∧ (s.kegToStandby l).keg l o.other = s.keg l o.other ∧
      ((s.kegToStandby l).valve (selectorGroup l)).next.getLsbD (match o with | .A => lineBit l | .B => lineBit' l).val = false) ∧
    (∀ m, m ≠ l → (s.kegToStandby l).kegSlots m = s.kegSlots m) ∧ Plumbed s (s.kegToStandby l) l := by
  cases ho : s.onTap l with
  | none =>
    have same : s.kegToStandby l = s := by simp [State.kegToStandby, ho]
    rw [same]
    exact ⟨fun _ => rfl, fun _ _ h => by simp at h, fun _ _ => rfl, .of_valves rfl⟩
  | some p =>
    have run : s.kegToStandby l = (s.setKegState l p .standby).askSelector l p false := by simp [State.kegToStandby, ho]
    rw [run]
    have valves : (s.setKegState l p .standby).valves = s.valves := by rw [State.setKegState_frame]
    refine ⟨fun h => by simp at h, fun o k h hk => ?_, fun m hm => ?_, (Plumbed.of_valves valves).trans (State.askSelector_plumbed _ l p _)⟩
    · cases h
      have set : s.setKegState l p .standby = s.setKeg l p (some { k with state := .standby }) := by
        rw [State.setKegState, hk]
      rw [set]
      refine ⟨State.keg_setKeg_same .., State.keg_setKeg_ne _ _ _ _ _ _ (.inr (by cases p <;> decide)), ?_⟩
      cases p
      · exact (State.getLsbD_ask ..).trans (by simp)
      · exact (State.getLsbD_ask ..).trans (by simp)
    · unfold State.setKegState
      split
      · exact State.kegSlots_setKegSlots_ne _ _ _ _ hm
      · rfl

/-- The take of a line, as far as its kegs: what it leaves of a READY line's ON_TAP keg (R71). -/
def State.takeKeg (s : State) (l : Line) : State := if (s.line l).mode = .ready then s.kegToStandby l else s

theorem State.takeKeg_spec (s : State) (l : Line) :
    ((s.line l).mode ≠ .ready ∨ s.onTap l = none → (s.takeKeg l).kegSlots l = s.kegSlots l) ∧
    (∀ o k, (s.line l).mode = .ready → s.onTap l = some o → s.keg l o = some k →
      (s.takeKeg l).keg l o = some { k with state := .standby } ∧ (s.takeKeg l).keg l o.other = s.keg l o.other ∧
      ((s.takeKeg l).valve (selectorGroup l)).next.getLsbD (match o with | .A => lineBit l | .B => lineBit' l).val = false) ∧
    (∀ m, m ≠ l → (s.takeKeg l).kegSlots m = s.kegSlots m) ∧ Plumbed s (s.takeKeg l) l ∧
    (s.takeKeg l).lineTable = s.lineTable ∧ (s.takeKeg l).cleaning = s.cleaning ∧ Queueing s (s.takeKeg l) := by
  unfold State.takeKeg
  by_cases h : (s.line l).mode = .ready
  · obtain ⟨none, some, others, plumbed⟩ := s.kegToStandby_spec l
    have frame := State.kegToStandby_frame (s := s) (l := l)
    rw [if_pos h]
    refine ⟨fun hn => none (hn.resolve_left fun k => k h), fun o k _ => some o k, others, plumbed, ?_, ?_, ?_⟩
    · exact congrArg (·.lineTable) frame
    · exact congrArg (·.cleaning) frame
    · have e : s.kegToStandby l = s.queueing (s.kegToStandby l) := by
        refine frame.trans ?_
        have same : (s.kegToStandby l).lineTable = s.lineTable := congrArg (·.lineTable) frame
        have kept : (s.kegToStandby l).cleaning = s.cleaning := congrArg (·.cleaning) frame
        rw [State.queueing, same, kept]
      exact e
  · rw [if_neg h]
    exact ⟨fun _ => rfl, fun _ _ h' => absurd h' h, fun _ _ => rfl, .of_valves rfl, rfl, rfl, rfl⟩

/-- The record of a line that is taken (R12). -/
def LineRec.taken (r : LineRec) : LineRec :=
  { r with mode := .cleaning, lastKeg := if r.mode = .ready ∨ r.mode = .dry then r.lastKeg else none }

theorem State.takeLine_eq (hm : (s.line l).mode.takeable = true) (hi : s.pourIdle l = true) :
    s.takeLine l = some ((s.takeKeg l).changeLine l (s.line l).taken) := by
  unfold State.takeLine
  simp only [hm, hi, Bool.and_self, if_true]
  rfl

theorem State.changeLine_queueing (s : State) (l : Line) (r : LineRec) : Queueing s (s.changeLine l r) := by
  have frame := State.changeLine_frame (s := s) (l := l) r
  have e : s.changeLine l r = s.queueing (s.changeLine l r) := by
    refine frame.trans ?_
    have lines : (s.changeLine l r).lineTable = (s.setLine l r).lineTable := congrArg (·.lineTable) frame
    have kegs : (s.changeLine l r).kegRegister = s.kegRegister := congrArg (·.kegRegister) frame
    have kept : (s.changeLine l r).cleaning = s.cleaning := congrArg (·.cleaning) frame
    rw [State.queueing, lines, kegs, kept]
    rfl
  exact e

theorem State.takeLine_spec (hm : (s.line l).mode.takeable = true) (hi : s.pourIdle l = true) :
    ∃ t, s.takeLine l = some t ∧ Taken s t l ∧ (∀ m, m ≠ l → Untouched s t m) ∧ NextOnly s t ∧
      (∀ k : ValveGroup, 16 ≤ k.val → t.valve k = s.valve k) ∧ t.cleaning = s.cleaning ∧ Queueing s t := by
  obtain ⟨kept, standby, slots, pipes, table, cleaning, queueing⟩ := s.takeKeg_spec l
  have asked := (s.takeKeg l).changeLine_asked l (s.line l).taken
  have piped := pipes.trans ((s.takeKeg l).changeLine_plumbed l (s.line l).taken)
  have change := State.changeLine_frame (s := s.takeKeg l) (l := l) (s.line l).taken
  have line (m : Line) : ((s.takeKeg l).changeLine l (s.line l).taken).line m = if m = l then (s.line l).taken else s.line m := by
    have old : (s.takeKeg l).line m = s.line m := congrArg (fun t : LineTable => look t.lines m) table
    rw [State.changeLine_line, old]
  have kegs (m : Line) : ((s.takeKeg l).changeLine l (s.line l).taken).kegSlots m = (s.takeKeg l).kegSlots m := by rw [change]; rfl
  have keg (m : Line) (o : Position) : ((s.takeKeg l).changeLine l (s.line l).taken).keg m o = (s.takeKeg l).keg m o := by
    rw [State.keg, kegs]; rfl
  have selectors : ((s.takeKeg l).changeLine l (s.line l).taken).valve (selectorGroup l) = (s.takeKeg l).valve (selectorGroup l) :=
    State.changeLine_valve_ne _ (selectorGroup_ne l l)
  refine ⟨_, State.takeLine_eq hm hi, ⟨(line l).trans (if_pos rfl), asked.2.1, asked.2.2.1, fun h => (kegs l).trans (kept h),
    fun o k h1 h2 h3 => ?_⟩, fun m hm => ⟨⟨(line m).trans (if_neg hm), (kegs m).trans (slots m hm)⟩, piped.others m hm⟩,
    piped.next, piped.rest, ?_, queueing.trans (State.changeLine_queueing ..)⟩
  · rw [keg, keg, selectors]; exact standby o k h1 h2 h3
  · rw [change]; exact cleaning

/-! ### The takes of a group (R144) -/

/-- The group line that a take gives. -/
def State.takenLine (s : State) (l : Line) : GroupLine := ⟨l, (s.line l).mode == .ready || (s.line l).mode == .dry, .pending, 0, 0, none⟩

theorem State.takeLines_spec (ls : List Line) (hd : ls.Nodup) (s : State)
    (hl : ∀ l ∈ ls, (s.line l).mode.takeable = true ∧ s.pourIdle l = true) :
    ∃ t, State.takeLines s ls = (t, ls.map s.takenLine) ∧ (∀ l ∈ ls, Taken s t l) ∧ (∀ m, m ∉ ls → Untouched s t m) ∧
      NextOnly s t ∧ (∀ k : ValveGroup, 16 ≤ k.val → t.valve k = s.valve k) ∧
      t.cleaning.queue = s.cleaning.queue.filter (fun e => !ls.contains e.line) ∧ Queueing s t := by
  induction ls generalizing s with
  | nil => exact ⟨s, rfl, fun l hl => by simp at hl, fun m _ => ⟨⟨rfl, rfl⟩, fun _ _ _ _ => rfl⟩, .refl s, fun _ _ => rfl, by simp, rfl⟩
  | cons l ls ih =>
    obtain ⟨hnot, hd⟩ := List.nodup_cons.mp hd
    obtain ⟨hm, hi⟩ := hl l (List.mem_cons_self ..)
    obtain ⟨t, take, taken, others, next, rest, cleaning, queueing⟩ := State.takeLine_spec hm hi
    have left : Queueing s (t.setCleanQueue (t.cleaning.queue.filter fun e => e.line != l)) := by
      have e := congrArg (fun x : State => x.setCleanQueue (t.cleaning.queue.filter fun e => e.line != l)) queueing
      exact e
    have apart {m : Line} (h : m ∈ ls) : m ≠ l := fun e => hnot (e ▸ h)
    obtain ⟨u, takes, each, spared, next', rest', queue, queueing'⟩ :=
      ih hd (t.setCleanQueue (t.cleaning.queue.filter fun e => e.line != l)) fun m hm' => by
        have line : (t.setCleanQueue (t.cleaning.queue.filter fun e => e.line != l)).line m = s.line m :=
          (others m (apart hm')).1.1
        have idle : (t.setCleanQueue (t.cleaning.queue.filter fun e => e.line != l)).pourIdle m = s.pourIdle m := by
          rw [left]; rfl
        rw [line, idle]
        exact hl m (List.mem_cons_of_mem _ hm')
    refine ⟨u, ?_, fun m hm' => ?_, fun m hm' => ?_, NextOnly.trans next next', fun k hk => (rest' k hk).trans (rest k hk), ?_,
      left.trans queueing'⟩
    · have same : ls.map (t.setCleanQueue (t.cleaning.queue.filter fun e => e.line != l)).takenLine = ls.map s.takenLine :=
        List.map_congr_left fun m hm' => by
          have line : (t.setCleanQueue (t.cleaning.queue.filter fun e => e.line != l)).line m = s.line m :=
            (others m (apart hm')).1.1
          simp only [State.takenLine, line]
      rw [same] at takes
      unfold State.takeLines
      rw [take]
      dsimp only
      rw [takes]
      simp [State.takenLine, Bool.decide_or, beq_eq_decide]
    · rcases List.mem_cons.mp hm' with rfl | hm'
      · exact taken.before (spared m hnot)
      · exact Taken.after (t := t.setCleanQueue (t.cleaning.queue.filter fun e => e.line != l)) (others m (apart hm')) (each m hm')
    · have hne : m ≠ l := fun e => hm' (e ▸ List.mem_cons_self ..)
      exact (others m hne).trans (spared m fun h => hm' (List.mem_cons_of_mem _ h))
    · rw [queue]
      change (t.cleaning.queue.filter _).filter _ = _
      rw [cleaning, List.filter_filter]
      refine List.filter_congr fun e _ => ?_
      rw [List.contains_cons, Bool.not_or, Bool.and_comm]
      rfl

/-! ### Formation (R143, R144) -/

theorem State.considerFormation_idle (h : s.cleaning.group ≠ none ∨ s.valves.fault = true ∨
    (∀ e ∈ s.cleaning.queue, s.takeableEntry e = false)) : s.considerFormation = s := by
  unfold State.considerFormation
  cases hg : s.cleaning.group with
  | some g => rfl
  | none =>
    cases hf : s.valves.fault with
    | true => rfl
    | false =>
      obtain h | h | h := h
      · exact absurd hg h
      · rw [hf] at h; cases h
      · have search : s.cleaning.queue.find? s.takeableEntry = none := List.find?_eq_none.mpr fun e he => by simp [h e he]
        have none : s.chosen = [] := by rw [State.chosen, search]
        rw [State.formGroup, none]
        rfl

/-- The entries chosen from the first takeable one on (R143). -/
theorem State.chosen_eq {pre post : List CleanEntry} {e : CleanEntry} (hq : s.cleaning.queue = pre ++ e :: post)
    (hpre : ∀ x ∈ pre, s.takeableEntry x = false) (he : s.takeableEntry e = true) :
    s.chosen = ((e :: post).filter fun x => s.takeableEntry x && x.recipe == e.recipe).take s.cleaning.groupSize := by
  have skip (p : CleanEntry → Bool) (h : ∀ x ∈ pre, p x = false) : pre.filter p = [] :=
    List.filter_eq_nil_iff.mpr fun x hx => by simp [h x hx]
  have search : s.cleaning.queue.find? s.takeableEntry = some e := by
    rw [hq, List.find?_append, List.find?_eq_none.mpr fun x hx => by simp [hpre x hx]]
    simp [he]
  rw [State.chosen, search]
  dsimp only
  rw [hq, List.filter_append, skip _ fun x hx => by simp [hpre x hx], List.nil_append]

theorem lineGroup_lt (l : Line) : (lineGroup l).val < 8 := by simp only [lineGroup]; omega

theorem selectorGroup_lt (l : Line) : (selectorGroup l).val < 16 := by simp only [selectorGroup]; omega

/-- The skid is apart from the valves of every line. -/
theorem AskedSkid.samePipes {p : Pattern} (h : AskedSkid s t p) (m : Line) : SamePipes s t m := fun k hk b _ => by
  have hne : k ≠ 17 := by
    rintro rfl
    obtain h | h := hk
    · exact absurd (lineGroup_lt m) (by rw [← h]; decide)
    · exact absurd (selectorGroup_lt m) (by rw [← h]; decide)
  have same : t.valve k = s.valve k := h.2.2 k hne
  rw [same]

theorem Skidded.spared (h : Skidded s t) (m : Line) : Spared s t m := by
  rw [h.frame]; exact ⟨rfl, rfl⟩

/-- A group formed from chosen entries (R143, R144). -/
theorem State.formGroup_spec {e : CleanEntry} {es : List CleanEntry} {r : Recipe} {lines : List Line} (hc : s.chosen = e :: es)
    (hr : look s.cleaning.recipes e.recipe = some r) (hl : lines = (indices 32).filter fun l => (e :: es).any fun x => x.line == l)
    (takeable : ∀ x ∈ e :: es, s.takeableEntry x = true) :
    ∃ u, s.formGroup = u ∧
      u.cleaning = { s.cleaning with
        queue := s.cleaning.queue.filter fun x => !lines.contains x.line
        group := some {
          recipe := r, recipeNo := e.recipe, phase := .take, run := 1, steps := 0, lowPump := 0, lastPump := 0
          lossReported := false, heater := false, takeWait := .period, lines := lines.map s.takenLine } } ∧
      (∀ l ∈ lines, Taken s u l) ∧ (∀ m, m ∉ lines → Untouched s u m) ∧ (u.valve 17).next &&& 0x1F#8 = 0x10#8 ∧
      u.valve 16 = s.valve 16 ∧ NextOnly s u ∧ u = { s.queueing u with cleaning := u.cleaning } := by
  have members (l : Line) : l ∈ lines ↔ ∃ x ∈ e :: es, x.line = l := by
    rw [hl, List.mem_filter, List.any_eq_true]
    simp
  obtain ⟨t, take, taken, others, next, rest, queue, queueing⟩ := State.takeLines_spec lines
    (by rw [hl]; exact (List.nodup_finRange 32).filter _) s fun l hl => by
      obtain ⟨x, hx, rfl⟩ := (members l).mp hl
      exact Bool.and_eq_true_iff.mp (takeable x hx)
  have skid := t.askPhase_skid .take
  have skidded := t.askPhase_skidded .take
  have some : e.line ∈ lines := (members _).mpr ⟨e, List.mem_cons_self .., rfl⟩
  have run : s.formGroup = (t.askPhase .take).setGroup (Option.some {
      recipe := r, recipeNo := e.recipe, phase := .take, run := 1, steps := 0, lowPump := 0, lastPump := 0
      lossReported := false, heater := false, takeWait := .period, lines := lines.map s.takenLine }) := by
    unfold State.formGroup
    rw [hc]
    dsimp only
    rw [hr]
    dsimp only
    rw [← hl, take]
    cases hx : lines.map s.takenLine with
    | nil =>
      rw [List.map_eq_nil_iff.mp hx] at some
      cases some
    | cons x xs => rfl
  have cleaning : t.cleaning = { s.cleaning with queue := s.cleaning.queue.filter fun x => !lines.contains x.line } := by
    rw [← queue]; exact congrArg (·.cleaning) queueing
  have untouched (m : Line) : Untouched t ((t.askPhase .take).setGroup (Option.some {
      recipe := r, recipeNo := e.recipe, phase := .take, run := 1, steps := 0, lowPump := 0, lastPump := 0
      lossReported := false, heater := false, takeWait := .period, lines := lines.map s.takenLine })) m :=
    ⟨skidded.spared m, skid.samePipes m⟩
  refine ⟨_, run, ?_, fun l hl => (taken l hl).before (untouched l), fun m hm => (others m hm).trans (untouched m), skid.1,
    (skid.2.2 16 (by decide)).trans (rest 16 (by decide)), next.trans skid.2.1, ?_⟩
  · rw [State.setGroup, skidded.cleaning, cleaning]
  · have whole := skidded.frame
    generalize t.askPhase .take = w at *
    have frame := congrArg (State.piped · w) queueing
    have tables : w.lineTable = t.lineTable ∧ w.kegRegister = t.kegRegister := ⟨congrArg (·.lineTable) whole, congrArg (·.kegRegister) whole⟩
    have e : w = { s.queueing w with cleaning := w.cleaning } := by
      rw [State.queueing, tables.1, tables.2, skidded.cleaning]
      have back : t.cleaning = { s.cleaning with queue := t.cleaning.queue } := congrArg (·.cleaning) queueing
      rw [back]
      exact Eq.trans whole frame
    exact congrArg (State.setGroup · _) e

/-! ### Release (R155, R13) -/

/-- A state with line records and valve patterns taken from another. -/
def State.relined (s t : State) : State :=
  { s with
    lineTable := { s.lineTable with lines := t.lineTable.lines }
    valves := { s.valves with groups := t.valves.groups } }

/-- Nothing changes but line records and valve patterns. -/
def Relined (s t : State) : Prop := t = s.relined t

theorem Relined.trans (h : Relined s t) (k : Relined t u) : Relined s u := by
  have e : t.relined u = (s.relined t).relined u := congrArg (State.relined · u) h
  exact Eq.trans k e

theorem State.changeLine_relined (s : State) (l : Line) (r : LineRec) : Relined s (s.changeLine l r) := by
  have frame := State.changeLine_frame (s := s) (l := l) r
  have e : s.changeLine l r = s.relined (s.changeLine l r) := by
    refine frame.trans ?_
    have lines : (s.changeLine l r).lineTable = (s.setLine l r).lineTable := congrArg (·.lineTable) frame
    rw [State.relined, lines]
    rfl
  exact e

/-- The record of a line that is released with a result (R13). -/
def LineRec.released (r : LineRec) (x : GroupResult) : LineRec :=
  { r with
    mode := if x = .pass ∨ x = .aborted then .water else .foul
    lastKeg := none, cleanResult := x.toClean, cleanCount := satAdd r.cleanCount 1 }

theorem GroupResult.modeAfter_eq (x : GroupResult) : x.toClean.modeAfter = if x = .pass ∨ x = .aborted then .water else .foul := by
  cases x <;> rfl

/-- A line that has been released: its record and its valves. -/
def Released (s t : State) (l : Line) (x : GroupResult) : Prop :=
  t.line l = (s.line l).released x ∧ (t.valve (lineGroup l)).next.getLsbD (lineBit l).val = false ∧
  (t.valve (lineGroup l)).next.getLsbD (lineBit' l).val = false

theorem State.releaseLine_spec (hm : (s.line l).mode = .cleaning) (x : GroupResult) :
    Released s (s.releaseLine l x.toClean) l x ∧ Plumbed s (s.releaseLine l x.toClean) l ∧
    (∀ m, m ≠ l → (s.releaseLine l x.toClean).line m = s.line m) ∧
    (∀ k : ValveGroup, 8 ≤ k.val → (s.releaseLine l x.toClean).valve k = s.valve k) ∧ Relined s (s.releaseLine l x.toClean) := by
  have run : s.releaseLine l x.toClean = s.changeLine l ((s.line l).released x) := by
    unfold State.releaseLine LineRec.released
    rw [← GroupResult.modeAfter_eq]
    exact if_pos hm
  have shut : ((s.line l).released x).mode ≠ .cleaning ∧ ((s.line l).released x).productOpen = false := by
    simp only [LineRec.released, LineRec.productOpen]
    split <;> exact ⟨by decide, rfl⟩
  obtain ⟨-, product, clean, -⟩ := s.changeLine_asked l ((s.line l).released x)
  rw [if_neg shut.1, shut.2] at product
  rw [beq_eq_false_iff_ne.mpr shut.1] at clean
  rw [run]
  refine ⟨⟨?_, product, clean⟩, s.changeLine_plumbed _ _, fun m hm' => ?_, fun k hk => ?_, s.changeLine_relined _ _⟩
  · rw [State.changeLine_line, if_pos rfl]
  · rw [State.changeLine_line, if_neg hm']
  · exact State.changeLine_valve_ne _ fun e => absurd (lineGroup_lt l) (by rw [← e]; omega)

theorem State.foldl_releaseLine (xs : List GroupLine) (hd : (xs.map GroupLine.line).Nodup) (s : State)
    (hm : ∀ x ∈ xs, (s.line x.line).mode = .cleaning) :
    (∀ x ∈ xs, Released s (xs.foldl (fun s x => s.releaseLine x.line x.result.toClean) s) x.line x.result) ∧
    (∀ l, (∀ x ∈ xs, x.line ≠ l) → (xs.foldl (fun s x => s.releaseLine x.line x.result.toClean) s).line l = s.line l ∧
      SamePipes s (xs.foldl (fun s x => s.releaseLine x.line x.result.toClean) s) l) ∧
    NextOnly s (xs.foldl (fun s x => s.releaseLine x.line x.result.toClean) s) ∧
    (∀ k : ValveGroup, 8 ≤ k.val → (xs.foldl (fun s x => s.releaseLine x.line x.result.toClean) s).valve k = s.valve k) ∧
    Relined s (xs.foldl (fun s x => s.releaseLine x.line x.result.toClean) s) := by
  induction xs generalizing s with
  | nil => exact ⟨fun x hx => by simp at hx, fun l _ => ⟨rfl, fun _ _ _ _ => rfl⟩, .refl s, fun _ _ => rfl, rfl⟩
  | cons y xs ih =>
    obtain ⟨hy, hd⟩ := List.nodup_cons.mp hd
    have apart {x : GroupLine} (hx : x ∈ xs) : x.line ≠ y.line := fun e => hy (e ▸ List.mem_map_of_mem hx)
    obtain ⟨released, plumbed, lines, rest, relined⟩ := State.releaseLine_spec (hm y (List.mem_cons_self ..)) y.result
    obtain ⟨each, others, next, rest', relined'⟩ := ih hd (s.releaseLine y.line y.result.toClean) fun x hx => by
      rw [lines _ (apart hx)]; exact hm x (List.mem_cons_of_mem _ hx)
    rw [List.foldl_cons]
    refine ⟨fun x hx => ?_, fun l hl => ?_, plumbed.next.trans next, fun k hk => (rest' k hk).trans (rest k hk),
      relined.trans relined'⟩
    · rcases List.mem_cons.mp hx with rfl | hx
      · obtain ⟨line, product, clean⟩ := released
        obtain ⟨line', pipes⟩ := others x.line fun z hz => apart hz
        exact ⟨line'.trans line, (pipes _ (.inl rfl) _ (.inl rfl)).trans product, (pipes _ (.inl rfl) _ (.inr rfl)).trans clean⟩
      · obtain ⟨line, product, clean⟩ := each x hx
        exact ⟨by rw [line, lines _ (apart hx)], product, clean⟩
    · have hne : l ≠ y.line := (hl y (List.mem_cons_self ..)).symm
      obtain ⟨line, pipes⟩ := others l fun x hx => hl x (List.mem_cons_of_mem _ hx)
      exact ⟨line.trans (lines l hne), (plumbed.others l hne).trans pipes⟩

/-- The line sets of attention after CLEAN_DONE and LINE_FOUL. -/
theorem State.raiseSets_lines (s : State) (all foul : LineSet) (k : Fin 9) :
    look ((s.raiseSet .cleanDone all).raiseSet .lineFoul foul).link.attention.lines k =
      if k = 6 then look s.link.attention.lines 6 ||| foul else if k = 7 then look s.link.attention.lines 7 ||| all
      else look s.link.attention.lines k := by
  change look (put (put s.link.attention.lines 7 (look s.link.attention.lines 7 ||| all)) 6
    (look (put s.link.attention.lines 7 (look s.link.attention.lines 7 ||| all)) 6 ||| foul)) k = _
  rw [look_put_ne _ _ _ _ (by decide : (6 : Fin 9) ≠ 7), look_put, look_put]

theorem getLsbD_lineSet_map {α : Type} (xs : List α) (f : α → Line) (l : Line) :
    (lineSet (xs.map f)).getLsbD l.val = xs.any fun x => f x == l :=
  Bool.eq_iff_iff.mpr ((getLsbD_lineSet _ _).trans (by simp))

/-- A release raises CLEAN_DONE for all lines and LINE_FOUL for the foul ones, none where there are none (R155). -/
theorem State.releaseGroup_eq (s : State) (g : Group) : s.releaseGroup g =
    ((((g.lines.foldl (fun s x => s.releaseLine x.line x.result.toClean) s).raiseSet .cleanDone
      (lineSet (g.lines.map GroupLine.line))).raiseSet .lineFoul
      (lineSet ((g.lines.filter fun x => x.result.toClean.modeAfter == .foul).map GroupLine.line))).setGroup none) := by
  have idle (s : State) : s.raiseSet .lineFoul 0 = s := by
    change ({ s with link := { s.link with attention := { s.link.attention with
      lines := put s.link.attention.lines 6 (look s.link.attention.lines 6 ||| 0) } } } : State) = s
    rw [show (look s.link.attention.lines 6 ||| (0 : LineSet)) = look s.link.attention.lines 6 from BitVec.or_zero, put_look]
  unfold State.releaseGroup
  by_cases h : lineSet ((g.lines.filter fun x => x.result.toClean.modeAfter == .foul).map GroupLine.line) = 0
  · simp only [h, if_true, idle]
  · simp only [h, if_false]

theorem State.considerFormation_released {g : Group} (hg : s.cleaning.group = some g) (hp : g.phase = .release)
    (hx : ∀ x ∈ g.lines, x.draw = none) : takeGroupRelease s = (s.releaseGroup g).considerFormation := by
  unfold takeGroupRelease
  rw [hg]
  exact if_pos ⟨hp, by simpa using hx⟩

theorem State.groupRelease_idle (h : ∀ g, s.cleaning.group = some g → g.phase ≠ .release ∨ ∃ x ∈ g.lines, x.draw ≠ none) :
    takeGroupRelease s = s := by
  unfold takeGroupRelease
  split
  · next g hg =>
    refine if_neg fun ⟨hp, hx⟩ => ?_
    obtain h | ⟨x, hm, hne⟩ := h g hg
    · exact h hp
    · exact hne (by simpa using List.all_eq_true.mp hx x hm)
  · rfl

end

/-- Settles O49: the entries that are taken one by one, and the lines that are released one by one. -/
theorem groupsAreFormedAndReleased : Obligations.GroupsAreFormedAndReleased := by
  unfold Obligations.GroupsAreFormedAndReleased
  intro s released
  refine ⟨fun idle => ?_, fun pre post chosen e r none clear hq hd hpre hidle hmode hr size hchosen => ?_, fun idle => ?_,
    fun g hg hp draws hd modes => ?_⟩
  · exact (State.running_of_released (f := takeGroupFormation) released).trans (congrArg _ (State.considerFormation_idle idle))
  · have he : s.takeableEntry e = true := by
      have idle : s.pourIdle e.line = true := by rw [State.pourIdle, hidle]; rfl
      rw [State.takeableEntry, idle, Bool.and_true]
      exact (Mode.takeable_iff _).mpr (by tauto)
    have choice : s.chosen = chosen := by rw [hchosen]; exact State.chosen_eq hq hpre he
    obtain ⟨es, hes⟩ : ∃ es, chosen = e :: es := by
      obtain ⟨n, hn⟩ : ∃ n, s.cleaning.groupSize = n + 1 := ⟨_, (Nat.succ_pred_eq_of_pos size).symm⟩
      rw [hchosen, hn, List.filter_cons_of_pos (by simp [he]), List.take_succ_cons]
      exact ⟨_, rfl⟩
    have inQueue : ∀ x ∈ chosen, x ∈ s.cleaning.queue ∧ s.takeableEntry x = true := fun x hx => by
      rw [hchosen] at hx
      obtain ⟨hx, ht⟩ := List.mem_filter.mp (List.mem_of_mem_take hx)
      exact ⟨by rw [hq]; exact List.mem_append_right _ hx, (Bool.and_eq_true_iff.mp ht).1⟩
    obtain ⟨u, form, cleaning, taken, others, skid, glycol, next, frame⟩ := State.formGroup_spec (choice.trans hes) hr rfl
      (fun x hx => (inQueue x (hes ▸ hx)).2)
    rw [← hes] at cleaning taken others
    have members (l : Line) : l ∈ ((indices 32).filter fun l => chosen.any fun x => x.line == l) ↔ ∃ x ∈ chosen, x.line = l := by
      rw [List.mem_filter, List.any_eq_true]
      simp
    have run : exec .groupFormation s = .next u := by
      refine (State.running_of_released (f := takeGroupFormation) released).trans (congrArg _ ?_)
      unfold takeGroupFormation State.considerFormation
      rw [none, clear]
      exact form
    have outside {l : Line} (h : ∀ x ∈ chosen, x.line ≠ l) : Untouched s u l := others l fun hl => by
      obtain ⟨x, hx, e⟩ := (members l).mp hl
      exact h x hx e
    refine ⟨u, run, cleaning.trans ?_, fun l hl => (outside hl).1, fun x hx => ?_, skid, glycol, next, fun l hl b hb => ?_, frame⟩
    · have same : (s.cleaning.queue.filter fun x => !((indices 32).filter fun l => chosen.any fun x => x.line == l).contains x.line) =
          s.cleaning.queue.filter fun x => !chosen.contains x := by
        refine List.filter_congr fun x hx => congrArg _ (Bool.eq_iff_iff.mpr ?_)
        rw [List.contains_iff_mem, List.contains_iff_mem, members]
        refine ⟨fun ⟨y, hy, e⟩ => ?_, fun h => ⟨x, h, rfl⟩⟩
        have same : y = x := List.inj_on_of_nodup_map hd (inQueue y hy).1 hx e
        exact same ▸ hy
      rw [same]
      rfl
    · have h := taken x.line ((members _).mpr ⟨x, hx, rfl⟩)
      exact ⟨h.line, h.product, h.clean, h.kept, h.standby⟩
    · exact ⟨(outside hl).2 _ (.inl rfl) b hb, (outside hl).2 _ (.inr rfl) b hb⟩
  · exact (State.running_of_released (f := takeGroupRelease) released).trans (congrArg _ (State.groupRelease_idle idle))
  · obtain ⟨each, others, next, rest, frame⟩ := State.foldl_releaseLine g.lines hd s modes
    have run : exec .groupRelease s = .next (s.releaseGroup g).considerFormation :=
      (State.running_of_released (f := takeGroupRelease) released).trans (congrArg _ (State.considerFormation_released hg hp draws))
    refine ⟨_, run, ?_⟩
    rw [State.releaseGroup_eq]
    generalize g.lines.foldl (fun s x => s.releaseLine x.line x.result.toClean) s = v at *
    have attention : v.link.attention = s.link.attention := congrArg (·.link.attention) frame
    refine ⟨each, fun l hl b hb => (others l hl).2 _ (.inl rfl) b hb, rest, next, fun l hl => (others l hl).1, fun l => ?_, fun l => ?_,
      fun k h6 h7 => ?_, ?_⟩
    · refine (congrArg (BitVec.getLsbD · l.val) (v.raiseSets_lines _ _ 7)).trans ?_
      rw [if_neg (by decide), if_pos rfl, BitVec.getLsbD_or, getLsbD_lineSet_map, attention]
    · refine (congrArg (BitVec.getLsbD · l.val) (v.raiseSets_lines _ _ 6)).trans ?_
      have foul : ∀ x : GroupResult, (x.toClean.modeAfter == .foul) = (x != .pass && x != .aborted) := fun x => by cases x <;> rfl
      rw [if_pos rfl, BitVec.getLsbD_or, getLsbD_lineSet_map, attention, List.any_filter]
      simp only [foul, Bool.and_comm, Bool.and_assoc]
    · exact (v.raiseSets_lines _ _ k).trans (by rw [if_neg h6, if_neg h7, attention])
    · generalize lineSet (g.lines.map GroupLine.line) = all
      generalize lineSet ((g.lines.filter fun x => x.result.toClean.modeAfter == .foul).map GroupLine.line) = foul
      have whole : v = { s with
          lineTable := { s.lineTable with lines := v.lineTable.lines }
          valves := { s.valves with groups := v.valves.groups } } := frame
      generalize v.lineTable.lines = lines at whole
      generalize v.valves.groups = groups at whole
      subst whole
      rfl

end Sys2Proof.Machine
end

section
/-! PROOF. The Valve Chain: the image of a shift, the comparison of its echo, and what its end reports (R167, R169 to R171, R186). -/

namespace Sys2Proof.Machine
open Sys2Proof.Laws

section
variable {s t u : State} {g : Group}

/-! ### The image (R169) -/

theorem getLsbD_foldl_or {α : Type} {w : Nat} (f : α → BitVec w) (xs : List α) (b : BitVec w) (i : Nat) :
    (xs.foldl (fun b x => b ||| f x) b).getLsbD i = (b.getLsbD i || xs.any fun x => (f x).getLsbD i) := by
  induction xs generalizing b with
  | nil => simp
  | cons x xs ih => rw [List.foldl_cons, ih, BitVec.getLsbD_or, List.any_cons, Bool.or_assoc]

theorem getLsbD_placed (p : Pattern) (k g : ValveGroup) (b : Fin 8) :
    (p.setWidth 144 <<< (8 * k.val)).getLsbD (8 * g.val + b.val) = (decide (k = g) && p.getLsbD b.val) := by
  have hb := b.isLt
  have hg := g.isLt
  rw [BitVec.getLsbD_shiftLeft, BitVec.getLsbD_setWidth]
  by_cases e : k = g
  · subst e
    have h : 8 * k.val + b.val - 8 * k.val = b.val := by omega
    rw [h, decide_eq_true rfl, decide_eq_true (by omega), decide_eq_false (by omega), decide_eq_true (by omega)]
    simp
  · have hne : k.val ≠ g.val := fun h => e (Fin.ext h)
    by_cases hlt : 8 * g.val + b.val < 8 * k.val
    · simp [hlt, e]
    · have out : p.getLsbD (8 * g.val + b.val - 8 * k.val) = false := BitVec.getLsbD_of_ge _ _ (by omega)
      simp [out, e]

/-- The image carries the current pattern of each group at its place (R169). -/
theorem State.image_bit (s : State) (g : ValveGroup) (b : Fin 8) :
    s.valves.image.getLsbD (8 * g.val + b.val) = (s.valve g).current.getLsbD b.val := by
  have none : (0 : Image).getLsbD (8 * g.val + b.val) = false := BitVec.getLsbD_zero
  rw [Valves.image, getLsbD_foldl_or, none, Bool.false_or]
  simp only [getLsbD_placed]
  cases h : (s.valve g).current.getLsbD b.val with
  | true => exact List.any_eq_true.mpr ⟨g, mem_indices g, by rw [decide_eq_true rfl]; exact h⟩
  | false =>
    refine List.any_eq_false.mpr fun k _ => ?_
    by_cases e : k = g
    · subst e
      have h : (look s.valves.groups k).current.getLsbD b.val = false := h
      rw [h, Bool.and_false]; exact Bool.false_ne_true
    · rw [decide_eq_false e, Bool.false_and]; exact Bool.false_ne_true

theorem Valves.image_congr {v w : Valves} (h : v.groups = w.groups) : v.image = w.image := by
  rw [Valves.image, Valves.image, h]

/-! ### The first difference (R170, R186) -/

theorem chainBits_eq : ((indices 18).flatMap fun g => (indices 8).map fun b => (g, b)) =
    (indices 144).map fun i => ((⟨i.val / 8, by omega⟩, ⟨i.val % 8, by omega⟩) : ValveGroup × Fin 8) := by
  decide

theorem firstDifference_eq {sent echo : Image} {g : ValveGroup} {b : Fin 8}
    (h : sent.getLsbD (8 * g.val + b.val) ≠ echo.getLsbD (8 * g.val + b.val))
    (before : ∀ i : Nat, i < 8 * g.val + b.val → sent.getLsbD i = echo.getLsbD i) : firstDifference sent echo = some (g, b) := by
  have hb := b.isLt
  have hg := g.isLt
  rw [firstDifference, chainBits_eq, List.find?_map]
  have place : (indices 144).find? ((fun x : ValveGroup × Fin 8 => (sent ^^^ echo).getLsbD (8 * x.1.val + x.2.val)) ∘
      fun i => (⟨i.val / 8, by omega⟩, ⟨i.val % 8, by omega⟩)) = some ⟨8 * g.val + b.val, by omega⟩ := by
    refine find_indices ?_ fun j hj => ?_
    · simp only [Function.comp_apply, Nat.div_add_mod, BitVec.getLsbD_xor]
      simpa using h
    · simp only [Function.comp_apply, Nat.div_add_mod, BitVec.getLsbD_xor, before j.val hj, Bool.xor_self]
  rw [place, Option.map_some]
  have h1 : (8 * g.val + b.val) / 8 = g.val := by omega
  have h2 : (8 * g.val + b.val) % 8 = b.val := by omega
  simp only [h1, h2]

/-! ### The comparison of an echo (R170) -/

/-- The chain after the comparison of an echo, before any group is halted. -/
def State.compared (s : State) (sent echo : Image) : State :=
  { s with
    valves := { s.valves with
      fault := s.valves.fault || decide (sent ≠ echo)
      mismatches := if sent = echo then s.valves.mismatches else min (s.valves.mismatches + 1) 65535
      firstMismatch := if sent = echo ∨ s.valves.fault = true then s.valves.firstMismatch else firstDifference sent echo }
    link := { s.link with attention := { s.link.attention with
      chainFault := s.link.attention.chainFault || (!s.valves.fault && decide (sent ≠ echo)) } } }

theorem State.compareEcho_eq (s : State) (sent echo : Image) :
    (sent = echo ∨ s.valves.fault = true → s.compareEcho sent echo = s.compared sent echo) ∧
    (sent ≠ echo → s.valves.fault = false → s.compareEcho sent echo = (s.compared sent echo).faultHalt) := by
  refine ⟨fun h => ?_, fun hne hf => ?_⟩
  · unfold State.compareEcho State.compared
    by_cases he : sent = echo
    · simp [he]
    · have hf := h.resolve_left he
      simp only [he, if_false, hf, if_true, or_true, ne_eq, not_false_eq_true, decide_true, Bool.or_true, Bool.not_true,
        Bool.false_and, Bool.or_false]
      rw [← hf]
      rfl
  · unfold State.compareEcho State.compared
    simp only [hne, if_false, hf, Bool.false_eq_true, or_self, ne_eq, not_false_eq_true, decide_true, Bool.or_true, Bool.not_false,
      Bool.true_and]
    rfl

/-! ### What a shift's end reports (R167, R158) -/

theorem State.startRun_grouped (s : State) (g : Group) (p : Phase) (run : Nat) : Grouped s (s.startRun g p run) := by
  by_cases h : g.anyPart = true
  · exact (s.startRun_spec h p run).2.2.2.grouped
  · have run : s.startRun g p run = s.abandon g := if_neg h
    rw [run]
    exact (s.abandon_closed (ls := g.lines) rfl).frame

theorem State.setGroup_grouped (s : State) (g : Option Group) : Grouped s (s.setGroup g) := rfl

theorem State.haltGroup_grouped (s : State) (g : Group) : Grouped s (s.haltGroup g) := by
  by_cases h : g.phase = .release
  · rw [State.haltGroup_release s h]; rfl
  · rw [State.haltGroup_eq s h]
    exact (s.abandon_aborts (sameLines_result _ _)).1.frame

theorem State.faultHalt_grouped (s : State) : Grouped s s.faultHalt := by
  unfold State.faultHalt
  split
  · exact s.haltGroup_grouped _
  · rfl

theorem State.reportShift_grouped (s : State) : Grouped s s.reportShift := by
  unfold State.reportShift
  split
  · split
    · split
      · exact s.startRun_grouped _ _ _
      · split
        · exact s.setGroup_grouped _
        · rfl
    · rfl
  · rfl

theorem State.reportShift_idle (h : ∀ g, s.cleaning.group = some g → g.phase = .take → g.takeWait = .period ∨ g.takeWait = .margin) :
    s.reportShift = s := by
  unfold State.reportShift
  split
  · next g hg =>
    split
    · next hp =>
      obtain hw | hw := h g hg hp
      · rw [hw]; rfl
      · rw [hw]; rfl
    · rfl
  · rfl

theorem State.reportShift_take (hg : s.cleaning.group = some g) (hp : g.phase = .take) :
    (g.takeWait = .nextShift → s.reportShift = s.setGroup (some { g with takeWait := .thisShift })) ∧
    (g.takeWait = .thisShift → s.reportShift = s.startRun g .purge 1) := by
  unfold State.reportShift
  rw [hg]
  dsimp only
  rw [if_pos hp]
  refine ⟨fun hw => ?_, fun hw => if_pos hw⟩
  rw [if_neg (by rw [hw]; decide), if_pos hw]

theorem Grouped.valves (h : Grouped s t) : t.valves = { s.valves with groups := t.valves.groups } := congrArg (·.valves) h

theorem State.startShift_eq (s : State) : s.startShift = if s.valves.shifting = none ∧ s.valves.wanted = true then
    { s with valves := { s.valves with shifting := some s.valves.image, wanted := false } } else s := by
  unfold State.startShift
  by_cases h : s.valves.shifting = none ∧ s.valves.wanted = true
  · rw [if_pos h, if_pos (by simp [h])]
  · rw [if_neg h, if_neg (by simpa using h)]

/-- The start of a wanted shift on a chain that has just become free. -/
theorem State.startShift_free (h : s.valves.shifting = none) : s.startShift = { s with valves := { s.valves with
    shifting := if s.valves.wanted = true then some s.valves.image else none, wanted := false } } := by
  rw [State.startShift_eq]
  cases hw : s.valves.wanted with
  | true => rw [if_pos ⟨h, rfl⟩]; rfl
  | false =>
    rw [if_neg (by simp), if_neg (by simp), ← h, ← hw]

end

/-- The shift in progress has ended, its echo compared. -/
def State.freed (s : State) : State := { s with valves := { s.valves with shifting := none } }

section
variable {s t u : State} {g : Group}

theorem State.compareEcho_grouped (s : State) (sent echo : Image) : Grouped (s.compared sent echo) (s.compareEcho sent echo) := by
  obtain ⟨calm, struck⟩ := s.compareEcho_eq sent echo
  by_cases h : sent = echo ∨ s.valves.fault = true
  · rw [calm h]; rfl
  · rw [struck (fun e => h (.inl e)) (by simpa using fun e => h (.inr e))]
    exact State.faultHalt_grouped _

/-- The state that a wanted shift finds when the shift before it has ended. -/
def State.reported (s : State) (sent echo : Image) : State := (s.compareEcho sent echo).freed.reportShift

theorem State.reported_valves (s : State) (sent echo : Image) : (s.reported sent echo).valves =
    { (s.compared sent echo).valves with shifting := none, groups := (s.reported sent echo).valves.groups } :=
  (s.compareEcho sent echo).freed.reportShift_grouped.valves.trans
    (congrArg (fun v : Valves => { v with shifting := none, groups := (s.reported sent echo).valves.groups })
      (s.compareEcho_grouped sent echo).valves)

theorem State.reported_link (s : State) (sent echo : Image) : (s.reported sent echo).link = (s.compared sent echo).link :=
  Eq.trans (congrArg (·.link) (s.compareEcho sent echo).freed.reportShift_grouped) (congrArg (·.link) (s.compareEcho_grouped sent echo))

/-- Where no fault is new, the comparison counts the mismatch alone. -/
theorem State.compared_calm {sent echo : Image} (h : sent = echo ∨ s.valves.fault = true) : s.compared sent echo = { s with
    valves := { s.valves with mismatches := (s.compared sent echo).valves.mismatches } } := by
  have fault : (s.valves.fault || decide (sent ≠ echo)) = s.valves.fault := by
    obtain h | h := h <;> simp [h]
  have chain : (s.link.attention.chainFault || (!s.valves.fault && decide (sent ≠ echo))) = s.link.attention.chainFault := by
    obtain h | h := h <;> simp [h]
  unfold State.compared
  rw [fault, chain, if_pos h]

end

/-- Settles O53: the comparison, then the report, then the shift that is wanted. -/
theorem shiftsAreComparedWithTheirEcho : Obligations.ShiftsAreComparedWithTheirEcho := by
  unfold Obligations.ShiftsAreComparedWithTheirEcho
  intro s released
  refine ⟨(State.running_of_released (f := takeChainShiftStart) released).trans (congrArg _ s.startShift_eq), s.image_bit,
    fun free echo => ?_, fun sent echo first hs hfirst => ?_, ?_⟩
  · refine (State.running_of_released (f := takeChainShiftEnd echo) released).trans
      (congrArg (fun x : State => Host.Outcome.next x.follow) ?_)
    rw [State.endShift, free]
  · have difference : sent ≠ echo → firstDifference sent echo = first := fun hne => by
      obtain ⟨g, b, rfl, hd, before⟩ | ⟨e, -⟩ := hfirst
      · exact firstDifference_eq hd before
      · exact absurd e hne
    have run : exec (.chainShiftEnd echo) s = .next (State.follow ((s.compareEcho sent echo).freed.reportShift.startShift)) := by
      refine (State.running_of_released (f := takeChainShiftEnd echo) released).trans
        (congrArg (fun x : State => Host.Outcome.next x.follow) ?_)
      rw [State.endShift, hs]
      rfl
    obtain ⟨calm, struck⟩ := s.compareEcho_eq sent echo
    have valves := s.reported_valves sent echo
    have link := s.reported_link sent echo
    have start := State.startShift_free (s := s.reported sent echo) (congrArg (·.shifting) valves)
    have wanted : (s.reported sent echo).valves.wanted = s.valves.wanted := congrArg (·.wanted) valves
    rw [wanted] at start
    have run' : exec (.chainShiftEnd echo) s = .next (s.reported sent echo).startShift.follow := run
    rw [start] at run'
    refine ⟨_, run', rfl, rfl, congrArg (·.fault) valves, congrArg (·.mismatches) valves, ?_, congrArg (·.attention.chainFault) link,
      fun still waits => ?_, fun g still hg hp => ⟨fun hw => ?_, fun hw part => ?_⟩, fun g hne hf hg hp => ?_⟩
    · refine (congrArg (·.firstMismatch) valves).trans ?_
      by_cases h : sent = echo
      · exact (if_pos (.inl h)).trans (if_pos (.inl h)).symm
      · rw [← difference h]; rfl
    · have same : s.compareEcho sent echo = s.compared sent echo := by
        by_cases h : sent = echo ∨ s.valves.fault = true
        · exact calm h
        · have none : s.cleaning.group = none := by tauto
          have halt : (s.compared sent echo).faultHalt = s.compared sent echo := by
            unfold State.faultHalt
            have none : (s.compared sent echo).cleaning.group = Option.none := none
            rw [none]
          rw [struck (fun e => h (.inl e)) (by simpa using fun e => h (.inr e)), halt]
      have idle : s.reported sent echo = (s.compared sent echo).freed := by
        rw [State.reported, same]
        exact State.reportShift_idle waits
      rw [idle]
      rfl
    · have idle : s.reported sent echo = (s.compared sent echo).freed.setGroup (some { g with takeWait := .thisShift }) := by
        rw [State.reported, calm still]
        exact (State.reportShift_take (s := (s.compared sent echo).freed) hg hp).1 hw
      rw [idle]
      generalize hm : (s.compared sent echo).valves.mismatches = n
      have calmed := State.compared_calm still
      rw [hm] at calmed
      rw [calmed]
      rfl
    · have purge : s.reported sent echo = (s.compared sent echo).freed.startRun g .purge 1 := by
        rw [State.reported, calm still]
        exact (State.reportShift_take (s := (s.compared sent echo).freed) hg hp).2 hw
      obtain ⟨cleaning, skid, climate, phased⟩ :=
        (s.compared sent echo).freed.startRun_spec (g := g) (Group.anyPart_iff.mpr part) .purge 1
      rw [← purge] at cleaning skid climate phased
      refine ⟨skid, ?_⟩
      have whole := phased.whole
      have cool : ({ s.climate with zones := (s.reported sent echo).climate.zones } : Climate) = s.climate := by rw [climate]; rfl
      generalize s.reported sent echo = v at *
      have frame : v = { (s.compared sent echo).freed with
          cleaning := v.cleaning
          valves := { (s.compared sent echo).freed.valves with groups := v.valves.groups } } :=
        whole.trans (congrArg (fun c : Climate => { (s.compared sent echo).freed.phased v with climate := c, cleaning := v.cleaning }) cool)
      rw [cleaning] at frame
      generalize hm : (s.compared sent echo).valves.mismatches = n
      have calmed := State.compared_calm still
      rw [hm] at calmed
      rw [calmed] at frame
      generalize v.valves.groups = groups at frame
      subst frame
      rfl
    · have halt : s.compareEcho sent echo = (s.compared sent echo).haltGroup g := by
        rw [struck hne hf, State.faultHalt]
        have hg : (s.compared sent echo).cleaning.group = some g := hg
        rw [hg]
      rw [State.haltGroup_eq _ hp] at halt
      obtain ⟨closed, -, -⟩ := (s.compared sent echo).abandon_aborts (sameLines_result (fun _ => .halted) g.lines)
      rw [← halt] at closed
      have idle : s.reported sent echo = (s.compareEcho sent echo).freed := by
        refine State.reportShift_idle fun k hk take => ?_
        have released : (s.compareEcho sent echo).freed.cleaning.group = _ := congrArg (·.group) closed.cleaning
        rw [released] at hk
        cases hk
        cases take
      rw [idle]
      exact ⟨closed.skid.1, congrArg (·.group) closed.cleaning⟩
  · refine (State.running_of_released (f := takeValveClear) released).trans (congrArg _ ?_)
    unfold takeValveClear
    rfl

end Sys2Proof.Machine
end

section
/-! PROOF. The settlement of a pour (R58), step by step: what each step writes of the line, the keg, the account and the valves. -/

namespace Sys2Proof.Machine
open Sys2Proof.Laws

section
variable {s t u : State} {l : Line}

/-! ### What a settlement writes -/

/-- A state with line records, kegs, accounts, valve patterns and attention taken from another. -/
def State.settling (s t : State) : State :=
  { s with
    lineTable := { s.lineTable with lines := t.lineTable.lines }
    kegRegister := { s.kegRegister with kegs := t.kegRegister.kegs }
    accounts := t.accounts
    valves := { s.valves with groups := t.valves.groups }
    link := { s.link with attention := t.link.attention } }

/-- A step of the settlement of a line's pour: the line, its kegs, an account and next patterns. -/
structure Settling (s t : State) (l : Line) : Prop where
  lines : SameBut s.lineTable.lines t.lineTable.lines l
  kegs : SameBut s.kegRegister.kegs t.kegRegister.kegs l
  enrol : (t.kegSlots l).lastEnrol = (s.kegSlots l).lastEnrol
  next : NextOnly s t
  frame : t = s.settling t

theorem Settling.refl (s : State) (l : Line) : Settling s s l := ⟨fun _ _ => rfl, fun _ _ => rfl, rfl, .refl s, rfl⟩

theorem Settling.trans (h : Settling s t l) (k : Settling t u l) : Settling s u l where
  lines := h.lines.of_trans k.lines
  kegs := h.kegs.of_trans k.kegs
  enrol := k.enrol.trans h.enrol
  next := h.next.trans k.next
  frame := by
    have e : t.settling u = (s.settling t).settling u := congrArg (State.settling · u) h.frame
    exact Eq.trans k.frame e

theorem State.setLine_settling (s : State) (l : Line) (r : LineRec) : Settling s (s.setLine l r) l :=
  ⟨fun _ hm => look_put_ne _ _ _ _ hm, fun _ _ => rfl, rfl, .of_valves rfl, rfl⟩

theorem State.setKeg_settling (s : State) (l : Line) (p : Position) (k : Option KegRec) : Settling s (s.setKeg l p k) l :=
  ⟨fun _ _ => rfl, fun _ hm => look_put_ne _ _ _ _ hm, by rw [State.slots_setKeg, KegSlots.set_lastEnrol], .of_valves rfl, rfl⟩

theorem State.raise_settling (s : State) (k : LineKind) (l : Line) : Settling s (s.raise k l) l :=
  ⟨fun _ _ => rfl, fun _ _ => rfl, rfl, .of_valves rfl, rfl⟩

theorem State.askSelector_settling (s : State) (l : Line) (p : Position) (on : Bool) : Settling s (s.askSelector l p on) l :=
  ⟨fun _ _ => rfl, fun _ _ => rfl, rfl, s.ask_nextOnly _ _ _, rfl⟩

theorem State.changeLine_settling (s : State) (l : Line) (r : LineRec) : Settling s (s.changeLine l r) l := by
  have frame := State.changeLine_frame (s := s) (l := l) r
  have lines := State.changeLine_lines (s := s) (l := l) r
  have kegs : (s.changeLine l r).kegRegister = s.kegRegister := congrArg (·.kegRegister) frame
  refine ⟨by rw [lines]; exact sameBut_put _ _ _, by rw [kegs]; exact fun _ _ => rfl, by rw [State.kegSlots, kegs]; rfl,
    (s.changeLine_plumbed l r).next, frame.trans ?_⟩
  rw [State.settling, lines, kegs]
  have accounts : (s.changeLine l r).accounts = s.accounts := congrArg (·.accounts) frame
  have link : (s.changeLine l r).link = s.link := congrArg (·.link) frame
  rw [accounts, link]
  rfl

theorem State.setKegState_settling (s : State) (l : Line) (p : Position) (x : KegState) : Settling s (s.setKegState l p x) l := by
  unfold State.setKegState
  split
  · exact s.setKeg_settling ..
  · exact .refl s l

/-! ### The keg leaves its tap (R83, R84, R8) -/

/-- The configuration and the totals of a line stay. -/
def SameSale (s t : State) (l : Line) : Prop := (t.line l).cfg = (s.line l).cfg ∧ (t.line l).totals = (s.line l).totals

theorem SameSale.trans (h : SameSale s t l) (k : SameSale t u l) : SameSale s u l := ⟨k.1.trans h.1, k.2.trans h.2⟩

theorem SameSale.of_lines (h : t.lineTable.lines = s.lineTable.lines) : SameSale s t l := by
  simp only [SameSale, State.line, h, and_self]

theorem State.setLine_sameSale {r : LineRec} (hc : r.cfg = (s.line l).cfg) (ht : r.totals = (s.line l).totals) :
    SameSale s (s.setLine l r) l := by
  rw [SameSale, State.line_setLine_same]; exact ⟨hc, ht⟩

theorem State.changeLine_sameSale {r : LineRec} (hc : r.cfg = (s.line l).cfg) (ht : r.totals = (s.line l).totals) :
    SameSale s (s.changeLine l r) l := by
  rw [SameSale, State.changeLine_line, if_pos rfl]; exact ⟨hc, ht⟩

theorem State.kegReport_settling (s : State) (l : Line) (q : Option Position) :
    Settling s (s.kegReport l q) l ∧ SameSale s (s.kegReport l q) l := by
  cases q with
  | some p =>
    unfold State.kegReport
    dsimp only
    split
    · exact ⟨s.setLine_settling .., State.setLine_sameSale rfl rfl⟩
    · exact ⟨.refl s l, rfl, rfl⟩
  | none =>
    unfold State.kegReport
    dsimp only
    split
    · exact ⟨(s.changeLine_settling ..).trans (State.raise_settling ..), State.changeLine_sameSale (s := s) (l := l) rfl rfl⟩
    · split
      · exact ⟨(s.changeLine_settling ..).trans (State.raise_settling ..), State.changeLine_sameSale (s := s) (l := l) rfl rfl⟩
      · exact ⟨.refl s l, rfl, rfl⟩

theorem State.changeover_settling (s : State) (l : Line) (p : Position) :
    Settling s (s.changeover l p) l ∧ SameSale s (s.changeover l p) l := by
  unfold State.changeover
  split
  · next q _ =>
    obtain ⟨h, k⟩ := ((s.setKegState l q .onTap).askSelector l q true).kegReport_settling l (some q)
    refine ⟨((s.setKegState_settling ..).trans (State.askSelector_settling ..)).trans h, SameSale.trans (.of_lines ?_) k⟩
    have frame := State.setKegState_frame (s := s) (l := l) q .onTap
    exact congrArg (·.lineTable.lines) frame
  · exact s.kegReport_settling l none

theorem State.spend_settling (s : State) (l : Line) (p : Position) : Settling s (s.spend l p) l ∧ SameSale s (s.spend l p) l := by
  unfold State.spend
  obtain ⟨h, k⟩ := (((s.setKegState l p .spent).askSelector l p false).raise .kegSpent l).changeover_settling l p
  refine ⟨(((s.setKegState_settling ..).trans (State.askSelector_settling ..)).trans (State.raise_settling ..)).trans h,
    SameSale.trans (.of_lines ?_) k⟩
  have frame := State.setKegState_frame (s := s) (l := l) p .spent
  exact congrArg (·.lineTable.lines) frame

theorem State.spend_accounts (s : State) (l : Line) (p : Position) : (s.spend l p).accounts = s.accounts := by
  rw [State.spend, State.changeover_frame, State.setKegState_frame]; rfl

theorem State.lowFlowReport_settling (s : State) (l : Line) :
    Settling s (s.lowFlowReport l) l ∧ SameSale s (s.lowFlowReport l) l ∧ (s.lowFlowReport l).accounts = s.accounts := by
  unfold State.lowFlowReport
  split
  · exact ⟨.refl s l, ⟨rfl, rfl⟩, rfl⟩
  next p _ =>
  split
  · exact ⟨.refl s l, ⟨rfl, rfl⟩, rfl⟩
  · next k _ =>
    dsimp only
    split
    · obtain ⟨h, e⟩ := (s.setKeg l p (some { k with lowFlows := satAdd k.lowFlows 1 })).spend_settling l p
      refine ⟨(s.setKeg_settling ..).trans h, SameSale.trans (.of_lines rfl) e, ?_⟩
      rw [State.spend_accounts]; rfl
    · exact ⟨(s.setKeg_settling ..).trans (State.setKeg_settling ..), ⟨rfl, rfl⟩, rfl⟩

/-! ### Tail learning (R30, R31) -/

theorem State.teach_idle {p : Pour} {r : CloseReason} {e : Ending} (h : p.teaches r e = false) (n : Nat) : s.teach l p r e n = s :=
  if_neg (by simp [h])

theorem State.teach_line (s : State) (l : Line) (p : Pour) (r : CloseReason) (e : Ending) (n : Nat) :
    (s.teach l p r e n).line l = { s.line l with
      cfg := (s.line l).cfg.map fun c => { c with tail := if p.teaches r e = true then learnTail c.tail n else c.tail } } := by
  unfold State.teach
  cases hc : (s.line l).cfg with
  | none => split <;> exact congrArg (fun x => ({ s.line l with cfg := x } : LineRec)) hc
  | some c =>
    split
    · exact State.line_setLine_same ..
    · simp [← hc]

theorem State.teach_frame (s : State) (l : Line) (p : Pour) (r : CloseReason) (e : Ending) (n : Nat) :
    SameBut s.lineTable.lines (s.teach l p r e n).lineTable.lines l ∧
    s.teach l p r e n = { s with lineTable := { s.lineTable with lines := (s.teach l p r e n).lineTable.lines } } := by
  unfold State.teach
  split
  · split
    · exact ⟨sameBut_put _ _ _, rfl⟩
    · exact ⟨fun _ _ => rfl, rfl⟩
  · exact ⟨fun _ _ => rfl, rfl⟩

theorem State.teach_settling (s : State) (l : Line) (p : Pour) (r : CloseReason) (e : Ending) (n : Nat) :
    Settling s (s.teach l p r e n) l := by
  obtain ⟨lines, frame⟩ := s.teach_frame l p r e n
  generalize s.teach l p r e n = t at *
  exact ⟨lines, by rw [frame]; exact fun _ _ => rfl, by rw [frame]; rfl, .of_valves (congrArg (·.valves) frame), by
    rw [State.settling]
    generalize t.lineTable.lines = a at frame
    subst frame
    rfl⟩

theorem Pour.teaches_iff {p : Pour} {r : CloseReason} {e : Ending} :
    p.teaches r e = true ↔ (∃ m, p.kind = .portion m) ∧ r = .target ∧ e = .quiet ∧ p.clamp = false := by
  unfold Pour.teaches
  cases p.kind <;> simp [and_assoc]

/-! ### The account (R33, R99) -/

theorem State.settleHold_settling (s : State) (id h b : Nat) (l : Line) : Settling s (s.settleHold id h b) l := by
  have frame := s.settleHold_frame id h b
  generalize s.settleHold id h b = t at *
  refine ⟨by rw [frame]; exact fun _ _ => rfl, by rw [frame]; exact fun _ _ => rfl, by rw [frame]; rfl,
    .of_valves (congrArg (·.valves) frame), ?_⟩
  rw [State.settling]
  generalize t.accounts = a at frame
  generalize t.link.attention = b at frame
  subst frame
  rfl

theorem State.settleAccount_settling (s : State) (p : Pour) (n : Nat) (l : Line) : Settling s (s.settleAccount p n) l := by
  unfold State.settleAccount
  split
  · exact s.settleHold_settling ..
  · exact .refl s l

theorem State.settleAccount_tables (s : State) (p : Pour) (n : Nat) : (s.settleAccount p n).lineTable = s.lineTable ∧
    (s.settleAccount p n).kegRegister = s.kegRegister ∧ (s.settleAccount p n).valves = s.valves := by
  unfold State.settleAccount
  split
  · next id _ =>
    have frame := s.settleHold_frame id p.hold (p.billed n)
    exact ⟨congrArg (·.lineTable) frame, congrArg (·.kegRegister) frame, congrArg (·.valves) frame⟩
  · exact ⟨rfl, rfl, rfl⟩

/-- A settlement of a hold reads the account table and attention alone. -/
theorem State.settleHold_lineTable (s : State) (x : LineTable) (id h b : Nat) :
    ({ s with lineTable := x } : State).settleHold id h b = { s.settleHold id h b with lineTable := x } := by
  have same : ({ s with lineTable := x } : State).findAccount id = s.findAccount id := rfl
  unfold State.settleHold
  rw [same]
  split
  · rfl
  · next i a _ =>
    unfold State.endHold
    split <;> rfl

/-! ### The keg and the totals (R82, R21) -/

theorem State.kegSettled_spec (s : State) (l : Line) (a : Amounts) (r : CloseReason) (n : Nat) :
    (∀ o x, s.onTap l = some o → s.keg l o = some x → (s.kegSettled l a r n).keg l o = some { x.withShares a.billed a.unbilled a.house a.loss with
      suspect := if r ≠ .lowFlow ∧ n ≥ 50 then false else x.suspect }) ∧
    (∀ o, s.onTap l ≠ some o → (s.kegSettled l a r n).keg l o = s.keg l o) ∧ Settling s (s.kegSettled l a r n) l ∧
    s.kegSettled l a r n = { s with kegRegister := { s.kegRegister with kegs := (s.kegSettled l a r n).kegRegister.kegs } } := by
  unfold State.kegSettled State.onKeg
  cases ho : s.onTap l with
  | none => exact ⟨fun _ _ h => (by cases h), fun _ _ => rfl, .refl s l, rfl⟩
  | some p =>
    dsimp only
    cases hk : s.keg l p with
    | none => exact ⟨fun o x h hx => (by cases h; rw [hk] at hx; cases hx), fun _ _ => rfl, .refl s l, rfl⟩
    | some k =>
      refine ⟨fun o x h hx => ?_, fun o h => ?_, s.setKeg_settling .., rfl⟩
      · cases h
        rw [hk] at hx
        cases hx
        exact (State.keg_setKeg_same ..).trans (congrArg some (KegRec.settled_eq ..))
      · exact State.keg_setKeg_ne _ _ _ _ _ _ (.inr fun e => h (congrArg some e.symm))

theorem State.addPour_settling (s : State) (l : Line) (account n billed unbilled : Nat) (warm : Bool) :
    Settling s (s.addPour l account n billed unbilled warm) l := s.setLine_settling ..

theorem State.settlePrime_settling (s : State) (l : Line) (n loss : Nat) : Settling s (s.settlePrime l n loss) l := by
  unfold State.settlePrime
  dsimp only
  split
  · split
    · exact (s.changeLine_settling ..).trans (State.raise_settling ..)
    · exact s.setLine_settling ..
  · exact .refl s l

theorem State.settlePrime_cfg (s : State) (l : Line) (n loss : Nat) : ((s.settlePrime l n loss).line l).cfg = (s.line l).cfg := by
  unfold State.settlePrime
  dsimp only
  split
  · split
    · refine (congrArg LineRec.cfg (State.changeLine_line (s := s) (l := l) _ l)).trans ?_
      rw [if_pos rfl]
    · rw [State.line_setLine_same]
  · rfl

theorem State.settleShares_settling (s : State) (l : Line) (p : Pour) (r : CloseReason) (n : Nat) :
    Settling s (s.settleShares l p r n) l ∧ ((s.settleShares l p r n).line l).cfg = (s.line l).cfg := by
  have keg (a : Amounts) (t : State) (h : t = s.kegSettled l a r n) : Settling s t l ∧ t.line l = s.line l := by
    obtain ⟨-, -, settling, frame⟩ := s.kegSettled_spec l a r n
    rw [h]
    exact ⟨settling, congrArg (fun x : LineTable => look x.lines l) (congrArg (·.lineTable) frame)⟩
  unfold State.settleShares
  split
  · exact ⟨.refl s l, rfl⟩
  · obtain ⟨h, e⟩ := keg _ _ rfl
    exact ⟨h.trans (State.settlePrime_settling ..), (State.settlePrime_cfg ..).trans (congrArg LineRec.cfg e)⟩
  · obtain ⟨h, e⟩ := keg _ _ rfl
    refine ⟨h.trans (State.addPour_settling ..), ?_⟩
    rw [State.addPour, State.line_setLine_same, e]

theorem State.settleLowFlow_settling (s : State) (l : Line) (p : Pour) (r : CloseReason) :
    Settling s (s.settleLowFlow l p r) l ∧ SameSale s (s.settleLowFlow l p r) l ∧ (s.settleLowFlow l p r).accounts = s.accounts := by
  unfold State.settleLowFlow
  split
  · exact s.lowFlowReport_settling l
  · exact ⟨.refl s l, ⟨rfl, rfl⟩, rfl⟩

theorem State.settleClean_idle {p : Pour} (h : p.kind ≠ .clean) (n : Nat) : s.settleClean l p n = s := if_neg h

/-! ### The whole settlement (R58, R59) -/

/-- The state that the summary of a settlement is written in. -/
def State.settledBy (s : State) (l : Line) (p : Pour) (v : Nat) (r : CloseReason) (e : Ending) : State :=
  ((((s.teach l p r e (p.v - v)).settleAccount p (deliveredML p.v)).settleShares l p r (deliveredML p.v)).settleLowFlow l p r).settleClean l p
    (deliveredML p.v)

theorem State.settle_pour (s : State) (l : Line) (p : Pour) (v : Nat) (r : CloseReason) (e : Ending) :
    (s.settle l p v r e).pour l = { s.pour l with
      record := .idle
      last := some {
        kind := p.kind, reason := r, ending := e, vml := deliveredML p.v, measured := p.v - v, billed := p.billed (deliveredML p.v)
        unbilled := p.unbilled (deliveredML p.v), tail := ((s.teach l p r e (p.v - v)).meterOf l).2 } } ∧
    SameBut s.pourControl.pours (s.settle l p v r e).pourControl.pours l ∧
    s.settle l p v r e = { s.settledBy l p v r e with
      pourControl := { s.pourControl with pours := (s.settle l p v r e).pourControl.pours } } := by
  have pours : (s.settledBy l p v r e).pourControl = s.pourControl := by
    rw [State.settledBy, State.settleClean_pourControl, State.settleLowFlow_pourControl, State.settleShares_pourControl,
      State.settleAccount_pourControl, State.teach_pourControl]
  have run : s.settle l p v r e = (s.settledBy l p v r e).writeSettlement l {
      kind := p.kind, reason := r, ending := e, vml := deliveredML p.v, measured := p.v - v, billed := p.billed (deliveredML p.v)
      unbilled := p.unbilled (deliveredML p.v), tail := ((s.teach l p r e (p.v - v)).meterOf l).2 } := rfl
  have pour : (s.settledBy l p v r e).pour l = s.pour l := congrArg (fun x : PourControl => look x.pours l) pours
  rw [run, State.writeSettlement, pour]
  refine ⟨State.pour_setPour_same .., fun m hm => (look_put_ne _ _ _ _ hm).trans (by rw [pours]), ?_⟩
  rw [State.setPour, pours]

/-- The settlement of a sale or PRIME draw. -/
theorem State.settledBy_settling {p : Pour} (hk : p.kind ≠ .clean) (s : State) (l : Line) (v : Nat) (r : CloseReason) (e : Ending) :
    Settling s (s.settledBy l p v r e) l ∧
    ((s.settledBy l p v r e).line l).cfg = (s.line l).cfg.map fun c => { c with
      tail := if p.teaches r e = true then learnTail c.tail (p.v - v) else c.tail } := by
  rw [State.settledBy, State.settleClean_idle hk]
  have h1 := s.teach_settling l p r e (p.v - v)
  have c1 := s.teach_line l p r e (p.v - v)
  generalize s.teach l p r e (p.v - v) = t at *
  have h2 := t.settleAccount_settling p (deliveredML p.v) l
  obtain ⟨lines, -, -⟩ := t.settleAccount_tables p (deliveredML p.v)
  have c2 : (t.settleAccount p (deliveredML p.v)).line l = t.line l := congrArg (fun x : LineTable => look x.lines l) lines
  obtain ⟨h3, c3⟩ := (t.settleAccount p (deliveredML p.v)).settleShares_settling l p r (deliveredML p.v)
  obtain ⟨h4, c4, -⟩ := ((t.settleAccount p (deliveredML p.v)).settleShares l p r (deliveredML p.v)).settleLowFlow_settling l p r
  refine ⟨((h1.trans h2).trans h3).trans h4, ?_⟩
  rw [c4.1, c3, c2, c1]

/-- The end of a tail, at its quiet count or its window, is the settlement of its pour (R56). -/
theorem State.tailEnd_runs {p : Pour} {n vClose q k : Nat} {r : CloseReason} {i : Instr} {e : Ending} (released : s.resetHeld = false)
    (hp : (s.pour l).record = .tailing p n vClose r q k)
    (hi : i = .tailQuietSettle l ∧ e = .quiet ∧ s.timing.settle ≤ q ∨ i = .tailWindow l ∧ e = .window ∧ s.timing.tailWindow ≤ k) :
    exec i s = .next (s.settle l p vClose r e).follow := by
  obtain ⟨rfl, rfl, due⟩ | ⟨rfl, rfl, due⟩ := hi
  · refine (State.running_of_released (f := takeTailQuietSettle l) released).trans
      (congrArg (fun x : State => Host.Outcome.next x.follow) ?_)
    unfold State.quietSettle
    rw [hp]
    exact if_pos due
  · refine (State.running_of_released (f := takeTailWindow l) released).trans
      (congrArg (fun x : State => Host.Outcome.next x.follow) ?_)
    unfold State.tailWindow
    rw [hp]
    exact if_pos due

end

/-- Settles O24: the configuration is written by tail learning alone. -/
theorem eligiblePoursTeachTheTail : Obligations.EligiblePoursTeachTheTail := by
  unfold Obligations.EligiblePoursTeachTheTail
  intro s l p n vClose q k r c i released hp hc hk hi
  have ends : ∃ e, exec i s = .next (s.settle l p vClose r e).follow ∧ (e = .quiet ↔ i = .tailQuietSettle l) := by
    obtain ⟨rfl, due⟩ | ⟨rfl, due⟩ := hi
    · exact ⟨.quiet, State.tailEnd_runs released hp (.inl ⟨rfl, rfl, due⟩), by simp⟩
    · exact ⟨.window, State.tailEnd_runs released hp (.inr ⟨rfl, rfl, due⟩), by simp⟩
  obtain ⟨e, run, quiet⟩ := ends
  refine ⟨_, run, ?_⟩
  obtain ⟨-, -, frame⟩ := s.settle_pour l p vClose r e
  obtain ⟨-, cfg⟩ := State.settledBy_settling hk s l vClose r e
  have line : (s.settle l p vClose r e).line l = (s.settledBy l p vClose r e).line l :=
    congrArg (fun x : LineTable => look x.lines l) (congrArg (·.lineTable) frame)
  rw [line, cfg, hc, Option.map_some]
  have teaches : p.teaches r e = true ↔ (∃ m, p.kind = .portion m) ∧ r = .target ∧ i = .tailQuietSettle l ∧ p.clamp = false := by
    rw [Pour.teaches_iff, quiet]
  simp only [teaches]
  rfl

end Sys2Proof.Machine
end

section
/-! PROOF. The settlements of a sale, of a PRIME draw and of a CLEAN draw (R58, R21, R33 to R35, R82, R7, R147). -/

namespace Sys2Proof.Machine
open Sys2Proof.Laws

section
variable {s t u : State} {l : Line} {p : Pour} {r : CloseReason} {e : Ending} {v : Nat}

/-! ### A sale -/

theorem PourKind.notClean_of_sale (h : p.kind.isSale = true) : p.kind ≠ .clean := by
  intro e; rw [e] at h; cases h

/-- The account that a sale settles on. -/
theorem Pour.holdAccount_sale {id : Nat} (hs : p.kind.isSale = true) (ha : p.account = some id) :
    p.holdAccount = if id = 0 then none else some id := by
  unfold Pour.holdAccount
  rw [if_pos hs, ha]
  cases id <;> rfl

theorem Pour.billed_sale {id : Nat} (hs : p.kind.isSale = true) (ha : p.account = some id) (n : Nat) :
    p.billed n = if id = 0 then 0 else min n p.hold := by
  unfold Pour.billed
  rw [Pour.holdAccount_sale hs ha]
  split <;> rfl

theorem Pour.unbilled_sale {id : Nat} (hs : p.kind.isSale = true) (ha : p.account = some id) (n : Nat) :
    p.unbilled n = if id = 0 then 0 else n - p.billed n := by
  unfold Pour.unbilled
  rw [Pour.billed_sale hs ha, Pour.holdAccount_sale hs ha]
  by_cases h : id = 0
  · simp [h]
  · simp [h]

theorem Pour.amounts_sale {id : Nat} (hs : p.kind.isSale = true) (ha : p.account = some id) (n : Nat) :
    p.amounts n 0 = ⟨p.billed n, if id = 0 then 0 else n - p.billed n, if id = 0 then n else 0, 0⟩ := by
  have kind : p.amounts n 0 = ⟨p.billed n, p.unbilled n, if p.holdAccount.isSome then 0 else n, 0⟩ := by
    unfold Pour.amounts
    cases hk : p.kind <;> simp_all [PourKind.isSale]
  rw [kind, Pour.unbilled_sale hs ha, Pour.holdAccount_sale hs ha]
  by_cases h : id = 0 <;> simp [h]

theorem State.settleShares_sale (hs : p.kind.isSale = true) (s : State) (l : Line) (r : CloseReason) (n : Nat) :
    s.settleShares l p r n =
      (s.kegSettled l (p.amounts n 0) r n).addPour l (p.account.getD 0) n (p.billed n) (p.unbilled n) p.warm := by
  unfold State.settleShares
  cases hk : p.kind <;> simp_all [PourKind.isSale]

/-- The state that a sale on an account leaves of its hold. -/
def State.holdSettled (s : State) (id : Nat) (p : Pour) (billed : Nat) : State :=
  if id = 0 then s else s.settleHold id p.hold billed

theorem State.settleAccount_sale {id n : Nat} (hs : p.kind.isSale = true) (ha : p.account = some id) {L : LineTable}
    (h : t = { s with lineTable := L }) : t.settleAccount p n = { s.holdSettled id p (p.billed n) with lineTable := L } := by
  subst h
  unfold State.settleAccount State.holdSettled
  rw [Pour.holdAccount_sale hs ha]
  by_cases h : id = 0
  · simp [h]
  · rw [if_neg h, if_neg h]
    exact s.settleHold_lineTable L id p.hold _

theorem State.holdSettled_frame (s : State) (id : Nat) (p : Pour) (billed : Nat) : s.holdSettled id p billed = { s with
    accounts := (s.holdSettled id p billed).accounts
    link := { s.link with attention := (s.holdSettled id p billed).link.attention } } := by
  unfold State.holdSettled
  split
  · rfl
  · exact s.settleHold_frame ..

/-- The totals of a line after a sale (R21). -/
def Totals.sold (x : Totals) (id vml billed : Nat) (warm : Bool) : Totals :=
  { x with
    house := if id = 0 then satAdd x.house vml else x.house
    billed := if id = 0 then x.billed else satAdd x.billed billed
    unbilled := if id = 0 then x.unbilled else satAdd x.unbilled (vml - billed)
    warm := if warm then satAdd x.warm vml else x.warm
    pours := satAdd x.pours 1 }

theorem Totals.addPour_eq (x : Totals) (id vml billed unbilled : Nat) (warm : Bool) (h : id ≠ 0 → unbilled = vml - billed) :
    x.addPour id vml billed unbilled warm = x.sold id vml billed warm := by
  unfold Totals.addPour Totals.sold
  by_cases hid : id = 0
  · simp [hid]
  · simp [hid, h hid]

/-- A keg after the shares of a settlement (R82). -/
def KegRec.shared (x : KegRec) (billed unbilled house loss vml : Nat) (r : CloseReason) : KegRec :=
  { x.withShares billed unbilled house loss with suspect := if r ≠ .lowFlow ∧ vml ≥ 50 then false else x.suspect }

/-- The shares of a sale: the account, the keg and the totals. -/
theorem State.shares_sale {id n : Nat} (hs : p.kind.isSale = true) (ha : p.account = some id) {M : Vector LineRec 32}
    (h : t = { s with lineTable := { s.lineTable with lines := M } }) (hu : u = (t.settleAccount p n).settleShares l p r n) :
    u.line l = { t.line l with totals := (t.line l).totals.sold id n (p.billed n) p.warm } ∧
    (∀ o x, s.onTap l = some o → s.keg l o = some x → u.keg l o = some
      (x.shared (p.billed n) (if id = 0 then 0 else n - p.billed n) (if id = 0 then n else 0) 0 n r)) ∧
    (∀ o, s.onTap l ≠ some o → u.keg l o = s.keg l o) ∧
    u = { s.holdSettled id p (p.billed n) with
      lineTable := { s.lineTable with lines := u.lineTable.lines }
      kegRegister := { s.kegRegister with kegs := u.kegRegister.kegs } } := by
  have hold := State.settleAccount_sale (n := n) hs ha h
  have frame := s.holdSettled_frame id p (p.billed n)
  rw [hold, State.settleShares_sale hs, Pour.amounts_sale hs ha, Pour.unbilled_sale hs ha, ha, Option.getD_some] at hu
  generalize s.holdSettled id p (p.billed n) = w at *
  have register : w.kegRegister = s.kegRegister := congrArg (·.kegRegister) frame
  have keg : ({ w with lineTable := { s.lineTable with lines := M } } : State).keg = s.keg := by
    funext m o
    exact congrArg (fun x : KegRegister => (look x.kegs m).at o) register
  have tap : ({ w with lineTable := { s.lineTable with lines := M } } : State).onTap l = s.onTap l := by
    simp only [State.onTap, keg]
  obtain ⟨tapped, others, -, kegged⟩ := ({ w with lineTable := { s.lineTable with lines := M } } : State).kegSettled_spec l
    ⟨p.billed n, if id = 0 then 0 else n - p.billed n, if id = 0 then n else 0, 0⟩ r n
  rw [tap, keg] at tapped others
  generalize ({ w with lineTable := { s.lineTable with lines := M } } : State).kegSettled l
    ⟨p.billed n, if id = 0 then 0 else n - p.billed n, if id = 0 then n else 0, 0⟩ r n = k at *
  have line : k.line l = t.line l := by rw [h]; exact congrArg (fun x : LineTable => look x.lines l) (congrArg (·.lineTable) kegged)
  subst hu
  refine ⟨?_, tapped, others, ?_⟩
  · rw [State.addPour, State.line_setLine_same, line, Totals.addPour_eq _ _ _ _ _ _ fun hid => if_neg hid]
  · generalize k.kegRegister.kegs = K at kegged
    subst kegged
    rw [← register]
    rfl

/-- The settlement of a sale: what its shares leave, and what a report of low flow leaves of them. -/
theorem State.settledBy_sale {id n : Nat} (hs : p.kind.isSale = true) (ha : p.account = some id) (hn : n = deliveredML p.v)
    (hu : u = s.settledBy l p v r e) :
    u.accounts = (s.holdSettled id p (p.billed n)).accounts ∧
    (u.line l).totals = (s.line l).totals.sold id n (p.billed n) p.warm ∧
    (r ≠ .lowFlow → (∀ o x, s.onTap l = some o → s.keg l o = some x → u.keg l o = some
        (x.shared (p.billed n) (if id = 0 then 0 else n - p.billed n) (if id = 0 then n else 0) 0 n r)) ∧
      (∀ o, s.onTap l ≠ some o → u.keg l o = s.keg l o) ∧ u.valves = s.valves ∧ (u.line l).mode = (s.line l).mode ∧
      u.link.attention = (s.holdSettled id p (p.billed n)).link.attention) := by
  obtain ⟨-, taught⟩ := s.teach_frame l p r e (p.v - v)
  have line := s.teach_line l p r e (p.v - v)
  obtain ⟨sold, tapped, others, frame⟩ := State.shares_sale (n := n) (r := r) (l := l) hs ha taught rfl
  rw [State.settledBy, State.settleClean_idle (PourKind.notClean_of_sale hs), ← hn] at hu
  have hold := s.holdSettled_frame id p (p.billed n)
  rw [line] at sold
  generalize ((s.teach l p r e (p.v - v)).settleAccount p n).settleShares l p r n = w at *
  obtain ⟨-, same, accounts⟩ := w.settleLowFlow_settling l p r
  refine ⟨?_, ?_, fun hr => ?_⟩
  · rw [hu, accounts]; exact congrArg (·.accounts) frame
  · rw [hu, same.2, sold]
  · have idle : w.settleLowFlow l p r = w := if_neg fun h => hr h.1
    rw [hu, idle]
    refine ⟨tapped, others, ?_, ?_, congrArg (·.link.attention) frame⟩
    · exact (congrArg (·.valves) frame).trans (congrArg (·.valves) hold)
    · rw [sold]

/-! ### A PRIME draw -/

theorem Pour.teaches_prime (hk : p.kind = .prime) : p.teaches r e = false := by
  unfold Pour.teaches; rw [hk]; rfl

theorem Pour.holdAccount_prime (hk : p.kind = .prime) : p.holdAccount = none := by
  unfold Pour.holdAccount; rw [hk]; rfl

theorem Pour.notSale {n : Nat} (h : p.holdAccount = none) : p.billed n = 0 ∧ p.unbilled n = 0 := by
  unfold Pour.billed Pour.unbilled
  rw [h]
  exact ⟨rfl, rfl⟩

/-- The record of a line after a PRIME draw (R7). -/
def LineRec.primedBy (x : LineRec) (before vml loss : Nat) (c : LineCfg) : LineRec :=
  let y := { x with totals := { x.totals with loss := satAdd x.totals.loss loss } }
  if (c.fill * c.primePercent + 99) / 100 ≤ before + vml then { y with mode := .ready, primed := none }
  else { y with primed := some (before + vml) }

theorem State.settlePrime_eq {c : LineCfg} {before : Nat} (hm : (s.line l).mode = .priming) (hc : (s.line l).cfg = some c)
    (hb : (s.line l).primed = some before) (n loss : Nat) : s.settlePrime l n loss =
      if (c.fill * c.primePercent + 99) / 100 ≤ before + n then
        (s.changeLine l ((s.line l).primedBy before n loss c)).raise .lineReady l
      else s.setLine l ((s.line l).primedBy before n loss c) := by
  unfold State.settlePrime LineRec.primedBy
  dsimp only
  rw [hm, hc, hb]
  dsimp only
  by_cases full : (c.fill * c.primePercent + 99) / 100 ≤ before + n
  · rw [if_pos full, if_pos full]
    exact if_pos full
  · rw [if_neg full, if_neg full]
    exact if_neg full

/-- The prime target of a line is reached with a PRIME draw (R7). -/
def LineCfg.primedFull (c : LineCfg) (before vml : Nat) : Prop := (c.fill * c.primePercent + 99) / 100 ≤ before + vml

theorem LineRec.primedBy_full {x : LineRec} {c : LineCfg} {before n : Nat} (h : c.primedFull before n) (loss : Nat) :
    x.primedBy before n loss c = { x with
      mode := .ready, primed := none, totals := { x.totals with loss := satAdd x.totals.loss loss } } := if_pos h

theorem LineRec.primedBy_open {x : LineRec} {c : LineCfg} {before n : Nat} (h : ¬c.primedFull before n) (loss : Nat) :
    x.primedBy before n loss c = { x with
      primed := some (before + n), totals := { x.totals with loss := satAdd x.totals.loss loss } } := if_neg h

theorem LineRec.primedBy_cfg (x : LineRec) (before n loss : Nat) (c : LineCfg) : (x.primedBy before n loss c).cfg = x.cfg := by
  unfold LineRec.primedBy
  dsimp only
  split <;> rfl

/-- What a PRIME draw leaves at its line, as it reaches its target or not (R7, R8, R14). -/
structure Primed (s u : State) (l : Line) (c : LineCfg) (before n loss : Nat) : Prop where
  line : u.line l = (s.line l).primedBy before n loss c
  full : c.primedFull before n → AskedLine s u l true false ∧ SameBut s.valves.groups u.valves.groups (lineGroup l) ∧
    u.link.attention = s.link.attention.raiseLine .lineReady l
  part : ¬c.primedFull before n → u.valves = s.valves ∧ u.link = s.link
  lines : SameBut s.lineTable.lines u.lineTable.lines l
  frame : u = { s with
    lineTable := { s.lineTable with lines := u.lineTable.lines }
    kegRegister := { s.kegRegister with kegs := u.kegRegister.kegs }
    valves := { s.valves with groups := u.valves.groups }
    link := { s.link with attention := u.link.attention } }

theorem State.settlePrime_spec {c : LineCfg} {before : Nat} (hm : (s.line l).mode = .priming) (hc : (s.line l).cfg = some c)
    (hb : (s.line l).primed = some before) (n loss : Nat) :
    Primed s (s.settlePrime l n loss) l c before n loss ∧ (s.settlePrime l n loss).kegRegister = s.kegRegister := by
  by_cases full : c.primedFull before n
  · rw [(State.settlePrime_eq hm hc hb n loss).trans (if_pos full)]
    have mode : ((s.line l).primedBy before n loss c).mode = .ready := by rw [LineRec.primedBy_full full]
    have asked := s.changeLine_asked l ((s.line l).primedBy before n loss c)
    have line := State.changeLine_line (s := s) (l := l) ((s.line l).primedBy before n loss c) l
    have lines := State.changeLine_lines (s := s) (l := l) ((s.line l).primedBy before n loss c)
    have others {g : ValveGroup} (h : g ≠ lineGroup l) := State.changeLine_valve_ne (s := s) ((s.line l).primedBy before n loss c) h
    have frame := State.changeLine_frame (s := s) (l := l) ((s.line l).primedBy before n loss c)
    rw [LineRec.productOpen, mode] at asked
    rw [if_pos rfl] at line
    generalize s.changeLine l ((s.line l).primedBy before n loss c) = t at *
    have link : t.link = s.link := congrArg (·.link) frame
    refine ⟨⟨line, fun _ => ⟨AskedPair.congr asked rfl rfl, fun _ h => others h, ?_⟩, fun h => absurd full h, ?_, ?_⟩,
      congrArg (·.kegRegister) frame⟩
    · exact congrArg (fun x : Link => x.attention.raiseLine .lineReady l) link
    · exact fun m h => (congrArg (fun x : LineTable => look x.lines m) lines).trans (look_put_ne _ _ _ _ h)
    · generalize t.valves.groups = v at frame
      subst frame
      rfl
  · rw [(State.settlePrime_eq hm hc hb n loss).trans (if_neg full)]
    exact ⟨⟨State.line_setLine_same .., fun h => absurd h full, fun _ => ⟨rfl, rfl⟩, fun _ h => look_put_ne _ _ _ _ h, rfl⟩, rfl⟩

/-- The shares of a PRIME draw: the keg, the volume primed and the loss. -/
theorem State.shares_prime {c : LineCfg} {before n loss : Nat} (hk : p.kind = .prime) (hm : (s.line l).mode = .priming)
    (hc : (s.line l).cfg = some c) (hb : (s.line l).primed = some before) (hl : loss = before + n - max before c.fill)
    (hu : u = (s.settleAccount p n).settleShares l p r n) :
    Primed s u l c before n loss ∧
    (∀ o x, s.onTap l = some o → s.keg l o = some x → u.keg l o = some (x.shared 0 0 0 loss n r)) ∧
    (∀ o, s.onTap l ≠ some o → u.keg l o = s.keg l o) := by
  have account : s.settleAccount p n = s := by
    unfold State.settleAccount
    rw [Pour.holdAccount_prime hk]
  have lossOf : s.lossOf l p n = loss := by
    unfold State.lossOf
    rw [if_pos hk, hb, State.fillOf_eq hc, hl]
    rfl
  have amounts : p.amounts n loss = ⟨0, 0, 0, loss⟩ := by
    unfold Pour.amounts
    rw [hk]
  have shares : s.settleShares l p r n = (s.kegSettled l (p.amounts n loss) r n).settlePrime l n loss := by
    unfold State.settleShares
    rw [hk, ← lossOf]
  rw [account, shares, amounts] at hu
  obtain ⟨tapped, others, -, frame⟩ := s.kegSettled_spec l ⟨0, 0, 0, loss⟩ r n
  generalize s.kegSettled l ⟨0, 0, 0, loss⟩ r n = k at *
  have table : k.lineTable = s.lineTable := congrArg (·.lineTable) frame
  have line : k.line l = s.line l := congrArg (fun x : LineTable => look x.lines l) table
  have valves : k.valves = s.valves := congrArg (·.valves) frame
  have link : k.link = s.link := congrArg (·.link) frame
  obtain ⟨⟨line', full, part, lines, frame'⟩, kegs⟩ := State.settlePrime_spec (by rw [line]; exact hm) (by rw [line]; exact hc)
    (by rw [line]; exact hb) n loss
  rw [← hu] at line' full part lines frame' kegs
  have keg (o : Position) : u.keg l o = k.keg l o := congrArg (fun x : KegRegister => (look x.kegs l).at o) kegs
  refine ⟨⟨by rw [line', line], fun h => ?_, fun h => ?_, by rw [← table]; exact lines, ?_⟩, fun o x h hx => ?_, fun o h => ?_⟩
  · obtain ⟨asked, same, raised⟩ := full h
    exact ⟨AskedPair.congr asked (congrArg (fun x : Valves => look x.groups (lineGroup l)) valves.symm) rfl, by rw [← valves]; exact same,
      by rw [← link]; exact raised⟩
  · rw [← valves, ← link]; exact part h
  · rw [frame', frame]
  · rw [keg]; exact tapped o x h hx
  · rw [keg]; exact others o h

/-! ### A CLEAN draw -/

theorem State.settledBy_clean (hk : p.kind = .clean) (s : State) (l : Line) (v : Nat) (r : CloseReason) (e : Ending) :
    s.settledBy l p v r e = s.drawSettled l (deliveredML p.v) := by
  have untaught : p.teaches r e = false := by unfold Pour.teaches; rw [hk]; rfl
  have account : s.settleAccount p (deliveredML p.v) = s := by
    unfold State.settleAccount Pour.holdAccount
    rw [hk]
    rfl
  have shares : s.settleShares l p r (deliveredML p.v) = s := by
    unfold State.settleShares
    rw [hk]
  have report : s.settleLowFlow l p r = s := if_neg fun h => h.2 hk
  rw [State.settledBy, State.teach_idle untaught, account, shares, report]
  exact if_pos hk

/-- A settled draw of the run in progress counts for its line, and any other leaves it without one (R147). -/
theorem Group.drawSettled_eq {g : Group} {x : GroupLine} {ls : List GroupLine} {n : Nat} {counts : Prop}
    (hd : (g.lines.map GroupLine.line).Nodup) (hx : x ∈ g.lines) (hl : x.line = l)
    (hc : counts ↔ x.draw = some (g.phase, g.run) ∧ x.result.takesPart = true)
    (hls : counts ∧ ls = (g.lines.map fun z => if z.line = l then
        { z with draw := none, delivered := z.delivered + n, owed := z.owed - n } else z) ∨
      ¬counts ∧ ls = g.lines.map fun z => if z.line = l then { z with draw := none } else z) :
    g.mapLines (GroupLine.drawSettled g l n) = { g with lines := ls } ∧ SameLines ls g.lines := by
  have same : g.lines.map (GroupLine.drawSettled g l n) = ls := by
    have each (f : GroupLine → GroupLine) (h : GroupLine.drawSettled g l n x = f x) (hf : ∀ z, z.line ≠ l → f z = z) :
        g.lines.map (GroupLine.drawSettled g l n) = g.lines.map f := by
      refine List.map_congr_left fun z hz => ?_
      by_cases e : z.line = l
      · rw [List.inj_on_of_nodup_map hd hz hx (e.trans hl.symm)]
        exact h
      · exact (if_neg e).trans (hf z e).symm
    obtain ⟨c, rfl⟩ | ⟨c, rfl⟩ := hls
    · exact each _ (by rw [GroupLine.drawSettled, if_pos hl, if_pos (hc.mp c), if_pos hl]) fun z h => if_neg h
    · exact each _ (by rw [GroupLine.drawSettled, if_pos hl, if_neg fun h => c (hc.mpr h), if_pos hl]) fun z h => if_neg h
  refine ⟨congrArg (fun xs => ({ g with lines := xs } : Group)) same, ?_⟩
  rw [← same]
  refine SameLines.map (fun z => ?_) _
  unfold GroupLine.drawSettled
  split
  · split <;> exact ⟨rfl, rfl⟩
  · exact ⟨rfl, rfl⟩

/-- A draw that ends no run and releases no group (R147). -/
theorem State.settleRun_waits {g : Group} (h : g.phase = .release ∧ (∃ z ∈ g.lines, z.draw ≠ none) ∨
    g.phase ≠ .release ∧ (g.phase.metered = false ∨ ∃ z ∈ g.lines, z.owing = true)) :
    (s.settleRun g).considerRelease = s.setGroup (some g) := by
  have waits : s.settleRun g = s.setGroup (some g) := by
    refine if_neg fun e => ?_
    obtain ⟨metered, done⟩ := Bool.and_eq_true_iff.mp e
    rw [Bool.not_eq_true', Group.anyOwing, List.any_eq_false] at done
    obtain ⟨hp, -⟩ | ⟨-, hm | ⟨z, hz, owing⟩⟩ := h
    · rw [hp] at metered; cases metered
    · rw [hm] at metered; cases metered
    · exact done z hz owing
  rw [waits]
  obtain ⟨k, hk, release, draws, -⟩ | idle := (s.setGroup (some g)).considerRelease_cases
  · cases hk
    obtain ⟨-, z, hz, draw⟩ | ⟨hp, -⟩ := h
    · exact absurd (draws z hz) draw
    · exact absurd release hp
  · exact idle

/-- The last draw of a group that waits in RELEASE releases it (R147, R155). -/
theorem State.settleRun_releases {g : Group} (hp : g.phase = .release) (draws : ∀ z ∈ g.lines, z.draw = none)
    (hd : (g.lines.map GroupLine.line).Nodup) (modes : ∀ z ∈ g.lines, (s.line z.line).mode = .cleaning)
    (hu : u = (s.settleRun g).considerRelease) :
    u.cleaning = { s.cleaning with group := none } ∧ ∀ z ∈ g.lines, u.line z.line = (s.line z.line).released z.result := by
  have waits : s.settleRun g = s.setGroup (some g) := by
    refine if_neg fun e => ?_
    rw [hp] at e
    cases e
  have release : (s.setGroup (some g)).considerRelease = (s.setGroup (some g)).releaseGroup g :=
    if_pos ⟨hp, by simpa using draws⟩
  rw [waits, release, State.releaseGroup_eq] at hu
  obtain ⟨each, -, -, -, relined⟩ := State.foldl_releaseLine g.lines hd (s.setGroup (some g)) modes
  generalize g.lines.foldl (fun s x => s.releaseLine x.line x.result.toClean) (s.setGroup (some g)) = t at *
  have cleaning : t.cleaning = (s.setGroup (some g)).cleaning := congrArg (·.cleaning) relined
  subst hu
  exact ⟨congrArg (fun x : Cleaning => { x with group := none }) cleaning, fun z hz => (each z hz).1⟩

/-- A metered run in which a line still takes part does not end in RELEASE. -/
theorem phase_of_runEnds {g h : Group} {ls : List GroupLine} (hp : g.phase = .purge ∨ g.phase = .caustic ∨ g.phase = .rinse)
    (ends : RunEnds s t g ls h) : h.phase ≠ .release := by
  obtain ⟨purge, rinse, caustic, -, -⟩ := ends
  obtain hp | hp | hp := hp
  · rw [(purge hp).2]; simp
  · obtain ⟨strong, first, second⟩ := caustic _ hp Iff.rfl
    by_cases hs : ∃ f : Int, s.climate.reading .solutionCond = some f ∧ (g.recipe.condMin : Int) ≤ f
    · rw [(strong hs).1]; simp
    · by_cases h1 : g.run = 1
      · rw [(first hs h1).2.2]; simp
      · rw [(second hs h1).2.2]; simp
  · rw [(rinse hp).2]; simp

/-- A draw that leaves no line owing ends the run (R147). -/
theorem State.settleRun_ends {g : Group} {ls : List GroupLine} (same : SameLines ls g.lines) (hm : g.phase.metered = true)
    (paid : ∀ z ∈ ls, z.owing = false) (part : ∃ z ∈ ls, z.result.takesPart = true) :
    RunEnded s (s.settleRun { g with lines := ls }).considerRelease g ls := by
  have due : s.settleRun { g with lines := ls } = s.endRun { g with lines := ls } := by
    refine if_pos (Bool.and_eq_true_iff.mpr ⟨hm, ?_⟩)
    rw [Bool.not_eq_true', Group.anyOwing, List.any_eq_false]
    exact fun z hz => by rw [paid z hz]; decide
  have ended := s.endRun_spec same (Phase.metered_iff.mp hm) part
  rw [due, State.considerRelease_of_phase]
  · exact ended
  · obtain ⟨h, group, ends, -⟩ := ended
    intro k hk
    rw [group] at hk
    intro hp
    cases hk
    exact phase_of_runEnds (Phase.metered_iff.mp hm) ends hp

/-! ### The settlement that a tail end carries out -/

/-- What the settlement of a sale or PRIME draw writes. -/
structure Settled (s u : State) (l : Line) : Prop where
  lines : SameBut s.lineTable.lines u.lineTable.lines l
  kegs : SameBut s.kegRegister.kegs u.kegRegister.kegs l
  enrol : (u.kegSlots l).lastEnrol = (s.kegSlots l).lastEnrol
  next : NextOnly s u
  frame : u = { s with
    lineTable := { s.lineTable with lines := u.lineTable.lines }
    pourControl := { s.pourControl with pours := u.pourControl.pours }
    kegRegister := { s.kegRegister with kegs := u.kegRegister.kegs }
    accounts := u.accounts
    valves := { s.valves with groups := u.valves.groups }
    link := { s.link with attention := u.link.attention } }

/-- The tables that a settlement leaves are those its summary is written in. -/
theorem State.settle_tables (hu : u = s.settle l p v r e) : u.lineTable = (s.settledBy l p v r e).lineTable ∧
    u.kegRegister = (s.settledBy l p v r e).kegRegister ∧ u.accounts = (s.settledBy l p v r e).accounts ∧
    u.climate = (s.settledBy l p v r e).climate ∧ u.cleaning = (s.settledBy l p v r e).cleaning ∧
    u.valves = (s.settledBy l p v r e).valves ∧ u.link = (s.settledBy l p v r e).link := by
  obtain ⟨-, -, frame⟩ := s.settle_pour l p v r e
  rw [← hu] at frame
  exact ⟨congrArg (·.lineTable) frame, congrArg (·.kegRegister) frame, congrArg (·.accounts) frame, congrArg (·.climate) frame,
    congrArg (·.cleaning) frame, congrArg (·.valves) frame, congrArg (·.link) frame⟩

theorem State.settle_settled (hk : p.kind ≠ .clean) (hu : u = s.settle l p v r e) : Settled s u l ∧
    (u.line l).cfg = (s.line l).cfg.map fun c => { c with
      tail := if p.teaches r e = true then learnTail c.tail (p.v - v) else c.tail } := by
  obtain ⟨-, -, frame⟩ := s.settle_pour l p v r e
  obtain ⟨⟨lines, kegs, enrol, next, settling⟩, cfg⟩ := State.settledBy_settling hk s l v r e
  rw [← hu] at frame
  generalize s.settledBy l p v r e = w at *
  generalize u.pourControl.pours = P at frame
  subst frame
  refine ⟨⟨lines, kegs, enrol, next, ?_⟩, cfg⟩
  have e := congrArg (fun x : State => ({ x with pourControl := { s.pourControl with pours := P } } : State)) settling
  exact e

/-- The tail that a summary shows is the one the line keeps. -/
theorem State.settle_tail (hk : p.kind ≠ .clean) (hu : u = s.settle l p v r e) :
    ((s.teach l p r e (p.v - v)).meterOf l).2 = ((u.line l).cfg.map LineCfg.tail).getD 0 := by
  obtain ⟨-, cfg⟩ := State.settle_settled hk hu
  rw [cfg, State.meterOf, s.teach_line l p r e (p.v - v)]
  cases (s.line l).cfg <;> rfl

theorem KegRec.shared_eq (x : KegRec) (hr : r ≠ .lowFlow) (billed unbilled house loss n : Nat) :
    x.shared billed unbilled house loss n r = { x.withShares billed unbilled house loss with
      suspect := if 50 ≤ n then false else x.suspect } := by
  simp only [KegRec.shared, ne_eq, hr, not_false_eq_true, true_and, ge_iff_le]

end

/-- Settles O23: the shares of a sale, of a PRIME draw and of a CLEAN draw, each in the settlement that the tail end carries out. -/
theorem tailEndSettlesThePour : Obligations.TailEndSettlesThePour := by
  unfold Obligations.TailEndSettlesThePour
  intro s l p n vClose q k vml r i e released hp hi hv
  have volume : deliveredML p.v = vml := hv.symm
  obtain ⟨u, hu⟩ : ∃ u, u = s.settle l p vClose r e := ⟨_, rfl⟩
  obtain ⟨pour, pours, frame⟩ := s.settle_pour l p vClose r e
  obtain ⟨lineTable, kegRegister, accounts, climate, cleaning, valves, link⟩ := State.settle_tables hu
  have run := State.tailEnd_runs released hp hi
  have tail := fun hk => State.settle_tail hk hu
  rw [← hu] at pour pours frame run
  rw [volume] at pour
  have line (m : Line) : u.line m = (s.settledBy l p vClose r e).line m := congrArg (fun x : LineTable => look x.lines m) lineTable
  have keg (m : Line) (o : Position) : u.keg m o = (s.settledBy l p vClose r e).keg m o :=
    congrArg (fun x : KegRegister => (look x.kegs m).at o) kegRegister
  refine ⟨u, run, hu, by rw [pour], by rw [pour], pours, ⟨_, by rw [pour], rfl, rfl, rfl, rfl, rfl⟩,
    fun id billed hs ha hb => ?_, fun c before loss full hk hr hm hc hprimed hl hfull => ?_,
    fun g x ls counts hk hg hd hx hxl hcounts hls => ?_⟩
  · have notClean := PourKind.notClean_of_sale hs
    have share : p.billed vml = billed := (Pour.billed_sale hs ha vml).trans hb.symm
    obtain ⟨account, totals, rest⟩ := State.settledBy_sale hs ha rfl (rfl : s.settledBy l p vClose r e = _)
    rw [volume, share] at account totals rest
    obtain ⟨⟨lines, kegs, -, next, settled⟩, -⟩ := State.settle_settled notClean hu
    refine ⟨?_, ?_, by rw [line]; exact totals, lines, fun o x ho hx hr => ?_, kegs, next, fun hr => ?_, settled⟩
    · rw [pour, Pour.unbilled_sale hs ha, share, tail notClean]
    · rw [accounts, account, State.holdSettled]
      split <;> rfl
    · obtain ⟨tapped, -⟩ := rest hr
      rw [keg, tapped o x ho hx, KegRec.shared_eq x hr]
    · obtain ⟨-, others, pipes, mode, attention⟩ := rest hr
      exact ⟨valves.trans pipes, by rw [line]; exact mode, fun o ho => by rw [keg]; exact others o ho, by rw [link]; exact attention⟩
  · have notClean : p.kind ≠ .clean := by rw [hk]; decide
    have shares : s.settledBy l p vClose r e = (s.settleAccount p vml).settleShares l p r vml := by
      rw [State.settledBy, State.settleClean_idle notClean, State.teach_idle (Pour.teaches_prime hk), volume]
      exact if_neg fun h => hr h.1
    obtain ⟨⟨primed, reached, short, lines, settled⟩, tapped, others⟩ := State.shares_prime hk hm hc hprimed hl shares
    have zero := Pour.notSale (n := vml) (Pour.holdAccount_prime hk)
    obtain ⟨⟨lines', kegs, -, -, settled'⟩, -⟩ := State.settle_settled notClean hu
    have filled : full ↔ c.primedFull before vml := hfull
    have totals : (u.line l).totals = { (s.line l).totals with loss := satAdd (s.line l).totals.loss loss } := by
      rw [line, primed]
      by_cases h : c.primedFull before vml
      · rw [LineRec.primedBy_full h]
      · rw [LineRec.primedBy_open h]
    refine ⟨?_, totals, fun h => ?_, fun h => ?_, lines', fun o x ho hx => ?_, kegs, ?_⟩
    · rw [pour, zero.1, zero.2, tail notClean, hk, line, primed, LineRec.primedBy_cfg, hc]
      rfl
    · obtain ⟨asked, same, attention⟩ := reached (filled.mp h)
      refine ⟨?_, AskedPair.congr asked rfl (congrArg (fun x : Valves => look x.groups (lineGroup l)) valves), ?_, ?_⟩
      · rw [totals, line, primed, LineRec.primedBy_full (filled.mp h)]
      · rw [valves]; exact same
      · rw [link]; exact attention
    · obtain ⟨pipes, posted⟩ := short fun k => h (filled.mpr k)
      refine ⟨?_, valves.trans pipes, link.trans posted⟩
      rw [totals, line, primed, LineRec.primedBy_open fun k => h (filled.mpr k)]
    · refine ⟨?_, ?_⟩
      · rw [keg, tapped o x ho hx, KegRec.shared_eq x hr]
      · rw [keg]
        exact others _ fun h => absurd (Option.some.inj (ho.symm.trans h)) (by cases o <;> decide)
    · have same : u.accounts = s.accounts := accounts.trans (congrArg (·.accounts) settled)
      rw [same] at settled'
      exact settled'
  · have draw : s.settledBy l p vClose r e = s.drawSettled l vml := by rw [State.settledBy_clean hk, volume]
    obtain ⟨counted, same⟩ := Group.drawSettled_eq hd hx hxl hcounts hls
    have step : s.drawSettled l vml = (s.settleRun { g with lines := ls }).considerRelease := by
      rw [State.drawSettled, hg, ← counted]
    rw [draw, step] at frame lineTable cleaning line
    have nodup : (ls.map GroupLine.line).Nodup := by
      have e := congrArg (List.map Prod.fst) same
      simp only [List.map_map] at e
      exact (show ls.map GroupLine.line = g.lines.map GroupLine.line from e) ▸ hd
    refine ⟨fun waits => ?_, fun hphase draws modes => ?_, fun metered paid part => ?_⟩
    · rw [State.settleRun_waits (g := { g with lines := ls }) waits] at frame
      exact frame
    · obtain ⟨group, each⟩ := State.settleRun_releases (s := s) (g := { g with lines := ls }) hphase draws nodup modes rfl
      exact ⟨cleaning.trans group, fun z hz => by rw [line]; exact each z hz⟩
    · obtain ⟨h, group, ends, loss, -, -, -, grouped⟩ := s.settleRun_ends same metered paid part
      refine ⟨h, cleaning.trans group, ?_, fun hphase => ?_, ?_⟩
      · generalize u.pourControl.pours = P at frame
        generalize (s.settleRun { g with lines := ls }).considerRelease = w at *
        subst frame
        exact ends
      · exact (loss hphase hd).congr rfl rfl lineTable (by rw [frame])
      · generalize u.pourControl.pours = P at frame
        generalize (s.settleRun { g with lines := ls }).considerRelease = w at *
        subst frame
        have e := congrArg (fun x : State => ({ x with
          pourControl := { s.pourControl with pours := P }, cleaning := w.cleaning } : State)) grouped
        exact e

end Sys2Proof.Machine
end

section
/-! PROOF. The low-flow report of a settlement (R83, R84): the keg that becomes suspect, and the keg that is spent. -/

namespace Sys2Proof.Machine
open Sys2Proof.Laws

section
variable {s t u : State} {l : Line} {o : Position} {p : Pour} {e : Ending} {v : Nat} {x y : KegRec}

theorem State.onTap_congr (h : ∀ q, (t.keg l q).map KegRec.state = (s.keg l q).map KegRec.state) : t.onTap l = s.onTap l := by
  have any (q : Position) : ((t.keg l q).any fun k => k.state == .onTap) = (s.keg l q).any fun k => k.state == .onTap := by
    have e := congrArg (Option.any fun k : KegState => k == .onTap) (h q)
    rwa [Option.any_map, Option.any_map] at e
  simp only [State.onTap, any]

/-- What the report of a low flow leaves of the keg ON_TAP (R83, R84). -/
structure Reported (t w : State) (l : Line) (o : Position) (y : KegRec) : Prop where
  suspect : t.timing.emptyMargin < y.nominal - y.drawn → y.suspect = false →
    w.keg l o = some { y with lowFlows := satAdd y.lowFlows 1, suspect := true } ∧ w.keg l o.other = t.keg l o.other ∧
    w = { t with kegRegister := { t.kegRegister with kegs := w.kegRegister.kegs } }
  spent : y.nominal - y.drawn ≤ t.timing.emptyMargin ∨ y.suspect = true →
    w.keg l o = some { y with lowFlows := satAdd y.lowFlows 1, state := .spent } ∧ ChangedOver t w l o ∧
    w = { t with
      lineTable := { t.lineTable with lines := w.lineTable.lines }
      kegRegister := { t.kegRegister with kegs := w.kegRegister.kegs }
      valves := { t.valves with groups := w.valves.groups }
      link := { t.link with
        attention := if t.changesOver l o = true then t.link.attention.raiseLine .kegSpent l
          else (t.link.attention.raiseLine .kegSpent l).raiseLine .lineDry l } }

theorem State.lowFlowReport_spec (ho : t.onTap l = some o) (hy : t.keg l o = some y)
    (hu : (t.line l).under = .ready ∨ (t.line l).under = .priming) : Reported t (t.lowFlowReport l) l o y := by
  have run : t.lowFlowReport l = if y.nominal - y.drawn ≤ t.timing.emptyMargin ∨ y.suspect = true then
      (t.setKeg l o (some { y with lowFlows := satAdd y.lowFlows 1 })).spend l o
      else (t.setKeg l o (some { y with lowFlows := satAdd y.lowFlows 1 })).setKeg l o
        (some { y with lowFlows := satAdd y.lowFlows 1, suspect := true }) := by
    unfold State.lowFlowReport
    rw [ho]
    dsimp only
    rw [hy]
    rfl
  have across (k : KegRec) : (t.setKeg l o (some k)).keg l o.other = t.keg l o.other :=
    State.keg_setKeg_ne _ _ _ _ _ _ (.inr (Position.other_ne o))
  refine ⟨fun margin clear => ?_, fun due => ?_⟩
  · rw [run, if_neg fun h => h.elim (fun h => absurd margin (Nat.not_lt.mpr h)) fun h => by rw [clear] at h; cases h]
    exact ⟨State.keg_setKeg_same .., (State.keg_setKeg_ne _ _ _ _ _ _ (.inr (Position.other_ne o))).trans (across _), rfl⟩
  · rw [run, if_pos due]
    obtain ⟨spent, -, -, changed, frame⟩ := State.spend_spec (s := t.setKeg l o (some { y with lowFlows := satAdd y.lowFlows 1 }))
      (State.keg_setKeg_same ..) hu
    have changes : (t.setKeg l o (some { y with lowFlows := satAdd y.lowFlows 1 })).changesOver l o = t.changesOver l o := by
      simp only [State.changesOver, State.eligible, across]
      rfl
    rw [changes] at frame
    exact ⟨spent, changed.congr rfl (across _).symm rfl rfl rfl rfl, frame⟩

/-- A report that changes the kegs alone, after the shares of a settlement. -/
theorem settling_kegs {w : State} (frame : t = s.settling t)
    (hw : w = { t with kegRegister := { t.kegRegister with kegs := w.kegRegister.kegs } })
    (hu : u = { w with pourControl := { s.pourControl with pours := u.pourControl.pours } }) :
    u = { ({ t with kegRegister := s.kegRegister } : State) with
      pourControl := { s.pourControl with pours := u.pourControl.pours }
      kegRegister := { s.kegRegister with kegs := u.kegRegister.kegs } } := by
  generalize u.pourControl.pours = P at hu
  subst hu
  dsimp only
  generalize w.kegRegister.kegs = b at hw ⊢
  subst hw
  dsimp only
  have register : t.kegRegister = { s.kegRegister with kegs := t.kegRegister.kegs } := congrArg (·.kegRegister) frame
  rw [register]

/-- A report that changes the line and asks its valves, after the shares of a settlement. -/
theorem settling_spent {w : State} {x : Attention} (frame : t = s.settling t)
    (hw : w = { t with
      lineTable := { t.lineTable with lines := w.lineTable.lines }
      kegRegister := { t.kegRegister with kegs := w.kegRegister.kegs }
      valves := { t.valves with groups := w.valves.groups }
      link := { t.link with attention := x } })
    (hu : u = { w with pourControl := { s.pourControl with pours := u.pourControl.pours } }) :
    u = { ({ t with kegRegister := s.kegRegister } : State) with
      lineTable := { s.lineTable with lines := u.lineTable.lines }
      pourControl := { s.pourControl with pours := u.pourControl.pours }
      kegRegister := { s.kegRegister with kegs := u.kegRegister.kegs }
      valves := { s.valves with groups := u.valves.groups }
      link := { s.link with attention := x } } := by
  generalize u.pourControl.pours = P at hu
  subst hu
  dsimp only
  generalize w.lineTable.lines = a, w.kegRegister.kegs = b, w.valves.groups = c at hw ⊢
  subst hw
  dsimp only
  have lines : t.lineTable = { s.lineTable with lines := t.lineTable.lines } := congrArg (·.lineTable) frame
  have register : t.kegRegister = { s.kegRegister with kegs := t.kegRegister.kegs } := congrArg (·.kegRegister) frame
  have valves : t.valves = { s.valves with groups := t.valves.groups } := congrArg (·.valves) frame
  have link : t.link = { s.link with attention := t.link.attention } := congrArg (·.link) frame
  rw [lines, register, valves, link]

/-- The end of a tail whose shares leave the keg `y` and the state `t`, the kegs of which are apart from the rest. -/
theorem State.settle_reported (hw : s.settledBy l p v .lowFlow e = t.lowFlowReport l) (hu : u = s.settle l p v .lowFlow e)
    (ho : s.onTap l = some o) (hx : s.keg l o = some x) (hy : t.keg l o = some y)
    (same : y.state = x.state ∧ y.suspect = x.suspect ∧ y.lowFlows = x.lowFlows) (across : t.keg l o.other = s.keg l o.other)
    (under : (t.line l).under = .ready ∨ (t.line l).under = .priming) (frame : t = s.settling t) :
    (s.timing.emptyMargin < y.nominal - y.drawn → x.suspect = false →
      u.keg l o = some { y with lowFlows := satAdd x.lowFlows 1, suspect := true } ∧
      u.keg l o.other = s.keg l o.other ∧
      u = { ({ t with kegRegister := s.kegRegister } : State) with
        pourControl := { s.pourControl with pours := u.pourControl.pours }
        kegRegister := { s.kegRegister with kegs := u.kegRegister.kegs } }) ∧
    (y.nominal - y.drawn ≤ s.timing.emptyMargin ∨ x.suspect = true →
      u.keg l o = some { y with lowFlows := satAdd x.lowFlows 1, state := .spent } ∧
      ChangedOver { t with kegRegister := s.kegRegister } u l o ∧
      u = { ({ t with kegRegister := s.kegRegister } : State) with
        lineTable := { s.lineTable with lines := u.lineTable.lines }
        pourControl := { s.pourControl with pours := u.pourControl.pours }
        kegRegister := { s.kegRegister with kegs := u.kegRegister.kegs }
        valves := { s.valves with groups := u.valves.groups }
        link := { s.link with
          attention := if s.changesOver l o = true then t.link.attention.raiseLine .kegSpent l
            else (t.link.attention.raiseLine .kegSpent l).raiseLine .lineDry l } }) := by
  have tapped : t.onTap l = some o := by
    refine (State.onTap_congr fun q => ?_).trans ho
    by_cases h : q = o
    · rw [h, hy, hx]; exact congrArg some same.1
    · rw [Position.eq_other h, across]
  obtain ⟨suspect, spent⟩ := State.lowFlowReport_spec tapped hy under
  obtain ⟨-, -, settled⟩ := s.settle_pour l p v .lowFlow e
  have timing : t.timing = s.timing := by rw [frame]; rfl
  have changes : t.changesOver l o = s.changesOver l o := by
    have fault : t.valves.fault = s.valves.fault := by rw [frame]; rfl
    simp only [State.changesOver, State.eligible, across, fault]
  rw [← hu, hw] at settled
  rw [timing, same.2.2] at suspect spent
  rw [changes] at spent
  generalize t.lowFlowReport l = w at *
  have keg (q : Position) : u.keg l q = w.keg l q := by
    have e : u.kegRegister = w.kegRegister := congrArg (·.kegRegister) settled
    exact congrArg (fun x : KegRegister => (look x.kegs l).at q) e
  refine ⟨fun margin clear => ?_, fun due => ?_⟩
  · obtain ⟨kept, other, frame'⟩ := suspect margin (same.2.1.trans clear)
    refine ⟨(keg o).trans kept, (keg _).trans (other.trans across), settling_kegs frame frame' settled⟩
  · obtain ⟨kept, changed, frame'⟩ := spent (by rw [same.2.1]; exact due)
    refine ⟨(keg o).trans kept, changed.congr rfl across.symm rfl ?_ (keg _) ?_, ?_⟩
    · rw [settled]
    · rw [settled]
    · exact settling_spent frame frame' settled

theorem Pour.teaches_lowFlow : p.teaches .lowFlow e = false := by
  unfold Pour.teaches
  cases p.kind <;> rfl

theorem State.settledBy_lowFlow (hk : p.kind ≠ .clean) (s : State) (l : Line) (v : Nat) (e : Ending) :
    s.settledBy l p v .lowFlow e =
      ((s.settleAccount p (deliveredML p.v)).settleShares l p .lowFlow (deliveredML p.v)).lowFlowReport l := by
  rw [State.settledBy, State.settleClean_idle hk, State.teach_idle Pour.teaches_lowFlow]
  exact if_pos ⟨rfl, hk⟩

theorem KegRec.shared_lowFlow (x : KegRec) (billed unbilled house loss n : Nat) :
    x.shared billed unbilled house loss n .lowFlow = x.withShares billed unbilled house loss := by
  rw [KegRec.shared, if_neg fun h => h.1 rfl]
  rfl

theorem LineRec.primedBy_under {r : LineRec} {c : LineCfg} (hm : r.mode = .priming) (before n loss : Nat) :
    (r.primedBy before n loss c).under = .ready ∨ (r.primedBy before n loss c).under = .priming := by
  by_cases h : c.primedFull before n
  · rw [LineRec.primedBy_full h]; exact .inl rfl
  · rw [LineRec.primedBy_open h]
    right
    unfold LineRec.under
    dsimp only
    rw [hm]

end

/-- Settles O25: the shares reach a state in which the low flow is reported, and the report decides on the keg. -/
theorem lowFlowSuspectsOrSpendsTheKeg : Obligations.LowFlowSuspectsOrSpendsTheKeg := by
  unfold Obligations.LowFlowSuspectsOrSpendsTheKeg
  intro s l p n vClose q k vml i e o x released hp hi ho hx hv hkind
  have volume : deliveredML p.v = vml := hv.symm
  have notClean : p.kind ≠ .clean := by
    obtain ⟨hs, -⟩ | ⟨hk, -⟩ := hkind
    · exact PourKind.notClean_of_sale hs
    · rw [hk]; decide
  obtain ⟨u, hu⟩ : ∃ u, u = s.settle l p vClose .lowFlow e := ⟨_, rfl⟩
  obtain ⟨pour, pours, -⟩ := s.settle_pour l p vClose .lowFlow e
  obtain ⟨⟨-, kegs, enrol, -, -⟩, -⟩ := State.settle_settled notClean hu
  have run := State.tailEnd_runs released hp hi
  rw [← hu] at pour pours run
  rw [volume] at pour
  have summary : ∃ z : Settlement, u.pour l = { s.pour l with record := .idle, last := some z } ∧ z.kind = p.kind ∧
      z.reason = .lowFlow ∧ z.ending = e ∧ z.vml = vml ∧ z.measured = p.v - vClose := ⟨_, pour, rfl, rfl, rfl, rfl, rfl⟩
  have report := State.settledBy_lowFlow notClean s l vClose e
  have settled : Settling s ((s.settleAccount p vml).settleShares l p .lowFlow vml) l :=
    (s.settleAccount_settling p vml l).trans (State.settleShares_settling ..).1
  have untapped : s.onTap l ≠ some o.other := fun h => Position.other_ne o (Option.some.inj (h.symm.trans ho))
  rw [volume] at report
  obtain ⟨hs, hacc, hunder⟩ | ⟨hk, hm, hcfg, hprimed⟩ := hkind
  · obtain ⟨id, ha⟩ := Option.ne_none_iff_exists'.mp hacc
    obtain ⟨sold, tapped, others, frame⟩ := State.shares_sale (n := vml) (r := .lowFlow) (l := l) (s := s) (t := s) hs ha rfl rfl
    have hold := s.holdSettled_frame id p (p.billed vml)
    generalize (s.settleAccount p vml).settleShares l p .lowFlow vml = t at *
    have keg := tapped o x ho hx
    rw [KegRec.shared_lowFlow] at keg
    have under : (t.line l).under = (s.line l).under := by rw [sold]; rfl
    have register : (s.holdSettled id p (p.billed vml)).kegRegister = s.kegRegister := congrArg (·.kegRegister) hold
    obtain ⟨suspect, spent⟩ := State.settle_reported report hu ho hx keg ⟨rfl, rfl, rfl⟩ (others _ untapped)
      (by rw [under]; exact hunder) settled.frame
    refine ⟨{ t with kegRegister := s.kegRegister }, u, _, run, fun id' billed _ ha' hb => ?_, fun c before loss full hk => ?_,
      settled.lines, suspect, spent, kegs, enrol, pours, summary⟩
    · obtain rfl := Option.some.inj (ha.symm.trans ha')
      have share : p.billed vml = billed := (Pour.billed_sale hs ha vml).trans hb.symm
      rw [share] at frame sold register ⊢
      refine ⟨rfl, sold, ?_⟩
      have e := congrArg (fun x : State => ({ x with kegRegister := s.kegRegister } : State)) frame
      refine Eq.trans e ?_
      rw [← register]
      rfl
    · rw [hk] at hs; cases hs
  · obtain ⟨c, hc⟩ := Option.ne_none_iff_exists'.mp hcfg
    obtain ⟨before, hb⟩ := Option.ne_none_iff_exists'.mp hprimed
    obtain ⟨⟨primed, reached, short, lines, frame⟩, tapped, others⟩ := State.shares_prime (r := .lowFlow) hk hm hc hb rfl
      (rfl : (s.settleAccount p vml).settleShares l p .lowFlow vml = _)
    generalize (s.settleAccount p vml).settleShares l p .lowFlow vml = t at *
    have keg := tapped o x ho hx
    rw [KegRec.shared_lowFlow] at keg
    obtain ⟨suspect, spent⟩ := State.settle_reported report hu ho hx keg ⟨rfl, rfl, rfl⟩
      (others _ untapped) (by rw [primed]; exact LineRec.primedBy_under hm ..) settled.frame
    refine ⟨{ t with kegRegister := s.kegRegister }, u, _, run, fun id billed hs => ?_, fun c' before' loss full _ hc' hb' hl hfull => ?_,
      lines, suspect, spent, kegs, enrol, pours, summary⟩
    · rw [hk] at hs; cases hs
    · obtain rfl := Option.some.inj (hc.symm.trans hc')
      obtain rfl := Option.some.inj (hb.symm.trans hb')
      have filled : full ↔ c.primedFull before vml := hfull
      subst hl
      refine ⟨rfl, fun h => ?_, fun h => ?_⟩
      · obtain ⟨asked, same, attention⟩ := reached (filled.mp h)
        rw [LineRec.primedBy_full (filled.mp h)] at primed
        refine ⟨primed, asked, same, ?_⟩
        rw [attention] at frame
        have e := congrArg (fun x : State => ({ x with kegRegister := s.kegRegister } : State)) frame
        exact e
      · obtain ⟨pipes, posted⟩ := short fun k => h (filled.mpr k)
        rw [LineRec.primedBy_open fun k => h (filled.mpr k)] at primed
        refine ⟨primed, ?_⟩
        rw [pipes, posted] at frame
        have e := congrArg (fun x : State => ({ x with kegRegister := s.kegRegister } : State)) frame
        exact e

end Sys2Proof.Machine
end

section
/-! PROOF. The end of a pour with its faucet (R57, R113): what a lost faucet leaves of the record, the queue and the account. -/

namespace Sys2Proof.Machine
open Sys2Proof.Laws

section
variable {s t u : State} {l : Line} {p : Pour}

/-- The release of a hold reads the account table alone. -/
theorem State.findAccount_congr (h : t.accounts = s.accounts) (id : Nat) : t.findAccount id = s.findAccount id := by
  have same (i : AccountIx) : t.account i = s.account i := congrArg (look · i) h
  simp only [State.findAccount, same]

theorem State.releasePour_congr (h : t.accounts = s.accounts) (p : Pour) :
    (t.releasePour p).accounts = (s.releasePour p).accounts ∧ (t.link = s.link → (t.releasePour p).link = (s.releasePour p).link) := by
  have ends (i : AccountIx) (a : Account) : (t.endHold i a).accounts = (s.endHold i a).accounts ∧
      (t.link = s.link → (t.endHold i a).link = (s.endHold i a).link) := by
    unfold State.endHold
    split
    · exact ⟨congrArg (fun v => put v i _) h, fun e => congrArg (fun x : Link => { x with attention := {
        x.attention with accountClosed := x.attention.accountClosed ||| member i.val } }) e⟩
    · exact ⟨congrArg (fun v => put v i _) h, id⟩
  unfold State.releasePour
  split
  · next id _ =>
    unfold State.releaseHold
    rw [State.findAccount_congr h]
    split
    · exact ⟨h, fun e => e⟩
    · exact ends _ _
  · exact ⟨h, fun e => e⟩

/-- A WAITING pour that is withdrawn leaves its queue and gives its hold back (R50). -/
theorem State.withdraw_spec {n : Nat} (hp : (s.pour l).record = .waiting p n) :
    (s.withdraw l).pour l = { s.pour l with record := .idle } ∧
    SameBut s.pourControl.pours (s.withdraw l).pourControl.pours l ∧
    (∀ c, (s.line l).cfg = some c → l ∉ ((s.withdraw l).trunk c.trunk).queue) ∧
    (s.withdraw l).accounts = (s.releasePour p).accounts := by
  cases hc : (s.line l).cfg with
  | some c =>
    rw [State.withdraw_of_waiting hp hc]
    refine ⟨look_put_same _ _ _, sameBut_put _ _ _, fun c' h => ?_, rfl⟩
    cases h
    simp [State.trunk]
  | none =>
    have run : s.withdraw l = (s.releasePour p).setRecord l .idle := by
      unfold State.withdraw State.leaveQueue
      rw [hp]
      dsimp only
      rw [hc]
    have frame := s.releasePour_frame p
    have pours : (s.releasePour p).pourControl = s.pourControl := congrArg (·.pourControl) frame
    have pour : (s.releasePour p).pour l = s.pour l := congrArg (fun x : PourControl => look x.pours l) pours
    rw [run, State.setRecord, pour]
    exact ⟨State.pour_setPour_same .., fun m hm => (look_put_ne _ _ _ _ hm).trans (by rw [pours]), fun c h => (by cases h), rfl⟩

/-- How the end of a pour at once leaves its record, its summary and its hold (R57). -/
structure Ended (s u : State) (l : Line) (why : CloseReason) : Prop where
  record : (u.pour l).record = .idle
  shown : (u.pour l).shown = (s.pour l).shown
  unsettled : (s.pour l).record = .idle ∨ (∃ p n, (s.pour l).record = .waiting p n) →
    (u.pour l).last = (s.pour l).last ∧ u.lineTable = s.lineTable
  waiting : ∀ (p : Pour) (n : Nat), (s.pour l).record = .waiting p n →
    (∀ c, (s.line l).cfg = some c → l ∉ (u.trunk c.trunk).queue) ∧ u.accounts = (s.releasePour p).accounts
  pouring : ∀ (p : Pour) (n bf bp : Nat), (s.pour l).record = .pouring p n bf bp → ∃ x : Settlement, (u.pour l).last = some x ∧
    x.kind = p.kind ∧ x.reason = why ∧ x.ending = .immediate ∧ x.vml = (p.v + 500000) / 1000000 ∧ x.measured = 0
  tailing : ∀ (p : Pour) (n v : Nat) (c : CloseReason) (q k : Nat), (s.pour l).record = .tailing p n v c q k →
    ∃ x : Settlement, (u.pour l).last = some x ∧ x.kind = p.kind ∧ x.reason = c ∧ x.ending = .immediate ∧
      x.vml = (p.v + 500000) / 1000000 ∧ x.measured = p.v - v
  pours : SameBut s.pourControl.pours u.pourControl.pours l

theorem State.endAtOnce_ended (s : State) (l : Line) (why : CloseReason) : Ended s (s.endAtOnce l why) l why := by
  cases hp : (s.pour l).record with
  | idle =>
    have run : s.endAtOnce l why = s := by rw [State.endAtOnce, hp]
    rw [run]
    exact ⟨hp, rfl, fun _ => ⟨rfl, rfl⟩, fun _ _ h => (by rw [hp] at h; cases h), fun _ _ _ _ h => (by rw [hp] at h; cases h),
      fun _ _ _ _ _ _ h => (by rw [hp] at h; cases h), fun _ _ => rfl⟩
  | waiting p n =>
    have run : s.endAtOnce l why = s.withdraw l := by rw [State.endAtOnce, hp]
    obtain ⟨pour, pours, queue, accounts⟩ := State.withdraw_spec hp
    rw [run]
    refine ⟨by rw [pour], by rw [pour], fun _ => ⟨by rw [pour], by rw [State.withdraw_frame]⟩, fun p' n' h => ?_,
      fun _ _ _ _ h => (by rw [hp] at h; cases h), fun _ _ _ _ _ _ h => (by rw [hp] at h; cases h), pours⟩
    rw [hp] at h
    cases h
    exact ⟨queue, accounts⟩
  | pouring p n bf bp =>
    have run : s.endAtOnce l why = s.settle l p p.v why .immediate := by rw [State.endAtOnce, hp]
    obtain ⟨pour, pours, -⟩ := s.settle_pour l p p.v why .immediate
    rw [run]
    refine ⟨by rw [pour], by rw [pour], fun h => ?_, fun _ _ h => (by rw [hp] at h; cases h), fun p' n' bf' bp' h => ?_,
      fun _ _ _ _ _ _ h => (by rw [hp] at h; cases h), pours⟩
    · rw [hp] at h
      obtain h | ⟨_, _, h⟩ := h <;> cases h
    · rw [hp] at h
      cases h
      exact ⟨_, by rw [pour], rfl, rfl, rfl, rfl, Nat.sub_self _⟩
  | tailing p n v c q k =>
    have run : s.endAtOnce l why = s.settle l p v c .immediate := by rw [State.endAtOnce, hp]
    obtain ⟨pour, pours, -⟩ := s.settle_pour l p v c .immediate
    rw [run]
    refine ⟨by rw [pour], by rw [pour], fun h => ?_, fun _ _ h => (by rw [hp] at h; cases h),
      fun _ _ _ _ h => (by rw [hp] at h; cases h), fun p' n' v' c' q' k' h => ?_, pours⟩
    · rw [hp] at h
      obtain h | ⟨_, _, h⟩ := h <;> cases h
    · rw [hp] at h
      cases h
      exact ⟨_, by rw [pour], rfl, rfl, rfl, rfl, rfl⟩

theorem State.loop_congr (h : t.tapLoops = s.tapLoops) (i : LoopId) : t.loop i = s.loop i := by
  cases i <;> simp only [State.loop, h]

theorem State.recv_congr (h : t.tapLoops = s.tapLoops) (b : Binding) : t.recv b = s.recv b := by
  rw [State.recv, State.recv, State.loop_congr h]

theorem State.setRecv_frame (b : Binding) (r : Option RecvState) : s.setRecv b r = { s with tapLoops := (s.setRecv b r).tapLoops } :=
  State.setLoop_frame ..

theorem State.declareLost_idle {b : Binding} {r : RecvState} (hr : s.recv b = some r)
    (h : r.lost = true ∨ r.missRun < s.timing.lostThreshold) : s.declareLost b = s := by
  unfold State.declareLost
  split
  · next r' _ hr' =>
    rw [hr] at hr'
    cases hr'
    refine if_neg fun ⟨clear, due⟩ => ?_
    obtain h | h := h
    · rw [h] at clear; cases clear
    · exact absurd h (Nat.not_lt.mpr due)
  · rfl

end

/-- Settles O38: the end of the pour at once, in the state that has lost the faucet. -/
theorem aLostFaucetEndsItsPour : Obligations.ALostFaucetEndsItsPour := by
  unfold Obligations.ALostFaucetEndsItsPour
  intro s b l r released hb hr
  refine ⟨fun stopped => ?_, fun running idle => ?_, fun running clear due => ?_⟩
  · refine (State.running_of_released (f := takeFaucetLost b.loop b.slot) released).trans (congrArg _ ?_)
    exact if_neg (by simp [stopped])
  · refine (State.running_of_released (f := takeFaucetLost b.loop b.slot) released).trans (congrArg _ ?_)
    refine (if_pos (LoopRec.isRunning_iff.mpr running)).trans ?_
    rw [State.declareLost_idle (b := ⟨b.loop, b.slot⟩) hr idle]
  · obtain ⟨t, ht⟩ : ∃ t, t = s.setRecv b (some { r with lost := true, code := none }) := ⟨_, rfl⟩
    have run : s.declareLost b = (t.endAtOnce l .lost).raise .faucetLost l := by
      unfold State.declareLost
      rw [hb, hr]
      exact (if_pos ⟨clear, due⟩).trans (by rw [ht])
    have frame := s.setRecv_frame b (some { r with lost := true, code := none })
    have same := State.recv_setRecv_same s b (some { r with lost := true, code := none })
    have others (c : Binding) (hc : c ≠ b) := State.recv_setRecv_ne s b c (some { r with lost := true, code := none }) hc
    rw [← ht] at frame same others
    obtain ⟨record, shown, unsettled, waiting, pouring, tailing, -⟩ := t.endAtOnce_ended l .lost
    have worked : (t.endAtOnce l .lost).tapLoops = t.tapLoops := congrArg (·.tapLoops) (State.endAtOnce_worked (s := t) (l := l) .lost)
    have pour : t.pour l = s.pour l := congrArg (fun x : PourControl => look x.pours l) (congrArg (·.pourControl) frame)
    have table : t.lineTable = s.lineTable := congrArg (·.lineTable) frame
    have line : t.line l = s.line l := congrArg (fun x : LineTable => look x.lines l) table
    have accounts (p : Pour) : (t.releasePour p).accounts = (s.releasePour p).accounts :=
      (State.releasePour_congr (congrArg (·.accounts) frame) p).1
    rw [pour] at shown unsettled waiting pouring tailing
    rw [table] at unsettled
    rw [line] at waiting
    simp only [accounts] at waiting
    have recv (c : Binding) : (t.endAtOnce l .lost).recv c = t.recv c := State.recv_congr worked c
    refine ⟨_, (State.running_of_released (f := takeFaucetLost b.loop b.slot) released).trans
      (congrArg (fun x : State => Host.Outcome.next x) ((if_pos (LoopRec.isRunning_iff.mpr running)).trans (congrArg State.follow run))),
      (recv b).trans same, fun c hc => (recv c).trans (others c hc), ?_, record, shown, unsettled, waiting, pouring, tailing⟩
    rw [show (look ((t.endAtOnce l .lost).raise .faucetLost l).link.attention.lines 8) =
      look (t.endAtOnce l .lost).link.attention.lines 8 ||| member l.val from look_put_same _ _ _]
    rw [BitVec.getLsbD_or, getLsbD_member]
    simp

end Sys2Proof.Machine
end

section
/-! PROOF. The frames of a pour (R37, R49, R52 to R54, R56) and the words that a loop hears as misses (R108, R110, R112). -/

namespace Sys2Proof.Machine
open Sys2Proof.Laws

section
variable {s t u : State} {l : Line} {p : Pour}

/-! ### A frame in each state of the pour record -/

theorem State.setRecord_setRecord (s : State) (l : Line) (a b : PourRec) : (s.setRecord l a).setRecord l b = s.setRecord l b := by
  have pour : (s.setRecord l a).pour l = { s.pour l with record := a } := State.setRecord_pour_same l a
  rw [State.setRecord, pour]
  exact congrArg (fun v => ({ s with pourControl := { s.pourControl with pours := v } } : State)) (put_put _ _ _ _)

theorem State.setRecord_self {r : PourRec} (h : (s.pour l).record = r) : s.setRecord l r = s := by
  subst h
  exact congrArg (fun v => ({ s with pourControl := { s.pourControl with pours := v } } : State)) (put_look _ _)

theorem State.closePour_of_pouring {n bf bp : Nat} (hp : (s.pour l).record = .pouring p n bf bp) (r : CloseReason) :
    s.closePour l r = s.setRecord l (.tailing p n p.v r 0 0) := by
  rw [State.closePour, hp]
  rfl

/-- What a frame with `d` pulses leaves of a POURING record (R52, R53, R54). -/
def PourRec.framed (t : Timing) (p : Pour) (n bf bp d : Nat) : PourRec :=
  if p.kind = .clean then .pouring p (min (n + 1) 65535) bf bp
  else if p.kind.isSale = true ∧ t.maxPour ≤ min (n + 1) 65535 then .tailing p (min (n + 1) 65535) p.v .overtime 0 0
  else if min (n + 1) 65535 ≤ t.startGrace then .pouring p (min (n + 1) 65535) bf bp
  else if bf + 1 < t.lowFlowBlock then .pouring p (min (n + 1) 65535) (bf + 1) (bp + d)
  else if bp + d < t.lowFlowMin then .tailing p (min (n + 1) 65535) p.v .lowFlow 0 0
  else .pouring p (min (n + 1) 65535) 0 0

theorem State.judgeBlock_of_pouring {n bf bp : Nat} (hp : (s.pour l).record = .pouring p n bf bp) (hk : p.kind ≠ .clean) :
    s.judgeBlock l = s.setRecord l (if bf < s.timing.lowFlowBlock then .pouring p n bf bp
      else if bp < s.timing.lowFlowMin then .tailing p n p.v .lowFlow 0 0 else .pouring p n 0 0) := by
  unfold State.judgeBlock
  rw [hp]
  dsimp only
  by_cases block : bf < s.timing.lowFlowBlock
  · rw [if_pos (.inr block), if_pos block, State.setRecord_self hp]
  · rw [if_neg (not_or.mpr ⟨hk, block⟩), if_neg block]
    by_cases low : bp < s.timing.lowFlowMin
    · rw [if_pos low, if_pos low, State.closePour_of_pouring hp]
    · rw [if_neg low, if_neg low]

theorem State.overtime_of_pouring {n bf bp : Nat} (hp : (s.pour l).record = .pouring p n bf bp) :
    s.overtime l = s.setRecord l (if p.kind.isSale = true ∧ s.timing.maxPour ≤ n then .tailing p n p.v .overtime 0 0
      else .pouring p n bf bp) := by
  unfold State.overtime
  rw [hp]
  dsimp only
  by_cases h : p.kind.isSale = true ∧ s.timing.maxPour ≤ n
  · rw [if_pos h, if_pos (by simpa using h), State.closePour_of_pouring hp]
  · rw [if_neg h, if_neg (by simpa using h), State.setRecord_self hp]

theorem State.pouringFrame_eq {n bf bp : Nat} (hp : (s.pour l).record = .pouring p n bf bp) (d : Nat) :
    s.pouringFrame l d = s.setRecord l (.framed s.timing p n bf bp d) := by
  have record (r : PourRec) : ((s.setRecord l r).pour l).record = r := by rw [State.setRecord_pour_same]
  have timing (r : PourRec) : (s.setRecord l r).timing = s.timing := rfl
  unfold State.pouringFrame PourRec.framed
  rw [hp]
  dsimp only
  rw [show satCount 65535 n = min (n + 1) 65535 from rfl]
  by_cases clean : p.kind = .clean
  · rw [if_pos clean, if_pos clean]
  rw [if_neg clean, if_neg clean, State.overtime_of_pouring (record _), State.setRecord_setRecord, timing]
  by_cases late : p.kind.isSale = true ∧ s.timing.maxPour ≤ min (n + 1) 65535
  · rw [if_pos late, if_pos late, record]
  rw [if_neg late, if_neg late, record]
  dsimp only
  by_cases grace : min (n + 1) 65535 ≤ s.timing.startGrace
  · rw [if_pos grace, if_neg (Nat.not_lt.mpr grace)]
  · rw [if_neg grace, if_pos (Nat.lt_of_not_le grace), State.setRecord_setRecord, State.judgeBlock_of_pouring (record _) clean,
      State.setRecord_setRecord, timing]

/-- A frame of a TAILING pour that does not end its tail (R56). -/
theorem State.tailingFrame_open {n v q k : Nat} {c : CloseReason} (hp : (s.pour l).record = .tailing p n v c q k)
    (settle : q < s.timing.settle) (window : k + 1 < s.timing.tailWindow) :
    s.tailingFrame l none = s.setRecord l (.tailing p (min (n + 1) 65535) v c q (k + 1)) := by
  have record (r : PourRec) : ((s.setRecord l r).pour l).record = r := by rw [State.setRecord_pour_same]
  have quiet : (s.setRecord l (.tailing p (min (n + 1) 65535) v c q (k + 1))).quietSettle l =
      s.setRecord l (.tailing p (min (n + 1) 65535) v c q (k + 1)) := by
    rw [State.quietSettle, record]
    exact if_neg (Nat.not_le.mpr settle)
  unfold State.tailingFrame
  rw [hp]
  refine (congrArg (State.tailWindow · l) quiet).trans ?_
  rw [State.tailWindow, record]
  exact if_neg (Nat.not_le.mpr window)

theorem State.waitingFrame_open {n : Nat} (hp : (s.pour l).record = .waiting p n) (h : n + 1 < s.timing.waitTimeout) :
    s.waitingFrame l = s.setRecord l (.waiting p (n + 1)) := by
  have record : ((s.setRecord l (.waiting p (n + 1))).pour l).record = .waiting p (n + 1) := by rw [State.setRecord_pour_same]
  unfold State.waitingFrame
  rw [hp]
  dsimp only
  rw [State.waitTimeout, record]
  exact if_neg (Nat.not_le.mpr h)

/-- The record before and after a miss that ends no pour (R37, R112). -/
def PourRec.Misses (old : PourRec) (t : Timing) (new : PourRec) : Prop :=
  old = .idle ∧ new = .idle ∨ (∃ p n, old = .waiting p n ∧ n + 1 < t.waitTimeout ∧ new = .waiting p (n + 1)) ∨
  (∃ p n bf bp, old = .pouring p n bf bp ∧ new = .framed t p n bf bp 0) ∨
  (∃ p n v c q k, old = .tailing p n v c q k ∧ q < t.settle ∧ k + 1 < t.tailWindow ∧
    new = .tailing p (min (n + 1) 65535) v c q (k + 1))

/-- A miss that ends no pour is one frame of its record (R37, R112). -/
theorem State.missFrame_eq {old new : PourRec} (hp : (s.pour l).record = old)
    (h : old.Misses s.timing new) : s.missFrame l = s.setRecord l new := by
  obtain ⟨rfl, rfl⟩ | ⟨p, n, rfl, time, rfl⟩ | ⟨p, n, bf, bp, rfl, rfl⟩ | ⟨p, n, v, c, q, k, rfl, settle, window, rfl⟩ := h
  · rw [State.missFrame, hp, State.setRecord_self hp]
  · rw [State.missFrame, hp]
    exact State.waitingFrame_open hp time
  · rw [State.missFrame, hp]
    exact State.pouringFrame_eq hp 0
  · rw [State.missFrame, hp]
    exact State.tailingFrame_open hp settle window

/-! ### The word of a slot (R108, R110, R185) -/

theorem readWord_good {w : SlotWord} : (readWord w).good = false ↔
    w.extractLsb' 0 8 ≠ ~~~(w.extractLsb' 16 8 ^^^ w.extractLsb' 8 8) := by
  have e : (readWord w).good = (~~~(w.extractLsb' 16 8 ^^^ w.extractLsb' 8 8) == w.extractLsb' 0 8) := rfl
  rw [e, beq_eq_false_iff_ne]
  exact ne_comm

theorem readWord_seq (w : SlotWord) : (readWord w).seq = w.extractLsb' 8 3 := by
  simp only [readWord]
  ext i hi
  simp only [BitVec.getElem_extractLsb', BitVec.getLsbD_extractLsb']
  rw [decide_eq_true (by omega)]
  simp

theorem readWord_code (w : SlotWord) : (readWord w).effective = if w.getLsbD 11 then 6#3 else w.extractLsb' 12 3 := by
  have tower : (readWord w).towerFault = w.getLsbD 11 := by simp [readWord]
  have code : (readWord w).code = w.extractLsb' 12 3 := by
    simp only [readWord]
    ext i hi
    simp only [BitVec.getElem_extractLsb', BitVec.getLsbD_extractLsb']
    rw [decide_eq_true (by omega), Bool.true_and]
    congr 1
    omega
  rw [Inbound.effective, tower, code]

theorem readWord_saturated (w : SlotWord) : (readWord w).saturated = w.getLsbD 15 := by
  simp [readWord]

section
variable {b : Binding} {r : RecvState} {word : SlotWord} {next : Option Slot}

theorem LoopRec.slotAfter_of_next {x : LoopRec} {k : Slot} (h : NextSlot x k next) : x.slotAfter k = next := by
  unfold LoopRec.slotAfter
  obtain ⟨last, rfl⟩ | ⟨m, rfl, hm, lt⟩ := h
  · split
    · exact if_neg (by omega)
    · rfl
  · rw [dif_pos (by omega), if_pos (by omega)]
    exact congrArg some (Fin.ext hm.symm)

/-- The state in which the word of a slot is taken: the next slot has begun (R108). -/
def State.nextSlot (s : State) (b : Binding) (next : Option Slot) : State := s.setLoop b.loop { s.loop b.loop with slot := next }

theorem State.nextSlot_loop (s : State) (b : Binding) (next : Option Slot) :
    (s.nextSlot b next).loop b.loop = { s.loop b.loop with slot := next } := State.loop_setLoop_same ..

theorem State.nextSlot_recv (s : State) (b c : Binding) (next : Option Slot) : (s.nextSlot b next).recv c = s.recv c := by
  unfold State.recv
  by_cases h : c.loop = b.loop
  · rw [h, State.nextSlot_loop]
  · rw [State.nextSlot, State.loop_setLoop_ne _ _ _ _ h]

theorem State.nextSlot_bound (s : State) (b c : Binding) (next : Option Slot) : (s.nextSlot b next).bound c = s.bound c :=
  State.bound_setLoop ..

theorem State.slotEnd_runs (running : (s.loop b.loop).state ≠ .stopped) (hs : (s.loop b.loop).slot = some b.slot)
    (hn : NextSlot (s.loop b.loop) b.slot next) : s.slotEnd b word = (s.nextSlot b next).takeWord b (readWord word) := by
  unfold State.slotEnd
  dsimp only
  rw [if_pos (by simp [running, hs]), LoopRec.slotAfter_of_next hn]
  rfl

theorem State.slotEnd_idle (h : (s.loop b.loop).state = .stopped ∨ (s.loop b.loop).slot ≠ some b.slot) : s.slotEnd b word = s := by
  refine if_neg fun e => ?_
  obtain ⟨running, slot⟩ := Bool.and_eq_true_iff.mp e
  obtain h | h := h
  · exact LoopRec.isRunning_iff.mp running h
  · exact h (by simpa using slot)

/-- A miss that ends no pour and loses no faucet (R112). -/
theorem State.miss_eq {new : PourRec} (hr : s.recv b = some r) (hf : s.missFrame l = s.setRecord l new)
    (lost : r.lost = true ∨ r.missRun + 1 < s.timing.lostThreshold) :
    s.miss b l = (s.setRecord l new).setRecv b (some { r with missRun := min (r.missRun + 1) 65535 }) := by
  unfold State.miss
  rw [hf]
  have recv : (s.setRecord l new).recv b = some r := (State.recv_congr rfl b).trans hr
  dsimp only
  rw [recv]
  refine State.declareLost_idle (State.recv_setRecv_same ..) ?_
  obtain lost | lost := lost
  · exact .inl lost
  · right
    have timing : ((s.setRecord l new).setRecv b (some { r with missRun := min (r.missRun + 1) 65535 })).timing = s.timing := by
      rw [State.setRecv_frame]; rfl
    exact timing ▸ lt_of_le_of_lt (Nat.min_le_left _ _) lost

/-- A miss as a slot's word brings it: the record takes one frame, and the receive state counts it. -/
theorem State.miss_spec {x : LoopRec} {old new : PourRec} (frame : Looped s t) (loop : t.loop b.loop = x)
    (hx : x.recv = (s.loop b.loop).recv) (others : ∀ j, j ≠ b.loop → t.loop j = s.loop j) (hr : s.recv b = some r)
    (lost : r.lost = true ∨ r.missRun + 1 < s.timing.lostThreshold) (hp : (s.pour l).record = old)
    (h : old.Misses s.timing new) (hu : u = t.miss b l) :
    u.recv b = some { r with missRun := min (r.missRun + 1) 65535 } ∧ (∀ c : Binding, c ≠ b → u.recv c = s.recv c) ∧
    (∀ j : LoopId, j ≠ b.loop → u.loop j = s.loop j) ∧ u.loop b.loop = { x with recv := (u.loop b.loop).recv } ∧
    u = { s with
      pourControl := { s.pourControl with pours := put s.pourControl.pours l { s.pour l with record := new } }
      tapLoops := u.tapLoops } := by
  have pours : t.pourControl = s.pourControl := congrArg (·.pourControl) frame
  have timing : t.timing = s.timing := congrArg PourControl.timing pours
  have pour : t.pour l = s.pour l := congrArg (fun x : PourControl => look x.pours l) pours
  have recv (c : Binding) : t.recv c = s.recv c := by
    unfold State.recv
    by_cases e : c.loop = b.loop
    · rw [e, loop, hx]
    · rw [others _ e]
  have run := State.miss_eq (s := t) (b := b) (l := l) ((recv b).trans hr)
    (State.missFrame_eq ((congrArg PourSlot.record pour).trans hp) (by rw [timing]; exact h)) (by rw [timing]; exact lost)
  have record : t.setRecord l new = { s with
      pourControl := { s.pourControl with pours := put s.pourControl.pours l { s.pour l with record := new } }
      tapLoops := t.tapLoops } := by
    rw [State.setRecord, pour, State.setPour, pours]
    exact congrArg (fun x : State => ({ x with
      pourControl := { s.pourControl with pours := put s.pourControl.pours l { s.pour l with record := new } } } : State)) frame
  have same (j : LoopId) : (t.setRecord l new).loop j = t.loop j := State.loop_congr rfl j
  rw [run] at hu
  have left := State.setRecv_frame (s := t.setRecord l new) b (some { r with missRun := min (r.missRun + 1) 65535 })
  refine ⟨by rw [hu, State.recv_setRecv_same], fun c hc => ?_, fun j hj => ?_, ?_, ?_⟩
  · rw [hu, State.recv_setRecv_ne _ _ _ _ hc]
    exact (State.recv_congr rfl c).trans (recv c)
  · rw [hu, State.setRecv, State.loop_setLoop_ne _ _ _ _ hj]
    exact (same j).trans (others j hj)
  · rw [hu, State.setRecv, State.loop_setLoop_same, same, loop]
  · rw [← hu, record] at left
    exact left

end

end

/-- Settles O37: the word is taken with the next slot begun, and a miss is one frame of the record. -/
theorem badAndStaleWordsAreMisses : Obligations.BadAndStaleWordsAreMisses := by
  unfold Obligations.BadAndStaleWordsAreMisses
  intro s b word next released
  have run : exec (.slotEnd b.loop b.slot word) s = .next (s.slotEnd b word).follow :=
    State.running_of_released (f := takeSlotEnd b.loop b.slot word) released
  refine ⟨fun idle => ?_, fun running hs hn unbound => ?_, fun l r bad old new running hs hn hb hr hbad stale lost hp frame => ?_⟩
  · rw [run, State.slotEnd_idle idle]
  · have discard : (s.nextSlot b next).takeWord b (readWord word) = s.nextSlot b next := by
      unfold State.takeWord
      rw [State.nextSlot_bound, unbound]
    refine ⟨s.nextSlot b next, by rw [run, State.slotEnd_runs running hs hn, discard], s.nextSlot_loop b next,
      fun j hj => State.loop_setLoop_ne _ _ _ _ hj, State.setLoop_frame ..⟩
  · have now : s.slotEnd b word = (s.nextSlot b next).takeWord b (readWord word) := State.slotEnd_runs running hs hn
    have good : (readWord word).good = false ↔ bad := readWord_good.trans hbad.symm
    have frame' : old.Misses s.timing new :=
      frame.imp_right (Or.imp_right (Or.imp_left fun ⟨p, n, bf, bp, m, e, hm, hnew⟩ => ⟨p, n, bf, bp, e, by rw [hnew, hm]; rfl⟩))
    have nexted : Looped s (s.nextSlot b next) := State.setLoop_frame ..
    have apart (j : LoopId) (hj : j ≠ b.loop) : (s.nextSlot b next).loop j = s.loop j := State.loop_setLoop_ne _ _ _ _ hj
    by_cases h : bad
    · have taken : (s.nextSlot b next).takeWord b (readWord word) = ((s.nextSlot b next).countCheckError b.loop).miss b l := by
        unfold State.takeWord
        rw [State.nextSlot_bound, State.nextSlot_recv, hb, hr]
        exact if_pos (good.mpr h)
      have counted : ((s.nextSlot b next).countCheckError b.loop).loop b.loop = { s.loop b.loop with
          slot := next, checkErrors := satAdd (s.loop b.loop).checkErrors 1 } := by
        rw [State.countCheckError, State.loop_setLoop_same, State.nextSlot_loop]
      obtain ⟨recv, recvs, loops, loop, left⟩ := State.miss_spec (t := (s.nextSlot b next).countCheckError b.loop)
        (nexted.trans (State.setLoop_frame ..)) counted rfl
        (fun j hj => (State.loop_setLoop_ne _ _ _ _ hj).trans (apart j hj)) hr lost hp frame' rfl
      exact ⟨_, by rw [run, now, taken], recv, recvs, loops, fun _ => loop, fun k => absurd h k, left⟩
    · have same := stale.resolve_left h
      have taken : (s.nextSlot b next).takeWord b (readWord word) = ((s.nextSlot b next).countStale b.loop).miss b l := by
        unfold State.takeWord
        rw [State.nextSlot_bound, State.nextSlot_recv, hb, hr]
        exact (if_neg fun e => h (good.mp e)).trans (if_pos (by rw [same, readWord_seq]))
      have counted : ((s.nextSlot b next).countStale b.loop).loop b.loop = { s.loop b.loop with
          slot := next, stales := satAdd (s.loop b.loop).stales 1 } := by
        rw [State.countStale, State.loop_setLoop_same, State.nextSlot_loop]
      obtain ⟨recv, recvs, loops, loop, left⟩ := State.miss_spec (t := (s.nextSlot b next).countStale b.loop)
        (nexted.trans (State.setLoop_frame ..)) counted rfl
        (fun j hj => (State.loop_setLoop_ne _ _ _ _ hj).trans (apart j hj)) hr lost hp frame' rfl
      exact ⟨_, by rw [run, now, taken], recv, recvs, loops, fun k => absurd k h, fun _ => loop, left⟩

end Sys2Proof.Machine
end

section
/-! PROOF. A settlement, a withdrawal and the start of priming neither read nor write the loop records. -/

namespace Sys2Proof.Machine
open Sys2Proof.Laws

section
variable {s : State} {T : TapLoops} {l : Line}

/-- A state with other loop records. -/
def State.withLoops (s : State) (T : TapLoops) : State := { s with tapLoops := T }

/-! ### What reads no loop record -/

@[simp] theorem State.withLoops_line (m : Line) : (s.withLoops T).line m = s.line m := rfl
@[simp] theorem State.withLoops_pour (m : Line) : (s.withLoops T).pour m = s.pour m := rfl
@[simp] theorem State.withLoops_keg (m : Line) (p : Position) : (s.withLoops T).keg m p = s.keg m p := rfl
@[simp] theorem State.withLoops_onTap (m : Line) : (s.withLoops T).onTap m = s.onTap m := rfl
@[simp] theorem State.withLoops_eligible (m : Line) (p : Position) : (s.withLoops T).eligible m p = s.eligible m p := rfl
@[simp] theorem State.withLoops_chooseKeg (m : Line) : (s.withLoops T).chooseKeg m = s.chooseKeg m := rfl
@[simp] theorem State.withLoops_primeRefusal (m : Line) (w : Bool) : (s.withLoops T).primeRefusal m w = s.primeRefusal m w := rfl
@[simp] theorem State.withLoops_changeoverTarget (m : Line) (p : Position) :
    (s.withLoops T).changeoverTarget m p = s.changeoverTarget m p := rfl
@[simp] theorem State.withLoops_findAccount (id : Nat) : (s.withLoops T).findAccount id = s.findAccount id := rfl
@[simp] theorem State.withLoops_timing : (s.withLoops T).timing = s.timing := rfl
@[simp] theorem State.withLoops_fillOf (m : Line) : (s.withLoops T).fillOf m = s.fillOf m := rfl
@[simp] theorem State.withLoops_lossOf (m : Line) (p : Pour) (n : Nat) : (s.withLoops T).lossOf m p n = s.lossOf m p n := rfl
@[simp] theorem State.withLoops_groupTrunks (g : Group) : (s.withLoops T).groupTrunks g = s.groupTrunks g := rfl
@[simp] theorem State.withLoops_climate : (s.withLoops T).climate = s.climate := rfl
@[simp] theorem State.withLoops_cleaning : (s.withLoops T).cleaning = s.cleaning := rfl

theorem State.foldl_withLoops {α : Type} {f : State → α → State} (h : ∀ s x, f (s.withLoops T) x = (f s x).withLoops T) (xs : List α)
    (s : State) : xs.foldl f (s.withLoops T) = (xs.foldl f s).withLoops T := by
  induction xs generalizing s with
  | nil => rfl
  | cons x xs ih => rw [List.foldl_cons, List.foldl_cons, h, ih]

/-! ### Lines and kegs -/

theorem State.changeLine_withLoops (r : LineRec) : (s.withLoops T).changeLine l r = (s.changeLine l r).withLoops T := by
  have reads : ((s.withLoops T).setLine l r).line l = (s.setLine l r).line l := rfl
  unfold State.changeLine State.askValves
  rw [reads]
  split <;> rfl

theorem State.setKegState_withLoops (p : Position) (k : KegState) :
    (s.withLoops T).setKegState l p k = (s.setKegState l p k).withLoops T := by
  unfold State.setKegState
  rw [State.withLoops_keg]
  split <;> rfl

theorem State.askSelector_withLoops (p : Position) (on : Bool) :
    (s.withLoops T).askSelector l p on = (s.askSelector l p on).withLoops T := rfl

theorem State.raise_withLoops (k : LineKind) : (s.withLoops T).raise k l = (s.raise k l).withLoops T := rfl

theorem State.kegReport_withLoops (q : Option Position) : (s.withLoops T).kegReport l q = (s.kegReport l q).withLoops T := by
  unfold State.kegReport
  simp only [State.withLoops_line, State.changeLine_withLoops, State.raise_withLoops]
  split
  · by_cases h : (s.line l).mode = .ready ∨ (s.line l).mode = .priming ∨ (s.line l).mode = .held
    · refine (if_pos h).trans ?_
      rw [if_pos h]
      rfl
    · refine (if_neg h).trans ?_
      rw [if_neg h]
  · split
    · rfl
    · split <;> rfl

theorem State.changeover_withLoops (p : Position) : (s.withLoops T).changeover l p = (s.changeover l p).withLoops T := by
  unfold State.changeover
  simp only [State.withLoops_changeoverTarget, State.setKegState_withLoops, State.askSelector_withLoops, State.kegReport_withLoops]
  split <;> rfl

theorem State.spend_withLoops (p : Position) : (s.withLoops T).spend l p = (s.spend l p).withLoops T := by
  unfold State.spend
  simp only [State.setKegState_withLoops, State.askSelector_withLoops, State.raise_withLoops, State.changeover_withLoops]

theorem State.lowFlowReport_withLoops : (s.withLoops T).lowFlowReport l = (s.lowFlowReport l).withLoops T := by
  have set (p : Position) (k : Option KegRec) : (s.withLoops T).setKeg l p k = (s.setKeg l p k).withLoops T := rfl
  unfold State.lowFlowReport
  simp only [State.withLoops_onTap, State.withLoops_keg, State.withLoops_timing, set, State.spend_withLoops]
  split
  · rfl
  · split
    · rfl
    · split <;> rfl

theorem State.putOnTap_withLoops (p : Position) : (s.withLoops T).putOnTap l p = (s.putOnTap l p).map (State.withLoops · T) := by
  unfold State.putOnTap
  simp only [State.withLoops_eligible, State.withLoops_onTap, State.setKegState_withLoops, State.askSelector_withLoops]
  split <;> rfl

theorem State.startPriming_withLoops : (s.withLoops T).startPriming l = (s.startPriming l).map (State.withLoops · T) := by
  unfold State.startPriming
  simp only [State.withLoops_primeRefusal, State.withLoops_chooseKeg, State.putOnTap_withLoops]
  split
  · rfl
  · split
    · rfl
    · cases s.putOnTap l _ with
      | none => rfl
      | some t => exact congrArg Except.ok (State.changeLine_withLoops _)

/-! ### The settlement of a sale or PRIME draw -/

theorem State.teach_withLoops (p : Pour) (r : CloseReason) (e : Ending) (n : Nat) :
    (s.withLoops T).teach l p r e n = (s.teach l p r e n).withLoops T := by
  unfold State.teach
  rw [State.withLoops_line]
  split
  · split <;> rfl
  · rfl

theorem State.endHold_withLoops (i : AccountIx) (a : Account) : (s.withLoops T).endHold i a = (s.endHold i a).withLoops T := by
  unfold State.endHold
  split <;> rfl

theorem State.settleAccount_withLoops (p : Pour) (n : Nat) : (s.withLoops T).settleAccount p n = (s.settleAccount p n).withLoops T := by
  unfold State.settleAccount State.settleHold
  simp only [State.withLoops_findAccount, State.endHold_withLoops]
  split
  · split <;> rfl
  · rfl

theorem State.releasePour_withLoops (p : Pour) : (s.withLoops T).releasePour p = (s.releasePour p).withLoops T := by
  unfold State.releasePour State.releaseHold
  simp only [State.withLoops_findAccount, State.endHold_withLoops]
  split
  · split <;> rfl
  · rfl

theorem State.kegSettled_withLoops (a : Amounts) (r : CloseReason) (n : Nat) :
    (s.withLoops T).kegSettled l a r n = (s.kegSettled l a r n).withLoops T := by
  unfold State.kegSettled State.onKeg
  simp only [State.withLoops_onTap, State.withLoops_keg]
  split
  · split <;> rfl
  · rfl

theorem State.settlePrime_withLoops (n loss : Nat) : (s.withLoops T).settlePrime l n loss = (s.settlePrime l n loss).withLoops T := by
  unfold State.settlePrime
  simp only [State.withLoops_line, State.changeLine_withLoops, State.raise_withLoops]
  split
  · split <;> rfl
  · rfl

theorem State.settleShares_withLoops (p : Pour) (r : CloseReason) (n : Nat) :
    (s.withLoops T).settleShares l p r n = (s.settleShares l p r n).withLoops T := by
  have add (account billed unbilled : Nat) (warm : Bool) (s : State) :
      (s.withLoops T).addPour l account n billed unbilled warm = (s.addPour l account n billed unbilled warm).withLoops T := rfl
  unfold State.settleShares
  simp only [State.withLoops_lossOf, State.kegSettled_withLoops, State.settlePrime_withLoops, add]
  split <;> rfl

theorem State.settleLowFlow_withLoops (p : Pour) (r : CloseReason) :
    (s.withLoops T).settleLowFlow l p r = (s.settleLowFlow l p r).withLoops T := by
  unfold State.settleLowFlow
  rw [State.lowFlowReport_withLoops]
  split <;> rfl

/-! ### The settlement of a CLEAN draw -/

theorem State.reportLine_withLoops (s : State) (x : GroupLine) : (s.withLoops T).reportLine x = (s.reportLine x).withLoops T := by
  have loss (s : State) (l : Line) (n : Nat) (p : Option Position) : (s.withLoops T).purgeLoss l n p = (s.purgeLoss l n p).withLoops T := by
    unfold State.purgeLoss
    split
    · rfl
    · rw [State.withLoops_keg]
      split
      · split <;> rfl
      · rfl
  have add (n : Nat) : (s.withLoops T).addPurgeLoss x.line n = (s.addPurgeLoss x.line n).withLoops T := rfl
  unfold State.reportLine
  simp only [State.withLoops_line, State.withLoops_fillOf, add, loss]
  split <;> rfl

theorem State.reportLoss_withLoops (g : Group) : (s.withLoops T).reportLoss g = (s.reportLoss g).withLoops T := by
  unfold State.reportLoss
  rw [State.foldl_withLoops State.reportLine_withLoops]
  split <;> rfl

theorem State.askSkid_withLoops (pump water caustic heater lamp : Bool) :
    (s.withLoops T).askSkid pump water caustic heater lamp = (s.askSkid pump water caustic heater lamp).withLoops T := by
  cases water <;> rfl

theorem State.askPhase_withLoops (p : Phase) : (s.withLoops T).askPhase p = (s.askPhase p).withLoops T := by
  cases p <;> exact State.askSkid_withLoops ..

theorem State.endHeating_withLoops (g : Group) : (s.withLoops T).endHeating g = (s.endHeating g).withLoops T := by
  have off : (s.withLoops T).ask 17 3 false = (s.ask 17 3 false).withLoops T := rfl
  unfold State.endHeating
  simp only [State.withLoops_groupTrunks, off]
  rw [State.foldl_withLoops fun _ _ => rfl]
  split
  · split <;> rfl
  · rfl

theorem State.setGroup_withLoops (g : Option Group) : (s.withLoops T).setGroup g = (s.setGroup g).withLoops T := rfl

theorem State.enterRelease_withLoops (g : Group) : (s.withLoops T).enterRelease g = (s.enterRelease g).withLoops T := by
  unfold State.enterRelease
  rw [State.endHeating_withLoops, State.askPhase_withLoops, State.setGroup_withLoops]

theorem State.abandon_withLoops (g : Group) : (s.withLoops T).abandon g = (s.abandon g).withLoops T := by
  unfold State.abandon
  rw [State.reportLoss_withLoops, State.enterRelease_withLoops]

theorem State.startRun_withLoops (g : Group) (p : Phase) (n : Nat) : (s.withLoops T).startRun g p n = (s.startRun g p n).withLoops T := by
  unfold State.startRun
  rw [State.askPhase_withLoops, State.setGroup_withLoops, State.abandon_withLoops]
  simp only [State.withLoops_fillOf]
  split <;> rfl

theorem State.decideHeater_withLoops (g : Group) : (s.withLoops T).decideHeater g = (s.decideHeater g).withLoops T := by
  unfold State.decideHeater
  rw [State.withLoops_climate]
  split <;> rfl

theorem State.enterSoak_withLoops (g : Group) : (s.withLoops T).enterSoak g = (s.enterSoak g).withLoops T := by
  unfold State.enterSoak
  simp only [State.withLoops_groupTrunks, State.askPhase_withLoops]
  rw [State.foldl_withLoops fun _ _ => rfl]
  split <;> exact State.decideHeater_withLoops _

theorem State.endRun_withLoops (g : Group) : (s.withLoops T).endRun g = (s.endRun g).withLoops T := by
  have caustic : (s.withLoops T).endCaustic g = (s.endCaustic g).withLoops T := by
    unfold State.endCaustic
    simp only [State.withLoops_climate, State.enterSoak_withLoops, State.startRun_withLoops]
    split
    · rfl
    · split <;> rfl
  have verify : (s.withLoops T).enterVerify g = (s.enterVerify g).withLoops T := by
    unfold State.enterVerify
    rw [State.askPhase_withLoops, State.setGroup_withLoops]
  unfold State.endRun
  simp only [State.reportLoss_withLoops, State.startRun_withLoops, caustic, verify, State.setGroup_withLoops, State.abandon_withLoops]
  split
  · split <;> rfl
  · rfl

theorem State.releaseGroup_withLoops (g : Group) : (s.withLoops T).releaseGroup g = (s.releaseGroup g).withLoops T := by
  have release (s : State) (l : Line) (r : CleanResult) : (s.withLoops T).releaseLine l r = (s.releaseLine l r).withLoops T := by
    unfold State.releaseLine
    simp only [State.withLoops_line, State.changeLine_withLoops]
    split <;> rfl
  rw [State.releaseGroup_eq, State.releaseGroup_eq, State.foldl_withLoops fun _ _ => release _ _ _]
  rfl

theorem State.settleClean_withLoops (p : Pour) (n : Nat) : (s.withLoops T).settleClean l p n = (s.settleClean l p n).withLoops T := by
  have consider (s : State) : (s.withLoops T).considerRelease = s.considerRelease.withLoops T := by
    unfold State.considerRelease
    simp only [State.withLoops_cleaning, State.releaseGroup_withLoops]
    split
    · split <;> rfl
    · rfl
  have run (g : Group) : (s.withLoops T).settleRun g = (s.settleRun g).withLoops T := by
    unfold State.settleRun
    rw [State.endRun_withLoops, State.setGroup_withLoops]
    split <;> rfl
  unfold State.settleClean State.drawSettled
  simp only [State.withLoops_cleaning, run, consider]
  split
  · split <;> rfl
  · rfl

/-- A settlement neither reads nor writes the loop records. -/
theorem State.settle_withLoops (p : Pour) (v : Nat) (r : CloseReason) (e : Ending) :
    (s.withLoops T).settle l p v r e = (s.settle l p v r e).withLoops T := by
  have meter (s : State) : (s.withLoops T).meterOf l = s.meterOf l := rfl
  unfold State.settle
  simp only [State.teach_withLoops, State.settleAccount_withLoops, State.settleShares_withLoops, State.settleLowFlow_withLoops,
    State.settleClean_withLoops, meter]
  rfl

/-! ### An arrival (R37 to R56) -/

theorem State.setRecord_withLoops (r : PourRec) : (s.withLoops T).setRecord l r = (s.setRecord l r).withLoops T := rfl
theorem State.setShown_withLoops (r : Option RefusalReason) : (s.withLoops T).setShown l r = (s.setShown l r).withLoops T := rfl

theorem State.withdraw_withLoops : (s.withLoops T).withdraw l = (s.withdraw l).withLoops T := by
  have leave : (s.withLoops T).leaveQueue l = (s.leaveQueue l).withLoops T := by
    unfold State.leaveQueue
    rw [State.withLoops_line]
    split <;> rfl
  unfold State.withdraw
  simp only [State.withLoops_pour, leave, State.releasePour_withLoops, State.setRecord_withLoops]
  split <;> rfl

theorem State.waitingFrame_withLoops : (s.withLoops T).waitingFrame l = (s.waitingFrame l).withLoops T := by
  have timeout (s : State) : (s.withLoops T).waitTimeout l = (s.waitTimeout l).withLoops T := by
    unfold State.waitTimeout
    simp only [State.withLoops_pour, State.withLoops_timing, State.withdraw_withLoops, State.setShown_withLoops]
    split
    · split <;> rfl
    · rfl
  unfold State.waitingFrame
  simp only [State.withLoops_pour, State.setRecord_withLoops, timeout]
  split <;> rfl

theorem State.closePour_withLoops (r : CloseReason) : (s.withLoops T).closePour l r = (s.closePour l r).withLoops T := by
  unfold State.closePour
  rw [State.withLoops_pour]
  split <;> rfl

theorem State.pouringFrame_withLoops (n : Nat) : (s.withLoops T).pouringFrame l n = (s.pouringFrame l n).withLoops T := by
  cases hp : (s.pour l).record with
  | pouring p fo bf bp =>
    rw [State.pouringFrame_eq hp, State.pouringFrame_eq (s := s.withLoops T) hp]
    rfl
  | idle => unfold State.pouringFrame; simp only [State.withLoops_pour, hp]
  | waiting => unfold State.pouringFrame; simp only [State.withLoops_pour, hp]
  | tailing => unfold State.pouringFrame; simp only [State.withLoops_pour, hp]

theorem State.countIfSaturated_withLoops (a : Arrival) : (s.withLoops T).countIfSaturated l a = (s.countIfSaturated l a).withLoops T := by
  unfold State.countIfSaturated
  split <;> rfl

theorem State.pouringArrival_withLoops (a : Arrival) : (s.withLoops T).pouringArrival l a = (s.pouringArrival l a).withLoops T := by
  have meter : (s.withLoops T).meterOf l = s.meterOf l := rfl
  unfold State.pouringArrival
  simp only [State.withLoops_pour, meter, State.countIfSaturated_withLoops, State.setRecord_withLoops, State.closePour_withLoops,
    State.pouringFrame_withLoops]
  split
  · split
    · rfl
    · split <;> rfl
  · rfl

theorem State.tailingFrame_withLoops (n : Option Nat) : (s.withLoops T).tailingFrame l n = (s.tailingFrame l n).withLoops T := by
  have quiet (s : State) : (s.withLoops T).quietSettle l = (s.quietSettle l).withLoops T := by
    unfold State.quietSettle
    simp only [State.withLoops_pour, State.withLoops_timing, State.settle_withLoops]
    split
    · split <;> rfl
    · rfl
  have window (s : State) : (s.withLoops T).tailWindow l = (s.tailWindow l).withLoops T := by
    unfold State.tailWindow
    simp only [State.withLoops_pour, State.withLoops_timing, State.settle_withLoops]
    split
    · split <;> rfl
    · rfl
  have meter : (s.withLoops T).meterOf l = s.meterOf l := rfl
  unfold State.tailingFrame
  simp only [State.withLoops_pour, meter, State.setRecord_withLoops, quiet, window]
  split <;> rfl

theorem State.arrivalFrame_withLoops (a : Arrival) : (s.withLoops T).arrivalFrame l a = (s.arrivalFrame l a).withLoops T := by
  unfold State.arrivalFrame
  simp only [State.withLoops_pour, State.withdraw_withLoops, State.waitingFrame_withLoops, State.pouringArrival_withLoops,
    State.countIfSaturated_withLoops, State.tailingFrame_withLoops]
  split
  · rfl
  · split <;> rfl
  · rfl
  · rfl

/-- The answer to a hold, in another state. -/
def PlaceAnswer.mapState (f : State → State) : PlaceAnswer → PlaceAnswer
  | .placed s => .placed (f s)
  | x => x

theorem State.placeHold_withLoops (id h : Nat) : (s.withLoops T).placeHold id h = (s.placeHold id h).mapState (State.withLoops · T) := by
  unfold State.placeHold
  rw [State.withLoops_findAccount]
  split
  · rfl
  · split
    · rfl
    · split <;> rfl

theorem State.admitDraw_withLoops (t : Trunk) (p : Pour) : (s.withLoops T).admitDraw l t p = (s.admitDraw l t p).withLoops T := by
  have count : (s.withLoops T).trunkPouring t = s.trunkPouring t := rfl
  have trunk : (s.withLoops T).trunk t = s.trunk t := rfl
  unfold State.admitDraw
  simp only [count, trunk, State.releasePour_withLoops]
  split
  · rfl
  · split <;> rfl

theorem State.judgeRequest_withLoops (c : LineCfg) (kind : PourKind) :
    (s.withLoops T).judgeRequest l c kind = (s.judgeRequest l c kind).withLoops T := by
  have pour (k : PourKind) (w : Bool) : (s.withLoops T).requestPour l c k w = s.requestPour l c k w := rfl
  have gate : (s.withLoops T).lineGate l = s.lineGate l := rfl
  have queued : (s.withLoops T).queued l = s.queued l := rfl
  have idle : (s.withLoops T).pourIdle l = s.pourIdle l := rfl
  unfold State.judgeRequest
  simp only [queued, idle, gate, pour, State.placeHold_withLoops, State.admitDraw_withLoops, State.setShown_withLoops]
  split
  · rfl
  · split
    · rfl
    · split
      · rfl
      · split
        · rfl
        · next id _ =>
          cases s.placeHold id (s.requestPour l c kind (s.lineGate l == .warn)).hold with
          | noAccount => rfl
          | noCredit => rfl
          | placed t => exact State.admitDraw_withLoops ..

theorem State.request_withLoops (code : BitVec 3) : (s.withLoops T).request l code = (s.request l code).withLoops T := by
  unfold State.request
  simp only [State.withLoops_line, State.startPriming_withLoops, State.judgeRequest_withLoops, State.setShown_withLoops]
  split
  · rfl
  · split
    · rfl
    · rfl
    · cases s.startPriming l with
      | error r => rfl
      | ok t => exact State.judgeRequest_withLoops ..

/-- An arrival neither reads nor writes the loop records. -/
theorem State.arrival_withLoops (a : Arrival) : (s.withLoops T).arrival l a = (s.arrival l a).withLoops T := by
  have asked (s : State) : (if a.isRequest = true then (s.withLoops T).request l a.effective else s.withLoops T) =
      (if a.isRequest = true then s.request l a.effective else s).withLoops T := by
    split
    · exact State.request_withLoops _
    · rfl
  have acted (s : State) : (if (s.withLoops T).pourIdle l = true then
        (if a.isRequest = true then (s.withLoops T).request l a.effective else s.withLoops T)
      else (if a.isRequest = true then (s.withLoops T).request l a.effective else s.withLoops T).arrivalFrame l a) =
      (if s.pourIdle l = true then (if a.isRequest = true then s.request l a.effective else s)
        else (if a.isRequest = true then s.request l a.effective else s).arrivalFrame l a).withLoops T := by
    rw [asked, State.arrivalFrame_withLoops, show (s.withLoops T).pourIdle l = s.pourIdle l from rfl]
    split <;> rfl
  unfold State.arrival
  dsimp only
  by_cases clears : a.effective = 0#3
  · rw [if_pos clears, if_pos clears]
    exact acted (s.setShown l none)
  · rw [if_neg clears, if_neg clears]
    exact acted s

end

end Sys2Proof.Machine
end

section
/-! PROOF. An arrival of a bound slot: what it leaves in the loops, and how it acts on the pour record (R24 to R27, R37 to R56, R110,
R111, R114). -/

namespace Sys2Proof.Machine
open Sys2Proof.Laws

section
variable {s t u : State} {b : Binding} {word : SlotWord} {l : Line} {r : RecvState} {c : LineCfg} {next : Option Slot} {code : BitVec 3}
  {d : Nat} {a : Arrival} {p : Pour}

/-! ### The word that is heard -/

/-- An arrival that carries a code and pulses, as a word of the loop says them. -/
structure Arrival.Carries (a : Arrival) (word : SlotWord) (r : RecvState) (code : BitVec 3) (d : Nat) : Prop where
  effective : a.effective = code
  pulses : a.pulses = d
  saturated : a.saturated = word.getLsbD 15
  asks : a.isRequest = true ↔ Asks r code

/-- The end of a slot with a good new word is an arrival at its line, with the word's place taken in the receive state. -/
theorem State.slotEnd_hears (h : s.Hears b word l r c next code d) : ∃ a : Arrival, a.Carries word r code d ∧
    ∃ u : State, exec (.slotEnd b.loop b.slot word) s = .next u.follow ∧ Heard s u b word code next ∧
      u = { s.arrival l a with tapLoops := u.tapLoops } := by
  obtain ⟨released, running, slot, hn, hb, hr, -, good, fresh, hcode, hd⟩ := h
  have effective : (readWord word).effective = code := (readWord_code word).trans hcode.symm
  have run : exec (.slotEnd b.loop b.slot word) s = .next (s.slotEnd b word).follow :=
    State.running_of_released (f := takeSlotEnd b.loop b.slot word) released
  obtain ⟨t, ht⟩ : ∃ t, t = (s.nextSlot b next).setRecv b (some { r with lost := false }) := ⟨_, rfl⟩
  obtain ⟨a, ha⟩ : ∃ a : Arrival, a = ⟨(readWord word).delta, (readWord word).saturated, (readWord word).code,
    (readWord word).towerFault, r.code⟩ := ⟨_, rfl⟩
  obtain ⟨x, hx⟩ : ∃ x : RecvState, x = ⟨0, false, some (readWord word).seq, some (readWord word).effective⟩ := ⟨_, rfl⟩
  have accepted : s.slotEnd b word = (t.arrival l a).setRecv b (some x) := by
    rw [State.slotEnd_runs running slot hn, State.takeWord, State.nextSlot_bound, State.nextSlot_recv, hb, hr, ht, ha, hx]
    refine (if_neg fun e => readWord_good.mp e good).trans (if_neg fun e => fresh ?_)
    rw [e, readWord_seq]
  have looped : t = s.withLoops t.tapLoops := by
    have frame : Looped s t := ht ▸ Looped.trans (State.setLoop_frame ..) (State.setRecv_frame ..)
    exact frame
  have arrived : t.arrival l a = (s.arrival l a).withLoops t.tapLoops := by
    rw [← State.arrival_withLoops, ← looped]
  have loops (j : LoopId) : (t.arrival l a).loop j = t.loop j := State.loop_congr (by rw [arrived]; rfl) j
  have apart (j : LoopId) (hj : j ≠ b.loop) : t.loop j = s.loop j := by
    rw [ht, State.setRecv, State.loop_setLoop_ne _ _ _ _ hj]
    exact State.loop_setLoop_ne _ _ _ _ hj
  have here : t.loop b.loop = { s.loop b.loop with slot := next, recv := (t.loop b.loop).recv } := by
    rw [ht, State.setRecv, State.loop_setLoop_same, State.nextSlot_loop]
  refine ⟨a, ⟨by rw [ha]; exact effective, ?_, by rw [ha]; exact readWord_saturated word, ?_⟩, _, run.trans (by rw [accepted]),
    ⟨?_, fun e he => ?_, ?_, fun j hj => ?_⟩, ?_⟩
  · rw [hd, ha, ← readWord_saturated]
    rfl
  · have same : a.effective = code := by rw [ha]; exact effective
    rw [Arrival.isRequest, same, ha]
    simp [Asks, and_assoc]
  · rw [State.recv_setRecv_same, hx, effective, readWord_seq]
  · rw [State.recv_setRecv_ne _ _ _ _ he, State.recv, loops]
    by_cases hl : e.loop = b.loop
    · have hs : e.slot ≠ b.slot := fun hs => he (by cases e; cases b; cases hl; cases hs; rfl)
      rw [hl, ht, State.setRecv, State.loop_setLoop_same, State.nextSlot_loop]
      exact (look_put_ne _ _ _ _ hs).trans (by rw [State.recv, hl])
    · rw [apart _ hl]
      rfl
  · rw [State.setRecv, State.loop_setLoop_same, loops, here]
  · rw [State.setRecv, State.loop_setLoop_ne _ _ _ _ hj, loops, apart j hj]
  · rw [State.setRecv_frame, arrived]
    rfl

/-! ### What an arrival shows, and whether it acts on a pour (R38, R40, R41, R43) -/

theorem State.setShown_self {x : Option RefusalReason} (h : (s.pour l).shown = x) : s.setShown l x = s := by
  subst h
  exact congrArg (fun v => ({ s with pourControl := { s.pourControl with pours := v } } : State)) (put_look _ _)

theorem State.setShown_pourIdle (x : Option RefusalReason) : (s.setShown l x).pourIdle l = s.pourIdle l := by
  rw [State.pourIdle, State.setShown, State.pour_setPour_same]
  rfl

/-- A request at a line whose pour is not IDLE gets no further than the first two checks. -/
theorem State.request_busy (hc : (s.line l).cfg = some c) (busy : s.pourIdle l = false)
    (h : ¬((s.line l).mode = .water ∧ code = 7#3)) :
    s.request l code = s.setShown l ((s.line l).mode.refusal (code == 7#3) (s.queued l) (s.pour l).shown) := by
  have judged (k : PourKind) : s.judgeRequest l c k =
      s.setShown l (if s.queued l then some .cleanPending else (s.pour l).shown) := by
    unfold State.judgeRequest
    by_cases queued : s.queued l = true
    · rw [if_pos queued, if_pos queued]
    · rw [if_neg queued, if_neg queued, if_pos busy, State.setShown_self rfl]
  unfold State.request
  rw [hc]
  dsimp only
  cases hm : (s.line l).mode <;> cases hp : code == 7#3 <;>
    simp_all [modeCheck, Mode.refusal]

/-- What a faucet shows after an arrival that is no admitted request. -/
def State.shownAfter (s : State) (l : Line) (r : RecvState) (code : BitVec 3) : Option RefusalReason :=
  if code = 0#3 then none
  else if Asks r code then (s.line l).mode.refusal (code == 7#3) (s.queued l) (s.pour l).shown
  else (s.pour l).shown

theorem State.arrival_acts (ha : a.Carries word r code d) (hc : (s.line l).cfg = some c)
    (busy : Asks r code → (s.pour l).record ≠ .idle ∧ ¬((s.line l).mode = .water ∧ code = 7#3)) :
    s.arrival l a = if s.pourIdle l = true then s.setShown l (s.shownAfter l r code)
      else (s.setShown l (s.shownAfter l r code)).arrivalFrame l a := by
  obtain ⟨effective, -, -, asks⟩ := ha
  unfold State.arrival State.shownAfter
  rw [effective]
  dsimp only
  by_cases clears : code = 0#3
  · have quiet : ¬a.isRequest = true := fun h => (asks.mp h).1 clears
    rw [if_pos clears, if_pos clears, if_neg quiet, State.setShown_pourIdle]
  rw [if_neg clears, if_neg clears]
  by_cases h : Asks r code
  · have idle : s.pourIdle l = false := by
      obtain ⟨hp, -⟩ := busy h
      unfold State.pourIdle
      simpa using hp
    rw [if_pos (asks.mpr h), if_pos h, State.request_busy hc idle (busy h).2, idle]
  · rw [if_neg fun e => h (asks.mp e), if_neg h, State.setShown_self rfl]

/-! ### A WAITING pour (R37, R39, R49, R50) -/

section
variable {y : PourSlot}

theorem State.setPour_setPour (s : State) (l : Line) (y z : PourSlot) : (s.setPour l y).setPour l z = s.setPour l z :=
  congrArg (fun v => ({ s with pourControl := { s.pourControl with pours := v } } : State)) (put_put _ _ _ _)

theorem State.setRecord_setPour (s : State) (l : Line) (y : PourSlot) (x : PourRec) :
    (s.setPour l y).setRecord l x = s.setPour l { y with record := x } := by
  rw [State.setRecord, State.pour_setPour_same, State.setPour_setPour]

theorem State.setShown_setPour (s : State) (l : Line) (y : PourSlot) (x : Option RefusalReason) :
    (s.setPour l y).setShown l x = s.setPour l { y with shown := x } := by
  rw [State.setShown, State.pour_setPour_same, State.setPour_setPour]

/-- What the withdrawal of a pour leaves, with the record of the line. -/
def State.withdrawn (s : State) (l : Line) (c : LineCfg) (p : Pour) (y : PourSlot) : State :=
  { s with
    pourControl := { s.pourControl with
      pours := put s.pourControl.pours l y
      trunks := put s.pourControl.trunks c.trunk { s.trunk c.trunk with queue := (s.trunk c.trunk).queue.filter fun m => m != l } }
    accounts := (s.releasePour p).accounts
    link := (s.releasePour p).link }

theorem State.withdraw_setPour {n : Nat} (hy : y.record = .waiting p n) (hc : (s.line l).cfg = some c) :
    (s.setPour l y).withdraw l = s.withdrawn l c p { y with record := .idle } := by
  obtain ⟨accounts, link⟩ := State.releasePour_congr (s := s) (t := s.setPour l y) rfl p
  have pour := State.pour_setPour_same s l y
  rw [State.withdraw_of_waiting (s := s.setPour l y) (by rw [pour]; exact hy) hc, accounts, link rfl, pour]
  exact congrArg (fun v => ({ s.withdrawn l c p y with
    pourControl := { (s.withdrawn l c p y).pourControl with pours := v } } : State)) (put_put _ _ _ _)

theorem State.waitingFrame_setPour {n : Nat} (hy : y.record = .waiting p n) (hc : (s.line l).cfg = some c) :
    (s.setPour l y).waitingFrame l = if s.timing.waitTimeout ≤ n + 1 then
        s.withdrawn l c p { y with record := .idle, shown := some .timeout }
      else s.setPour l { y with record := .waiting p (n + 1) } := by
  have record : ((s.setPour l y).pour l).record = .waiting p n := by rw [State.pour_setPour_same]; exact hy
  unfold State.waitingFrame
  rw [record]
  dsimp only
  rw [State.setRecord_setPour, State.waitTimeout, State.pour_setPour_same]
  dsimp only
  by_cases due : s.timing.waitTimeout ≤ n + 1
  · rw [if_pos due, State.withdraw_setPour (p := p) (n := n + 1) rfl hc]
    refine (if_pos due).trans ?_
    have pour : (s.withdrawn l c p { y with record := .idle }).pour l = { y with record := .idle } := look_put_same _ _ _
    rw [State.setShown, pour]
    exact congrArg (fun v => ({ s.withdrawn l c p y with
      pourControl := { (s.withdrawn l c p y).pourControl with pours := v } } : State)) (put_put _ _ _ _)
  · rw [if_neg due]
    exact if_neg due

/-- A code lets go of a WAITING pour: STOP, or another than the one that holds the handle (R39). -/
theorem codeAct_waiting (p : Pour) (n : Nat) (code : BitVec 3) : codeAct (.waiting p n) code =
    if code = 6#3 ∨ p.kind = .free ∧ code ≠ 5#3 ∨ p.kind = .prime ∧ code ≠ 7#3 then .withdraws else .nothing := by
  unfold codeAct
  by_cases stop : code = 6#3
  · simp [stop]
  · cases hk : p.kind <;> simp [stop, hk]

/-! ### A POURING pour (R24 to R27, R52) -/

theorem Pour.accumulate_eq (p : Pour) (d k : Nat) : p.accumulate d k = { p with
    v := min (p.v + d * k) 4294967295, clamp := p.clamp || decide (4294967295 < p.v + d * k) } := by
  unfold Pour.accumulate maxTotal
  by_cases h : p.v + d * k ≤ 4294967295
  · rw [if_pos h, Nat.min_eq_left h, decide_eq_false (Nat.not_lt.mpr h), Bool.or_false]
  · rw [if_neg h, Nat.min_eq_right (Nat.le_of_lt (Nat.lt_of_not_le h)), decide_eq_true (Nat.lt_of_not_le h), Bool.or_true]

theorem Pour.closeTest_iff (p : Pour) (tail : Nat) :
    p.closeTest tail = true ↔ p.target ≤ p.v + if p.kind = .prime ∨ p.kind = .clean then 0 else tail := by
  unfold Pour.closeTest
  cases p.kind <;> simp

theorem codeAct_pouring (p : Pour) (n bf bp : Nat) (code : BitVec 3) : codeAct (.pouring p n bf bp) code =
    if p.kind = .clean then .nothing else if code = 6#3 then .closes .stop
    else if p.kind = .free ∧ code ≠ 5#3 ∨ p.kind = .prime ∧ code ≠ 7#3 then .closes .handle else .nothing := by
  unfold codeAct
  by_cases stop : code = 6#3
  · simp [stop]
  · cases hk : p.kind <;> simp [stop, hk]

/-- A word with its saturation flag set is counted for its line (R22, R24). -/
theorem State.countIfSaturated_eq (s : State) (l : Line) (a : Arrival) : s.countIfSaturated l a = { s with
    lineTable := { s.lineTable with lines := put s.lineTable.lines l { s.line l with
      saturation := if a.saturated then satAdd (s.line l).saturation 1 else (s.line l).saturation } } } := by
  unfold State.countIfSaturated
  split
  · rfl
  · exact congrArg (fun v => ({ s with lineTable := { s.lineTable with lines := v } } : State)) (put_look _ _).symm

/-- The record of a POURING pour after an arrival: the close test, the code, then the frame (R52). -/
def PourRec.arrived (t : Timing) (tail : Nat) (q : Pour) (n bf bp d : Nat) (code : BitVec 3) : PourRec :=
  if q.target ≤ q.v + (if q.kind = .prime ∨ q.kind = .clean then 0 else tail) then
    .tailing q n q.v (if q.kind = .free then .cap else .target) 0 0
  else if q.kind = .clean then .pouring q (min (n + 1) 65535) bf bp
  else if code = 6#3 then .tailing q n q.v .stop 0 0
  else if q.kind = .free ∧ code ≠ 5#3 ∨ q.kind = .prime ∧ code ≠ 7#3 then .tailing q n q.v .handle 0 0
  else .framed t q n bf bp d

theorem State.pouringArrival_eq {n bf bp : Nat} (hp : (s.pour l).record = .pouring p n bf bp) (hc : (s.line l).cfg = some c) :
    s.pouringArrival l a = (s.countIfSaturated l a).setRecord l
      (.arrived s.timing c.tail (p.accumulate a.pulses c.k) n bf bp a.pulses a.effective) := by
  have meter : s.meterOf l = (c.k, c.tail) := by rw [State.meterOf, hc]; rfl
  have kind : (p.accumulate a.pulses c.k).kind = p.kind := by rw [Pour.accumulate_eq]
  have timing : (s.countIfSaturated l a).timing = s.timing := by rw [State.countIfSaturated_eq]; rfl
  unfold State.pouringArrival PourRec.arrived
  rw [hp, meter]
  dsimp only
  rw [← kind]
  generalize p.accumulate a.pulses c.k = q
  generalize s.countIfSaturated l a = t at *
  have record (x : PourRec) : ((t.setRecord l x).pour l).record = x := by rw [State.setRecord_pour_same]
  by_cases test : q.closeTest c.tail = true
  · rw [if_pos test, if_pos ((Pour.closeTest_iff _ _).mp test)]
    cases q.kind <;> rfl
  rw [if_neg test, if_neg fun h => test ((Pour.closeTest_iff _ _).mpr h), codeAct_pouring]
  by_cases clean : q.kind = .clean
  · rw [if_pos clean, if_pos clean]
    dsimp only
    rw [State.pouringFrame_eq (record _), State.setRecord_setRecord, PourRec.framed, if_pos clean]
  rw [if_neg clean, if_neg clean]
  by_cases stop : a.effective = 6#3
  · rw [if_pos stop, if_pos stop]
    dsimp only
    rw [State.closePour_of_pouring (record _), State.setRecord_setRecord]
  rw [if_neg stop, if_neg stop]
  by_cases handle : q.kind = .free ∧ a.effective ≠ 5#3 ∨ q.kind = .prime ∧ a.effective ≠ 7#3
  · rw [if_pos handle, if_pos handle]
    dsimp only
    rw [State.closePour_of_pouring (record _), State.setRecord_setRecord]
  · rw [if_neg handle, if_neg handle]
    dsimp only
    rw [State.pouringFrame_eq (record _), State.setRecord_setRecord]
    exact congrArg (fun x => t.setRecord l (.framed x q n bf bp a.pulses)) timing

end

end

end Sys2Proof.Machine
end

section
/-! PROOF. An accepted word and the pour it meets, in each state of the record (R37 to R40, R49 to R56, R111, R114). -/

namespace Sys2Proof.Machine
open Sys2Proof.Laws

section
variable {s : State} {l : Line} {c : LineCfg} {p : Pour}

/-- A frame of a TAILING pour with the pulses of an arrival: metered, then ended quiet or at its window (R56). -/
theorem State.tailingFrame_eq {n v q k quiet : Nat} {r : CloseReason} {x : Pour} {w : State}
    (hp : (s.pour l).record = .tailing p n v r q k) (hc : (s.line l).cfg = some c) (d : Nat) (hx : x = p.accumulate d c.k)
    (hq : quiet = if d = 0 then q + 1 else 0) (hw : w = s.setRecord l (.tailing x (min (n + 1) 65535) v r quiet (k + 1))) :
    s.tailingFrame l (some d) = if s.timing.settle ≤ quiet then w.settle l x v r .quiet
      else if s.timing.tailWindow ≤ k + 1 then w.settle l x v r .window else w := by
  have meter : (s.meterOf l).1 = c.k := by rw [State.meterOf, hc]; rfl
  have count : (match some d with | some 0 => q + 1 | some _ => 0 | none => q) = quiet := by
    rw [hq]
    cases d <;> rfl
  have run : s.tailingFrame l (some d) = (w.quietSettle l).tailWindow l := by
    unfold State.tailingFrame
    rw [hp, hw, ← count, hx, ← meter]
    rfl
  have record : (w.pour l).record = .tailing x (min (n + 1) 65535) v r quiet (k + 1) := by rw [hw, State.setRecord_pour_same]
  have timing : w.timing = s.timing := by rw [hw]; rfl
  rw [run]
  by_cases settle : s.timing.settle ≤ quiet
  · have settled : w.quietSettle l = w.settle l x v r .quiet := by
      unfold State.quietSettle
      rw [record]
      exact if_pos (by rw [timing]; exact settle)
    obtain ⟨pour, -, -⟩ := w.settle_pour l x v r .quiet
    have idle : ((w.settle l x v r .quiet).pour l).record = .idle := by rw [pour]
    rw [if_pos settle, settled, State.tailWindow, idle]
  · have still : w.quietSettle l = w := by
      unfold State.quietSettle
      rw [record]
      exact if_neg (by rw [timing]; exact settle)
    rw [if_neg settle, still, State.tailWindow, record]
    dsimp only
    rw [timing]

section
variable {a : Arrival} {y : PourSlot}

/-- An arrival at a WAITING pour: withdrawn by its code, or one more wait frame (R39, R49, R50). -/
theorem State.arrivalFrame_waiting {n : Nat} (hy : y.record = .waiting p n) (hc : (s.line l).cfg = some c) :
    (s.setPour l y).arrivalFrame l a =
      if a.effective = 6#3 ∨ p.kind = .free ∧ a.effective ≠ 5#3 ∨ p.kind = .prime ∧ a.effective ≠ 7#3 then
        s.withdrawn l c p { y with record := .idle }
      else if s.timing.waitTimeout ≤ n + 1 then s.withdrawn l c p { y with record := .idle, shown := some .timeout }
      else s.setPour l { y with record := .waiting p (n + 1) } := by
  unfold State.arrivalFrame
  rw [State.pour_setPour_same, hy]
  dsimp only
  rw [codeAct_waiting]
  by_cases leaves : a.effective = 6#3 ∨ p.kind = .free ∧ a.effective ≠ 5#3 ∨ p.kind = .prime ∧ a.effective ≠ 7#3
  · rw [if_pos leaves, if_pos leaves]
    exact State.withdraw_setPour hy hc
  · rw [if_neg leaves, if_neg leaves]
    exact State.waitingFrame_setPour hy hc

/-- A state with the pour slot of a line and the line records replaced. -/
def State.metered (s : State) (l : Line) (lines : Vector LineRec 32) (y : PourSlot) : State :=
  { s with
    lineTable := { s.lineTable with lines := lines }
    pourControl := { s.pourControl with pours := put s.pourControl.pours l y } }

/-- The line records with a word counted as saturated or not (R22, R24). -/
def State.linesHearing (s : State) (l : Line) (a : Arrival) : Vector LineRec 32 :=
  put s.lineTable.lines l { s.line l with
    saturation := if a.saturated then satAdd (s.line l).saturation 1 else (s.line l).saturation }

theorem State.countIfSaturated_setPour (s : State) (l : Line) (a : Arrival) (y : PourSlot) :
    (s.setPour l y).countIfSaturated l a = s.metered l (s.linesHearing l a) y := State.countIfSaturated_eq ..

theorem State.setRecord_metered (lines : Vector LineRec 32) (x : PourRec) :
    (s.metered l lines y).setRecord l x = s.metered l lines { y with record := x } := by
  have pour : (s.metered l lines y).pour l = y := look_put_same _ _ _
  rw [State.setRecord, pour]
  exact congrArg (fun v => ({ s.metered l lines y with pourControl := { s.pourControl with pours := v } } : State)) (put_put _ _ _ _)

theorem State.arrivalFrame_pouring {n bf bp : Nat} (hy : y.record = .pouring p n bf bp) (hc : (s.line l).cfg = some c) :
    (s.setPour l y).arrivalFrame l a = s.metered l (s.linesHearing l a) { y with
      record := .arrived s.timing c.tail (p.accumulate a.pulses c.k) n bf bp a.pulses a.effective } := by
  have now : ((s.setPour l y).pour l).record = .pouring p n bf bp := by rw [State.pour_setPour_same]; exact hy
  have act : (s.setPour l y).arrivalFrame l a = (s.setPour l y).pouringArrival l a := by rw [State.arrivalFrame, now]
  rw [act, State.pouringArrival_eq now hc, State.countIfSaturated_setPour, State.setRecord_metered]
  rfl

theorem State.arrivalFrame_tailing {n v q k quiet : Nat} {r : CloseReason} {x : Pour} {w : State}
    (hy : y.record = .tailing p n v r q k) (hc : (s.line l).cfg = some c) (hx : x = p.accumulate a.pulses c.k)
    (hq : quiet = if a.pulses = 0 then q + 1 else 0)
    (hw : w = s.metered l (s.linesHearing l a) { y with record := .tailing x (min (n + 1) 65535) v r quiet (k + 1) }) :
    (s.setPour l y).arrivalFrame l a = if s.timing.settle ≤ quiet then w.settle l x v r .quiet
      else if s.timing.tailWindow ≤ k + 1 then w.settle l x v r .window else w := by
  have now : ((s.setPour l y).pour l).record = .tailing p n v r q k := by rw [State.pour_setPour_same]; exact hy
  have act : (s.setPour l y).arrivalFrame l a = ((s.setPour l y).countIfSaturated l a).tailingFrame l (some a.pulses) := by
    rw [State.arrivalFrame, now]
  have record : ((s.metered l (s.linesHearing l a) y).pour l).record = .tailing p n v r q k :=
    (congrArg PourSlot.record (look_put_same _ _ _)).trans hy
  have cfg : ((s.metered l (s.linesHearing l a) y).line l).cfg = some c :=
    (congrArg LineRec.cfg (look_put_same s.lineTable.lines l _)).trans hc
  rw [act, State.countIfSaturated_setPour]
  exact State.tailingFrame_eq record cfg a.pulses hx hq (by rw [hw, State.setRecord_metered])

end

end

/-- Settles O39: what an arrival shows, then the arrival at the pour in each state of its record. -/
theorem arrivalsMeterThePour : Obligations.ArrivalsMeterThePour := by
  unfold Obligations.ArrivalsMeterThePour
  intro s b word l r c next code d shown lines hears busy hshown hlines
  obtain ⟨a, carries, u, run, heard, frame⟩ := State.slotEnd_hears hears
  obtain ⟨-, -, -, -, -, -, hc, -⟩ := hears
  have acts := State.arrival_acts carries hc busy
  have shows : s.shownAfter l r code = shown := hshown.symm
  obtain ⟨effective, pulses, saturated, -⟩ := carries
  rw [shows] at acts
  have inFlight {x : PourRec} (hx : (s.pour l).record = x) (hne : x ≠ .idle) :
      s.arrival l a = (s.setPour l { s.pour l with shown := shown }).arrivalFrame l a := by
    rw [acts, if_neg fun h => hne (hx.symm.trans (State.pourIdle_iff.mp h))]
    rfl
  have hearing : s.linesHearing l a = lines := by rw [State.linesHearing, saturated, hlines]
  refine ⟨fun hp => ?_, fun p n leaves hp hleaves => ?_, fun p q n bf bp m v hp hm hv hq => ?_,
    fun p q n vClose k m quiet reason w hp hquiet hq hw => ?_⟩
  · rw [acts, if_pos (State.pourIdle_iff.mpr hp)] at frame
    exact ⟨u, run, heard, frame⟩
  · have arrived := (inFlight hp (by simp)).trans (State.arrivalFrame_waiting (s := s) (a := a) (y := { s.pour l with shown := shown }) hp hc)
    rw [effective] at arrived
    refine ⟨u, run, heard, fun ends => ?_, fun stays time => ?_⟩
    · by_cases leave : leaves
      · rw [if_pos (hleaves.mp leave)] at arrived
        rw [arrived] at frame
        exact ⟨shown, fun _ => rfl, fun h => absurd leave h, frame⟩
      · rw [if_neg fun h => leave (hleaves.mpr h), if_pos (ends.resolve_left leave)] at arrived
        rw [arrived] at frame
        exact ⟨some .timeout, fun h => absurd h leave, fun _ => rfl, frame⟩
    · rw [if_neg fun h => stays (hleaves.mpr h), if_neg (Nat.not_le.mpr time)] at arrived
      rw [arrived] at frame
      exact frame
  · have arrived := (inFlight hp (by simp)).trans (State.arrivalFrame_pouring (s := s) (a := a) (y := { s.pour l with shown := shown }) hp hc)
    have metered : p.accumulate a.pulses c.k = q := by rw [Pour.accumulate_eq, pulses, hq, hv]
    have volume : q.v = v ∧ q.kind = p.kind ∧ q.target = p.target := by rw [hq]; exact ⟨rfl, rfl, rfl⟩
    obtain ⟨hqv, hkind, htarget⟩ := volume
    rw [hearing, metered, effective, pulses, PourRec.arrived, PourRec.framed, hqv, hkind, htarget, ← hm] at arrived
    rw [arrived] at frame
    refine ⟨u, run, heard, ?_⟩
    by_cases clean : p.kind = .clean
    · simp only [clean, if_true] at frame ⊢
      exact frame
    · simp only [clean, if_false] at frame ⊢
      exact frame
  · have metered : q = p.accumulate a.pulses c.k := by rw [Pour.accumulate_eq, pulses, hq]
    have arrived := (inFlight hp (by simp)).trans (State.arrivalFrame_tailing (s := s) (a := a) (w := w) (quiet := quiet)
      (y := { s.pour l with shown := shown }) hp hc metered (by rw [hquiet, pulses]) (by rw [hw, hearing]; rfl))
    refine ⟨u, run, heard, fun settle => ?_, fun open_ window => ?_, fun open_ window => ?_⟩
    · rw [if_pos settle] at arrived
      rw [arrived] at frame
      exact frame
    · rw [if_neg (Nat.not_le.mpr open_), if_pos window] at arrived
      rw [arrived] at frame
      exact frame
    · rw [if_neg (Nat.not_le.mpr open_), if_neg (Nat.not_le.mpr window)] at arrived
      rw [arrived] at frame
      exact frame

end Sys2Proof.Machine
end

section
/-! PROOF. Admission (R41 to R46): the six checks of a request at an IDLE line, and the pour that is admitted. -/

namespace Sys2Proof.Machine
open Sys2Proof.Laws

section
variable {s t v : State} {l : Line} {c : LineCfg} {p : Pour} {code : BitVec 3} {kind : PourKind} {target hold primed : Nat}

/-! ### Holds (R97, R98) -/

/-- A record written over the one that the search finds is found again. -/
theorem State.findAccount_setAccount {id : Nat} {i : AccountIx} {a b : Account} (h : s.findAccount id = some (i, a)) (hb : b.id = id) :
    (s.setAccount i (some b)).findAccount id = some (i, b) := by
  obtain ⟨before, j, after, list, found, none⟩ := List.findSome?_eq_some_iff.mp h
  have hj : j = i := by
    cases hj : s.account j with
    | none => rw [hj] at found; cases found
    | some x =>
      rw [hj] at found
      simp only [Option.ite_none_right_eq_some, Option.some.injEq, Prod.mk.injEq] at found
      exact found.2.1
  subst hj
  refine List.findSome?_eq_some_iff.mpr ⟨before, j, after, list, ?_, fun k hk => ?_⟩
  · rw [State.account_setAccount_same]
    exact if_pos hb
  · have hne : k ≠ j := fun e => by
      have hn := none k hk
      rw [e] at hn
      rw [hn] at found
      cases found
    rw [State.account_setAccount_ne _ _ _ _ hne]
    exact none k hk

/-- A hold that is placed and given back leaves the state as it was. -/
theorem State.releasePour_placed {id : Nat} (hp : p.holdAccount = some id) (h : s.placeHold id p.hold = .placed t) :
    t.releasePour p = s ∧ t = { s with accounts := t.accounts } := by
  obtain ⟨e, -⟩ | ⟨i, a, hf, ho, ⟨-, e⟩ | ⟨-, e⟩⟩ := s.placeHold_cases id p.hold
  · rw [e] at h; cases h
  · rw [e] at h; cases h
  · rw [e] at h
    cases h
    obtain ⟨ha, hid⟩ := State.findAccount_spec hf
    have found := State.findAccount_setAccount (b := a.place p.hold) hf hid
    have same : put s.accounts i (some a) = s.accounts := by
      rw [← ha]; exact put_look ..
    refine ⟨?_, rfl⟩
    have idle : ¬(((a.place p.hold).release p.hold).state = .closing ∧ ((a.place p.hold).release p.hold).holds = 0) :=
      fun hc => by rw [show ((a.place p.hold).release p.hold).state = a.state from rfl, ho] at hc; cases hc.1
    simp only [State.releasePour, hp, State.releaseHold_found found, State.endHold_eq, Account.release_place ho,
      State.setAccount_accounts, put_put, same, if_neg idle]
    rfl

theorem State.placeHold_congr (h : v.accounts = s.accounts) {id n : Nat} :
    (s.placeHold id n = .noAccount → v.placeHold id n = .noAccount) ∧ (s.placeHold id n = .noCredit → v.placeHold id n = .noCredit) ∧
    ∀ t, s.placeHold id n = .placed t → ∃ w, v.placeHold id n = .placed w ∧ w.accounts = t.accounts := by
  unfold State.placeHold
  rw [State.findAccount_congr h]
  split
  · exact ⟨fun _ => rfl, fun e => (by cases e), fun _ e => (by cases e)⟩
  · next i a _ =>
    split
    · exact ⟨fun _ => rfl, fun e => (by cases e), fun _ e => (by cases e)⟩
    · split
      · exact ⟨fun e => (by cases e), fun _ => rfl, fun _ e => (by cases e)⟩
      · refine ⟨fun e => (by cases e), fun e => (by cases e), fun t e => ⟨_, rfl, ?_⟩⟩
        cases e
        exact congrArg (fun x => put x i _) h

/-! ### The pour that a request becomes (R26, R32, R41, R45) -/

/-- What a request latches, as its code says it. -/
theorem State.requestPour_of_latches (h : s.Latches c primed code kind target hold) (hv : v.lineTable.portions = s.lineTable.portions)
    (hp : (v.line l).primed.getD 0 = primed) (warm : Bool) : requestKind code = kind ∧ kind ≠ .clean ∧ (kind = .prime ↔ code = 7#3) ∧
    v.requestPour l c kind warm = {
      kind := kind, target := target, hold := hold, account := if kind = .prime then none else some c.account
      v := 0, clamp := false, warm := warm } := by
  obtain ⟨m, size, hcode, rfl, hsize, rfl, rfl⟩ | ⟨rfl, rfl, rfl, rfl⟩ | ⟨rfl, rfl, rfl, rfl⟩ := h
  · have five : code ≠ 5#3 := fun e => by rw [e] at hcode; simp at hcode; omega
    have seven : code ≠ 7#3 := fun e => by rw [e] at hcode; simp at hcode; omega
    refine ⟨?_, by simp, by simp [seven], ?_⟩
    · rw [requestKind, if_neg five, if_neg seven, hcode, Nat.add_sub_cancel]
      exact congrArg PourKind.portion (Fin.ext (by simp))
    · unfold State.requestPour State.targetHold
      dsimp only
      rw [hv, ← hsize]
      rfl
  · refine ⟨rfl, by simp, by simp, ?_⟩
    unfold State.requestPour State.targetHold
    dsimp only
    rw [hv]
    rfl
  · refine ⟨rfl, by simp, by simp, ?_⟩
    unfold State.requestPour State.targetHold
    dsimp only
    rw [hp]
    rfl

theorem Pour.holdAccount_of_account (h : kind ≠ .clean) {v : Nat} {clamp warm : Bool} :
    (⟨kind, target, hold, if kind = .prime then none else some c.account, v, clamp, warm⟩ : Pour).holdAccount =
      if kind = .prime ∨ c.account = 0 then none else some c.account := by
  unfold Pour.holdAccount
  cases kind <;> first | exact absurd rfl h | rfl | (cases hc : c.account <;> simp [PourKind.isSale])

/-! ### The checks of a request (R41 to R46) -/

/-- The first two checks pass for a request (R41, R43). -/
def State.admits (s : State) (l : Line) (code : BitVec 3) : Prop :=
  s.queued l = false ∧ ((s.line l).mode = .ready ∧ code ≠ 7#3 ∨ (s.line l).mode = .priming ∧ code = 7#3)

theorem State.request_admits (h : s.admits l code) (hc : (s.line l).cfg = some c) :
    s.request l code = s.judgeRequest l c (requestKind code) := by
  unfold State.request
  rw [hc]
  dsimp only
  obtain ⟨-, ⟨hm, hcode⟩ | ⟨hm, hcode⟩⟩ := h
  · rw [hm, beq_eq_false_iff_ne.mpr hcode]
    rfl
  · rw [hm, hcode]
    rfl

theorem State.request_water (hm : (s.line l).mode = .water) (hc : (s.line l).cfg = some c) :
    s.request l 7#3 = match s.startPriming l with
      | .error r => s.setShown l (some r.shown)
      | .ok t => t.judgeRequest l c .prime := by
  unfold State.request
  rw [hc]
  dsimp only
  rw [hm]
  rfl

/-- The first two checks, where the pour is IDLE and one of them fails. -/
theorem State.request_refused {why : RefusalReason} (hc : (s.line l).cfg = some c) (hw : ¬((s.line l).mode = .water ∧ code = 7#3))
    (h : (s.line l).mode.refusal (code == 7#3) (s.queued l) none = some why) : s.request l code = s.setShown l (some why) := by
  have judged (k : PourKind) (hq : s.queued l = true) : s.judgeRequest l c k = s.setShown l (some .cleanPending) := by
    unfold State.judgeRequest
    exact if_pos hq
  unfold State.request
  rw [hc]
  dsimp only
  cases hm : (s.line l).mode <;> cases hp : code == 7#3 <;> simp_all [modeCheck, Mode.refusal]

theorem State.judgeRequest_open (hq : s.queued l = false) (idle : s.pourIdle l = true) (hg : s.lineGate l ≠ .hot)
    (hp : s.requestPour l c kind (decide (s.lineGate l = .warn)) = p) : s.judgeRequest l c kind = match p.holdAccount with
      | none => s.admitDraw l c.trunk p
      | some id => match s.placeHold id p.hold with
        | .noAccount => s.setShown l (some .noAccount)
        | .noCredit => s.setShown l (some .noCredit)
        | .placed t => t.admitDraw l c.trunk p := by
  have warm : (s.lineGate l == .warn) = decide (s.lineGate l = .warn) := rfl
  unfold State.judgeRequest
  rw [if_neg (by rw [hq]; decide), if_neg (by rw [idle]; decide), if_neg hg, warm]
  dsimp only
  subst hp
  rfl

/-- The trunk draw of a pour, with its hold on the account table (R46). -/
theorem State.admitDraw_spec {accounts : Vector (Option Account) 48} {tr : Trunk} (hv : v = { s with accounts := accounts })
    (hr : v.releasePour p = s) :
    (s.trunkPouring tr < (s.trunk tr).limit → v.admitDraw l tr p = { s with
      pourControl := { s.pourControl with pours := put s.pourControl.pours l { s.pour l with record := .pouring p 0 0 0, shown := none } }
      accounts := accounts }) ∧
    ((s.trunk tr).limit ≤ s.trunkPouring tr → (s.trunk tr).queue.length < 8 → v.admitDraw l tr p = { s with
      pourControl := { s.pourControl with
        pours := put s.pourControl.pours l { s.pour l with record := .waiting p 0, shown := none }
        trunks := put s.pourControl.trunks tr { s.trunk tr with queue := (s.trunk tr).queue ++ [l] } }
      accounts := accounts }) ∧
    ((s.trunk tr).limit ≤ s.trunkPouring tr → 8 ≤ (s.trunk tr).queue.length → v.admitDraw l tr p = { s with
      pourControl := { s.pourControl with pours := put s.pourControl.pours l { s.pour l with shown := some .trunkFull } } }) := by
  have count : v.trunkPouring tr = s.trunkPouring tr := by rw [hv]; rfl
  have trunk : v.trunk tr = s.trunk tr := by rw [hv]; rfl
  have shown (w : State) (x : PourRec) : (w.setRecord l x).setShown l none = w.setPour l { w.pour l with record := x, shown := none } := by
    rw [State.setRecord, State.setShown_setPour]
  unfold State.admitDraw
  rw [count, trunk, hr, shown, shown]
  refine ⟨fun room => ?_, fun full place => ?_, fun full none => ?_⟩
  · rw [if_pos room, hv]
    rfl
  · rw [if_neg (Nat.not_lt.mpr full), if_pos place, hv]
    rfl
  · rw [if_neg (Nat.not_lt.mpr full), if_neg (Nat.not_lt.mpr none)]
    rfl

/-- What a line that starts PRIMING leaves alone (R5, R6). -/
theorem State.startPriming_ok (hq : s.queued l = false) (he : s.eligible l .A = true ∨ s.eligible l .B = true)
    (hg : s.lineGate l ≠ .hot) (hf : s.valves.fault = false) (hn : s.onTap l = none) : ∃ v, s.startPriming l = .ok v ∧
    (∀ m, (v.line m).cfg = (s.line m).cfg) ∧ (v.line l).primed = some 0 ∧ v = { s with
      lineTable := { s.lineTable with lines := v.lineTable.lines }
      kegRegister := { s.kegRegister with kegs := v.kegRegister.kegs }
      valves := { s.valves with groups := v.valves.groups } } := by
  obtain ⟨q, hq', he'⟩ : ∃ q, s.chooseKeg l = some q ∧ s.eligible l q = true := by
    by_cases ha : s.eligible l .A = true
    · exact ⟨.A, if_pos ha, ha⟩
    · have hb := he.resolve_left ha
      exact ⟨.B, (if_neg ha).trans (if_pos hb), hb⟩
  have refusal : s.primeRefusal l true = none := by simp_all [State.primeRefusal]
  have run : s.startPriming l = .ok (((s.setKegState l q .onTap).askSelector l q true).changeLine l { s.line l with
      mode := .priming, primed := some 0, lastKeg := some q }) := by
    have line : ((s.setKegState l q .onTap).askSelector l q true).line l = s.line l := by rw [State.setKegState_frame]; rfl
    simp only [State.startPriming, refusal, hq', State.putOnTap_eq he' hn, line]
  obtain ⟨lines, -, -, -, -, frame⟩ := State.putOnTap_changeLine he' (r := { s.line l with
    mode := .priming, primed := some 0, lastKeg := some q }) nofun nofun rfl
  generalize ((s.setKegState l q .onTap).askSelector l q true).changeLine l { s.line l with
    mode := .priming, primed := some 0, lastKeg := some q } = w at *
  have line (m : Line) : w.line m = if m = l then { s.line l with mode := .priming, primed := some 0, lastKeg := some q }
      else s.line m := (congrArg (look · m) lines).trans (look_put ..)
  refine ⟨w, run, fun m => ?_, ?_, ?_⟩
  · rw [line]
    split
    · next h => rw [h]
    · rfl
  · rw [line, if_pos rfl]
  · exact frame

end

section
variable {s : State} {l : Line} {c : LineCfg} {code : BitVec 3} {kind : PourKind} {target hold : Nat}

/-- Why a WATER line does not start PRIMING, as the faucet shows it (R5, R6). -/
theorem State.primeRefusal_shown {why : RefusalReason} (hwhy : why = if s.queued l = true then .cleanPending
      else if s.eligible l .A = false ∧ s.eligible l .B = false then .notReady
      else if s.lineGate l = .hot then .tooWarm else .notReady)
    (h : s.queued l = true ∨ s.eligible l .A = false ∧ s.eligible l .B = false ∨ s.lineGate l = .hot ∨ s.valves.fault = true) :
    ∃ r, s.primeRefusal l true = some r ∧ r.shown = why := by
  have none : (s.chooseKeg l).isNone = true ↔ s.eligible l .A = false ∧ s.eligible l .B = false := by
    unfold State.chooseKeg
    cases s.eligible l .A <;> cases s.eligible l .B <;> simp
  unfold State.primeRefusal
  by_cases queued : s.queued l = true
  · exact ⟨_, if_pos queued, by rw [hwhy, if_pos queued]; rfl⟩
  rw [if_neg queued] at hwhy ⊢
  by_cases kegs : s.eligible l .A = false ∧ s.eligible l .B = false
  · exact ⟨_, if_pos (none.mpr kegs), by rw [hwhy, if_pos kegs]; rfl⟩
  rw [if_neg kegs] at hwhy
  rw [if_neg fun h => kegs (none.mp h)]
  by_cases hot : s.lineGate l = .hot
  · exact ⟨_, if_pos (by rw [hot]; rfl), by rw [hwhy, if_pos hot]; rfl⟩
  · have fault := ((h.resolve_left queued).resolve_left kegs).resolve_left hot
    rw [if_neg hot] at hwhy
    exact ⟨.chainFault, (if_neg (by simp [hot])).trans (if_pos fault), hwhy.symm⟩

/-- The refusals of a request at an IDLE line, in the order of the checks (R41 to R45). -/
theorem State.request_refuses {why : RefusalReason} {open_ : Prop} (hc : (s.line l).cfg = some c) (idle : s.pourIdle l = true)
    (hlatch : s.Latches c (if (s.line l).mode = .water then 0 else (s.line l).primed.getD 0) code kind target hold)
    (hopen : open_ ↔ s.admits l code)
    (h : ¬((s.line l).mode = .water ∧ code = 7#3) ∧ (s.line l).mode.refusal (code == 7#3) (s.queued l) none = some why ∨
      ((s.line l).mode = .water ∧ code = 7#3 ∧
        why = (if s.queued l = true then .cleanPending
          else if s.eligible l .A = false ∧ s.eligible l .B = false then .notReady
          else if s.lineGate l = .hot then .tooWarm
          else .notReady) ∧
        (s.queued l = true ∨ s.eligible l .A = false ∧ s.eligible l .B = false ∨ s.lineGate l = .hot ∨ s.valves.fault = true)) ∨
      open_ ∧ s.lineGate l = .hot ∧ why = .tooWarm ∨
      open_ ∧ s.lineGate l ≠ .hot ∧ kind ≠ .prime ∧ c.account ≠ 0 ∧
        (s.placeHold c.account hold = .noAccount ∧ why = .noAccount ∨ s.placeHold c.account hold = .noCredit ∧ why = .noCredit)) :
    s.request l code = s.setShown l (some why) := by
  obtain ⟨water, first⟩ | ⟨hm, rfl, hwhy, reason⟩ | ⟨admits, hot, rfl⟩ | ⟨admits, gate, sale, account, answer⟩ := h
  · exact State.request_refused hc water first
  · obtain ⟨r, refusal, shown⟩ := State.primeRefusal_shown hwhy reason
    have run : s.startPriming l = .error r := by
      unfold State.startPriming
      rw [refusal]
    rw [State.request_water hm hc, run, ← shown]
  · have passed := hopen.mp admits
    rw [State.request_admits passed hc, State.judgeRequest, if_neg (by rw [passed.1]; decide), if_neg (by rw [idle]; decide),
      if_pos hot]
  · have passed := hopen.mp admits
    have dry : (s.line l).mode ≠ .water := by
      obtain ⟨-, ⟨hm, -⟩ | ⟨hm, -⟩⟩ := passed <;> rw [hm] <;> decide
    rw [if_neg dry] at hlatch
    obtain ⟨hkind, notClean, -, pour⟩ := State.requestPour_of_latches hlatch rfl rfl (decide (s.lineGate l = .warn))
    have account' := Pour.holdAccount_of_account (c := c) (target := target) (hold := hold) notClean (v := 0) (clamp := false)
      (warm := decide (s.lineGate l = .warn))
    rw [if_neg (not_or.mpr ⟨sale, account⟩)] at account'
    rw [State.request_admits passed hc, hkind, State.judgeRequest_open passed.1 idle gate pour, account']
    dsimp only
    obtain ⟨answer, rfl⟩ | ⟨answer, rfl⟩ := answer <;> rw [answer]

end

/-- Settles O40: the first failing check refuses; a pour whose checks pass meets the trunk draw in the state its line is in then. -/
theorem requestsAreAdmittedOrRefused : Obligations.RequestsAreAdmittedOrRefused := by
  unfold Obligations.RequestsAreAdmittedOrRefused
  intro s b word l r c next code d kind target hold m hears hp hasks hlatch
  obtain ⟨a, ⟨effective, -, -, asks⟩, u, run, heard, frame⟩ := State.slotEnd_hears hears
  obtain ⟨released, -, -, -, -, -, hc, -⟩ := hears
  have idle : s.pourIdle l = true := State.pourIdle_iff.mpr hp
  have requested : s.arrival l a = s.request l code := by
    unfold State.arrival
    rw [effective, if_neg hasks.1]
    dsimp only
    rw [if_pos idle, if_pos (asks.mpr hasks)]
  rw [requested] at frame
  refine ⟨fun why open_ hopen hwhy => ?_, fun p accounts hq hg hm hhold hpour => ?_⟩
  · rw [State.request_refuses hc idle hlatch hopen hwhy] at frame
    exact ⟨u, run, heard, frame⟩
  · obtain ⟨v, asked, rfl, cfg, primed, changed⟩ : ∃ v, s.request l code = v.judgeRequest l c kind ∧ m = v ∧
        (∀ k, (v.line k).cfg = (s.line k).cfg) ∧
        (v.line l).primed.getD 0 = (if (s.line l).mode = .water then 0 else (s.line l).primed.getD 0) ∧ v = { s with
          lineTable := { s.lineTable with lines := v.lineTable.lines }
          kegRegister := { s.kegRegister with kegs := v.kegRegister.kegs }
          valves := { s.valves with groups := v.valves.groups } } := by
      obtain ⟨passed, rfl⟩ | ⟨water, rfl, clear, tap, kegs, same, answer, prime⟩ := hm
      · have dry : (m.line l).mode ≠ .water := by
          obtain ⟨hm, -⟩ | ⟨hm, -⟩ := passed <;> rw [hm] <;> decide
        rw [if_neg dry] at hlatch ⊢
        obtain ⟨hkind, -⟩ := State.requestPour_of_latches hlatch rfl rfl true
        exact ⟨m, by rw [State.request_admits ⟨hq, passed⟩ hc, hkind], rfl, fun _ => rfl, rfl, rfl⟩
      · obtain ⟨v, run, cfg, primed, changed⟩ := State.startPriming_ok hq kegs hg clear tap
        obtain ⟨hkind, -⟩ := State.requestPour_of_latches hlatch (v := v) (l := l) (by rw [changed]) (by rw [primed, if_pos water]; rfl) true
        have command : exec (.linePrime l.val) s = .next (v.ok (byte Mode.priming.code)) := by
          refine (State.running_of_released (f := takeLinePrime l.val) released).trans (congrArg _ ?_)
          unfold takeLinePrime
          rw [readLine_val]
          dsimp only
          rw [water]
          dsimp only
          rw [run]
        have started : m = v := by
          rw [command] at prime
          have e := Host.Outcome.next.inj prime
          have e' := congrArg (fun x : State => ({ x with answer := s.answer } : State)) e
          have left : ({ v.ok (byte Mode.priming.code) with answer := s.answer } : State) = v := by rw [changed]; rfl
          have right : ({ ({ m with answer := answer } : State) with answer := s.answer } : State) = m := by rw [← same]
          exact right.symm.trans (e'.symm.trans left)
        refine ⟨v, ?_, started, cfg, by rw [primed, if_pos water]; rfl, changed⟩
        rw [State.request_water water hc, run, ← hkind]
        rfl
    obtain ⟨-, notClean, -, pour⟩ := State.requestPour_of_latches hlatch (v := m) (l := l) (by rw [changed]) primed
      (decide (s.lineGate l = .warn))
    rw [← hpour] at pour
    have pours : m.pourControl = s.pourControl := congrArg (·.pourControl) changed
    have table : m.accounts = s.accounts := congrArg (·.accounts) changed
    have slot : m.pour l = s.pour l := congrArg (fun x : PourControl => look x.pours l) pours
    have trunk : m.trunk c.trunk = s.trunk c.trunk := congrArg (fun x : PourControl => look x.trunks c.trunk) pours
    have gate : m.lineGate l = s.lineGate l := by
      unfold State.lineGate
      rw [cfg]
      have climate : m.climate = s.climate := congrArg (·.climate) changed
      simp only [State.zone, climate]
    have queued : m.queued l = false := by
      have cleaning : m.cleaning = s.cleaning := congrArg (·.cleaning) changed
      rw [State.queued, cleaning]
      exact hq
    have idle' : m.pourIdle l = true := by rw [State.pourIdle, slot]; exact idle
    have count : m.trunkPouring c.trunk = s.trunkPouring c.trunk := by
      have inTrunk (k : Line) : (m.line k).inTrunk c.trunk = (s.line k).inTrunk c.trunk := by rw [LineRec.inTrunk, LineRec.inTrunk, cfg]
      have records (k : Line) : m.pour k = s.pour k := congrArg (fun x : PourControl => look x.pours k) pours
      simp only [State.trunkPouring, inTrunk, records]
    have account := Pour.holdAccount_of_account (c := c) (target := target) (hold := hold) notClean (v := 0) (clamp := false)
      (warm := decide (s.lineGate l = .warn))
    rw [← hpour] at account
    have judged := State.judgeRequest_open (p := p) queued idle' (by rw [gate]; exact hg) (by rw [gate]; exact pour)
    obtain ⟨w, admitted, hw, given⟩ : ∃ w : State, m.judgeRequest l c kind = w.admitDraw l c.trunk p ∧
        w = { m with accounts := accounts } ∧ w.releasePour p = m := by
      obtain ⟨free, rfl⟩ | ⟨sale, open_, t, placed, rfl⟩ := hhold
      · rw [if_pos free] at account
        rw [account] at judged
        exact ⟨m, judged, by rw [← table], by rw [State.releasePour, account]⟩
      · rw [if_neg (not_or.mpr ⟨sale, open_⟩)] at account
        have amount : p.hold = hold := by rw [hpour]
        obtain ⟨-, -, covered⟩ := State.placeHold_congr table (id := c.account) (n := p.hold)
        obtain ⟨w, run, same⟩ := covered t (by rw [amount]; exact placed)
        obtain ⟨given, frame⟩ := State.releasePour_placed account run
        rw [account] at judged
        dsimp only at judged
        rw [run] at judged
        exact ⟨w, judged, by rw [← same]; exact frame, given⟩
    obtain ⟨pouring, waiting, full⟩ := State.admitDraw_spec (l := l) (tr := c.trunk) hw given
    rw [asked, admitted] at frame
    rw [count, trunk, pours, slot] at pouring waiting full
    refine ⟨u, run, heard, fun room => ?_, fun busy place => ?_, fun busy none => ?_⟩
    · rw [pouring room] at frame
      exact frame
    · rw [waiting busy place] at frame
      exact frame
    · rw [full busy none] at frame
      exact frame

end Sys2Proof.Machine
end

section
/-! PROOF. A climate window (R130 to R132, R135 to R137): the gates, the duties and the boost of window 0, the two stages, and the
pattern of VG16. -/

namespace Sys2Proof.Machine
open Sys2Proof.Laws

section
variable {s t u : State}

theorem State.evalGates_spec (s : State) : (∀ m, s.evalGates.zone m = (s.evalGate m).zone m ∧
      s.evalGates.link.attention.trunkHot.getLsbD m.val = (s.evalGate m).link.attention.trunkHot.getLsbD m.val) ∧
    Gated s s.evalGates := by
  obtain ⟨each, frame⟩ := State.foldl_evalGate (indices 6) (List.nodup_finRange 6) s
  have all (m : Trunk) : m ∈ indices 6 := List.mem_finRange m
  unfold State.evalGates
  refine ⟨fun m => ?_, frame⟩
  have once := each m
  rwa [if_pos (all m), if_pos (all m)] at once

/-- The duty that is due reads nothing that a gate evaluation writes. -/
theorem State.dutyDue_gated {m : Trunk} (h : Gated s t) {gate : Gate} {source : GateSource}
    (hz : t.zone m = { s.zone m with gate := gate, source := source }) : t.dutyDue m = s.dutyDue m := by
  have inputs : t.climate.inputs = s.climate.inputs := congrArg (·.climate.inputs) h
  have roles : t.climate.roles = s.climate.roles := congrArg (·.climate.roles) h
  have boost : t.climate.boost = s.climate.boost := congrArg (·.climate.boost) h
  unfold State.dutyDue
  rw [hz, Climate.gateValue_congr inputs roles, boost]

/-! ### Window 0 (R130, R131, R137) -/

/-- The boost after window 0 has counted one of its cycles (R137). -/
def Boost.counted (b : Boost) : Option Boost := if b.remaining ≤ 1 then none else some { b with remaining := b.remaining - 1 }

theorem State.countBoost_eq (s : State) : s.countBoost = s.setBoost (s.climate.boost.bind Boost.counted) := by
  unfold State.countBoost
  cases hb : s.climate.boost with
  | none => exact congrArg (fun x => ({ s with climate := { s.climate with boost := x } } : State)) hb
  | some b =>
    dsimp only
    rw [State.endBoost_eq, Option.bind_some, Boost.counted]
    have cycles : ((s.setBoost (some { b with remaining := b.remaining - 1 })).climate.boost.any fun b => b.remaining == 0) =
        decide (b.remaining ≤ 1) := by
      rw [show (s.setBoost (some { b with remaining := b.remaining - 1 })).climate.boost = some { b with remaining := b.remaining - 1 }
        from rfl, Option.any_some, beq_eq_decide]
      exact decide_eq_decide.mpr Nat.sub_eq_zero_iff_le
    simp only [cycles, decide_eq_true_eq]
    rfl

theorem State.windowDuty_spec (s : State) :
    (∀ m, s.windowDuty.zone m = { s.zone m with duty := if s.climate.window = 0 then s.dutyDue m else (s.zone m).duty }) ∧
    s.windowDuty = { s with climate := { s.climate with
      zones := s.windowDuty.climate.zones
      boost := if s.climate.window = 0 then s.climate.boost.bind Boost.counted else s.climate.boost } } := by
  unfold State.windowDuty
  by_cases h : s.climate.window = 0
  · simp only [if_pos h]
    obtain ⟨each, zoned⟩ := s.fixDuties_spec
    rw [State.countBoost_eq]
    refine ⟨each, ?_⟩
    generalize s.fixDuties = d at *
    have boost : d.climate.boost = s.climate.boost := congrArg (·.climate.boost) zoned
    rw [boost]
    have e := congrArg (fun x : State => x.setBoost (s.climate.boost.bind Boost.counted)) zoned
    exact e
  · simp only [if_neg h, implies_true, and_self]

/-! ### The stages (R130, R135, R136) -/

/-- What a window makes of a stage: counted, then decided. -/
def Chiller.windowed (c : Chiller) (x : Stage) (wanted : Bool) : Stage := c.switched { x with run := satCount 65535 x.run } wanted

/-- The stages of a window, decided by the climate as it stands. -/
theorem State.stages_spec (s : State) (n : Nat) : (s.countStages.decideStage1).decideStage2 n = s.setChiller { s.climate.chiller with
    stage1 := s.climate.chiller.windowed s.climate.chiller.stage1 s.climate.wanted1
    stage2 := s.climate.chiller.windowed s.climate.chiller.stage2 (s.climate.wanted2 n) } := by
  have first : s.countStages.climate.wanted1 = s.climate.wanted1 := rfl
  have second : (s.countStages.decideStage1).climate.wanted2 n = s.climate.wanted2 n := rfl
  unfold Chiller.windowed
  simp only [← Stage.decideSwitch_eq]
  rw [State.decideStage2, second, State.decideStage1, first]
  rfl

theorem Climate.wanted_congr {c d : Climate} (hi : d.inputs = c.inputs) (hr : d.roles = c.roles) (hc : d.chiller = c.chiller) (n : Nat) :
    d.wanted1 = c.wanted1 ∧ d.wanted2 n = c.wanted2 n := by
  simp only [Climate.wanted1, Climate.wanted2, Climate.reading_congr hi hr, Climate.bathFailed, Climate.assigned, hi, hr, hc, and_self]

/-! ### The pattern of VG16 (R130, R132) -/

theorem foldl_setBit_other (ts : List Trunk) (f : Trunk → Bool) (p : Pattern) {b : Fin 8} (h : ∀ t ∈ ts, t.val ≠ b.val) :
    (ts.foldl (fun p t => setBit p ⟨t.val, by omega⟩ (f t)) p).getLsbD b.val = p.getLsbD b.val := by
  induction ts generalizing p with
  | nil => rfl
  | cons t ts ih =>
    rw [List.foldl_cons, ih _ fun m hm => h m (List.mem_cons_of_mem _ hm), getLsbD_setBit, if_neg]
    exact fun e => h t (List.mem_cons_self ..) (congrArg Fin.val e).symm

theorem foldl_setBit_mem (ts : List Trunk) (hd : ts.Nodup) (f : Trunk → Bool) (p : Pattern) {t : Trunk} (ht : t ∈ ts) :
    (ts.foldl (fun p t => setBit p ⟨t.val, by omega⟩ (f t)) p).getLsbD t.val = f t := by
  induction ts generalizing p with
  | nil => cases ht
  | cons m ts ih =>
    obtain ⟨hm, hd⟩ := List.nodup_cons.mp hd
    rw [List.foldl_cons]
    rcases List.mem_cons.mp ht with rfl | ht
    · have here : t.val < 8 := by omega
      rw [foldl_setBit_other ts f _ (b := ⟨t.val, here⟩) fun m hm' e => hm (Fin.ext e ▸ hm')]
      exact (getLsbD_setBit _ ⟨t.val, here⟩ ⟨t.val, here⟩ _).trans (if_pos rfl)
    · exact ih hd _ ht

/-- The bits of the pattern: a glycol valve for each trunk, and the two stages. -/
theorem Climate.pattern_bits (c : Climate) : (∀ t : Trunk, c.pattern.getLsbD t.val = c.glycol t) ∧
    c.pattern.getLsbD 6 = c.chiller.stage1.on ∧ c.pattern.getLsbD 7 = c.chiller.stage2.on := by
  have far (b : Fin 8) (hb : 6 ≤ b.val) : ∀ t ∈ indices 6, t.val ≠ b.val := fun t _ => by omega
  refine ⟨fun t => foldl_setBit_mem _ (List.nodup_finRange 6) _ _ (List.mem_finRange t), ?_, ?_⟩
  · refine (foldl_setBit_other _ _ _ (far 6 (by decide))).trans ?_
    rw [getLsbD_setBit, if_neg (by decide)]
    exact (getLsbD_setBit 0 6 6 _).trans (if_pos rfl)
  · refine (foldl_setBit_other _ _ _ (far 7 (by decide))).trans ?_
    exact (getLsbD_setBit _ 7 7 _).trans (if_pos rfl)

/-! ### A window (R130) -/

/-- What a window leaves, in terms of the state that it found. -/
theorem State.takeWindow_spec (s : State) (hu : u = s.takeWindow s.partPouring) :
    u.climate.window = (s.climate.window + 1) % 16 ∧
    (∀ m : Trunk, u.zone m = { s.zone m with
        gate := ((s.evalGate m).zone m).gate, source := ((s.evalGate m).zone m).source, duty := (u.zone m).duty } ∧
      u.link.attention.trunkHot.getLsbD m.val = (s.evalGate m).link.attention.trunkHot.getLsbD m.val ∧
      (u.zone m).duty = (if u.climate.window = 0 then s.dutyDue m else (s.zone m).duty)) ∧
    u.climate.chiller = { s.climate.chiller with
      stage1 := s.climate.chiller.windowed s.climate.chiller.stage1 s.climate.wanted1
      stage2 := s.climate.chiller.windowed s.climate.chiller.stage2 (s.climate.wanted2 s.partPouring) } ∧
    u.climate.boost = (if u.climate.window = 0 then s.climate.boost.bind Boost.counted else s.climate.boost) ∧
    u.valve 16 = { s.valve 16 with next := u.climate.pattern } ∧ SameBut s.valves.groups u.valves.groups 16 ∧ Windowed s u := by
  have frame : Windowed s u := hu ▸ State.takeWindow_windowed _
  obtain ⟨a, ha⟩ : ∃ a, a = s.setWindow ((s.climate.window + 1) % 16) := ⟨_, rfl⟩
  obtain ⟨gates, gated⟩ := a.evalGates_spec
  obtain ⟨duties, dutied⟩ := a.evalGates.windowDuty_spec
  have run : u = ((a.evalGates.windowDuty.countStages.decideStage1).decideStage2 s.partPouring).writeClimate := by rw [hu, ha]; rfl
  rw [State.stages_spec] at run
  have zone (m : Trunk) : a.evalGates.zone m = (s.evalGate m).zone m ∧
      a.evalGates.link.attention.trunkHot.getLsbD m.val = (s.evalGate m).link.attention.trunkHot.getLsbD m.val := by
    obtain ⟨hz, hh⟩ := State.evalGate_congr (u := a) (s := s) (t := m) (by rw [ha]; rfl) (by rw [ha]; rfl) (by rw [ha]; rfl)
      (by rw [ha]; rfl)
    exact ⟨(gates m).1.trans hz, (gates m).2.trans hh⟩
  have due (m : Trunk) : a.evalGates.dutyDue m = s.dutyDue m := by
    rw [State.dutyDue_gated gated ((zone m).1.trans (by rw [State.evalGate_zone, show a.zone m = s.zone m by rw [ha]; rfl]))]
    rw [ha]
    rfl
  generalize a.evalGates = b at *
  have window : b.climate.window = (s.climate.window + 1) % 16 := by
    have e : b.climate.window = a.climate.window := congrArg (·.climate.window) gated
    rw [e, ha]
    rfl
  have boost : b.climate.boost = s.climate.boost := by
    have e : b.climate.boost = a.climate.boost := congrArg (·.climate.boost) gated
    rw [e, ha]
    rfl
  have chiller : b.windowDuty.climate.chiller = s.climate.chiller := by
    have e : b.climate.chiller = a.climate.chiller := congrArg (·.climate.chiller) gated
    rw [dutied, show b.climate.chiller = s.climate.chiller from e.trans (by rw [ha]; rfl)]
  have inputs : b.windowDuty.climate.inputs = s.climate.inputs := by
    have e : b.climate.inputs = a.climate.inputs := congrArg (·.climate.inputs) gated
    rw [dutied, show b.climate.inputs = s.climate.inputs from e.trans (by rw [ha]; rfl)]
  have roles : b.windowDuty.climate.roles = s.climate.roles := by
    have e : b.climate.roles = a.climate.roles := congrArg (·.climate.roles) gated
    rw [dutied, show b.climate.roles = s.climate.roles from e.trans (by rw [ha]; rfl)]
  obtain ⟨wanted1, wanted2⟩ := Climate.wanted_congr inputs roles chiller s.partPouring
  rw [chiller, wanted1, wanted2] at run
  have window' : u.climate.window = b.climate.window := by rw [run, dutied]; rfl
  have zone' (m : Trunk) : u.zone m = b.windowDuty.zone m := by rw [run]; rfl
  have groups : b.windowDuty.valves = s.valves := by
    have e : b.valves = a.valves := congrArg (·.valves) gated
    rw [dutied, show b.valves = s.valves from e.trans (by rw [ha]; rfl)]
  have attention : b.windowDuty.link = b.link := by rw [dutied]
  refine ⟨window'.trans window, fun m => ⟨?_, ?_, ?_⟩, by rw [run]; rfl, ?_, ?_, ?_, frame⟩
  · rw [zone', duties, (zone m).1, State.evalGate_zone]
  · rw [run, ← (zone m).2, ← attention]
    rfl
  · rw [zone', duties, due, window', (zone m).1, State.evalGate_zone]
  · rw [window', ← boost]
    rw [run, dutied]
    rfl
  · rw [run]
    refine (State.valve_setValve_same ..).trans ?_
    have same : b.windowDuty.valve 16 = s.valve 16 := congrArg (fun x : Valves => look x.groups 16) groups
    rw [← same]
    rfl
  · intro g hg
    rw [run, ← groups]
    exact look_put_ne _ _ _ _ hg

end

end Sys2Proof.Machine
end

section
/-! PROOF. The steps of a group (R146, R148, R149, R152, R153): the draws that a metered run asks, the heater of a soak, and the
decision of VERIFY. -/

namespace Sys2Proof.Machine
open Sys2Proof.Laws

section
variable {s t u : State} {g : Group} {l : Line}

/-! ### Asked draws (R61, R146) -/

/-- What the draw refusal of a line reads. -/
theorem State.drawRefusal_congr (h : Poured s t) (hp : t.pour l = s.pour l) : t.drawRefusal l = s.drawRefusal l := by
  have idle : t.pourIdle l = s.pourIdle l := congrArg (fun p => p.record == PourRec.idle) hp
  have rest : t.line = s.line ∧ t.loop = s.loop ∧ t.recv = s.recv ∧ t.lineGate = s.lineGate := by rw [h]; exact ⟨rfl, rfl, rfl, rfl⟩
  obtain ⟨line, loop, recv, gate⟩ := rest
  unfold State.drawRefusal
  rw [idle, line, loop, recv, gate]

/-- A draw is not refused on an idle line of a running loop that hears its faucet through a gate that is not HOT. -/
theorem State.drawRefusal_none {c : LineCfg} (mode : (s.line l).mode = .cleaning) (idle : (s.pour l).record = .idle)
    (hc : (s.line l).cfg = some c) (runs : (s.loop c.binding.loop).state ≠ .stopped)
    (heard : ∀ r, s.recv c.binding = some r → r.lost = false) (cool : (s.zone c.trunk).gate ≠ .hot) : s.drawRefusal l = none := by
  have lost : ((s.recv c.binding).any fun x => x.lost) = false := by
    cases hr : s.recv c.binding with
    | none => rfl
    | some r => exact heard r hr
  simp [State.drawRefusal, State.pourIdle, State.lineGate, LoopRec.isRunning, mode, idle, hc, runs, lost, cool]

theorem State.drawRefusal_runs {c : LineCfg} (hc : (s.line l).cfg = some c) (runs : (s.loop c.binding.loop).state ≠ .stopped) :
    s.drawRefusal l ≠ some .loopStopped := by
  have running : ((s.line l).cfg.any fun c => (s.loop c.binding.loop).isRunning) = true := by
    simpa [hc, LoopRec.isRunning] using runs
  simp only [State.drawRefusal, running]
  split
  · simp
  split
  · simp
  split
  · next h => cases h
  split
  · simp
  split <;> simp

/-- A CLEAN draw of a volume in mL, as it begins. -/
def PourRec.draw (volume : Nat) : PourRec := .pouring ⟨.clean, volume * 1000000, 0, none, 0, false, false⟩ 0 0 0

/-- What one step asks of one group line, and the line then (R146). -/
def State.askDraw (phase : Phase) (run : Nat) (s : State) (x : GroupLine) : State × GroupLine :=
  if x.owing = true ∧ x.draw = none then
    if s.drawRefusal x.line = none then (s.setRecord x.line (.draw (min x.owed 2000)), { x with draw := some (phase, run) })
    else if s.drawRefusal x.line = some .loopStopped then (s, { x with result := .failLoop })
    else (s, x)
  else (s, x)

theorem State.askDraws_cons (phase : Phase) (run : Nat) (s : State) (x : GroupLine) (xs : List GroupLine) :
    State.askDraws phase run s (x :: xs) = ((State.askDraws phase run (State.askDraw phase run s x).1 xs).1,
      (State.askDraw phase run s x).2 :: (State.askDraws phase run (State.askDraw phase run s x).1 xs).2) := by
  have due : (x.owing && x.draw.isNone) = true ↔ x.owing = true ∧ x.draw = none := by simp
  rw [State.askDraws, State.askDraw]
  by_cases h : x.owing = true ∧ x.draw = none
  · rw [if_pos (due.mpr h), if_pos h, State.issueDraw]
    cases hr : s.drawRefusal x.line with
    | none => rfl
    | some r => cases r <;> rfl
  · rw [if_neg fun e => h (due.mp e), if_neg h]

variable {phase : Phase} {run : Nat} {x : GroupLine}

theorem State.askDraw_idle (h : x.owing = false ∨ x.draw ≠ none) : State.askDraw phase run s x = (s, x) :=
  if_neg fun ⟨owing, draw⟩ => by
    obtain h | h := h
    · rw [h] at owing; cases owing
    · exact h draw

theorem State.askDraw_asks (owing : x.owing = true) (draw : x.draw = none) (free : s.drawRefusal x.line = none) :
    State.askDraw phase run s x = (s.setRecord x.line (.draw (min x.owed 2000)), { x with draw := some (phase, run) }) :=
  (if_pos ⟨owing, draw⟩).trans (if_pos free)

theorem State.askDraw_frame (phase : Phase) (run : Nat) (s : State) (x : GroupLine) : Poured s (State.askDraw phase run s x).1 ∧
    ∀ m, m ≠ x.line → (State.askDraw phase run s x).1.pour m = s.pour m := by
  unfold State.askDraw
  split
  · split
    · exact ⟨rfl, fun m hm => look_put_ne _ _ _ _ hm⟩
    · split <;> exact ⟨rfl, fun _ _ => rfl⟩
  · exact ⟨rfl, fun _ _ => rfl⟩

/-- A line that owes still owes after its draw is asked, unless its loop is stopped. -/
theorem State.askDraw_owes (owing : x.owing = true) (h : x.draw ≠ none ∨ s.drawRefusal x.line ≠ some .loopStopped) :
    (State.askDraw phase run s x).2.owing = true := by
  obtain draw | runs := h
  · rw [State.askDraw_idle (.inr draw)]; exact owing
  · unfold State.askDraw
    split
    · split <;> exact owing
    · exact owing

/-- The draws of a step: what is asked, and what is left alone. -/
structure Drawn (phase : Phase) (run : Nat) (s : State) (xs : List GroupLine) (r : State × List GroupLine) : Prop where
  frame : Poured s r.1
  others : ∀ l, (∀ x ∈ xs, x.line = l → x.owing = false ∨ x.draw ≠ none) → r.1.pour l = s.pour l
  asked : ∀ x ∈ xs, x.owing = true → x.draw = none → s.drawRefusal x.line = none →
    (r.1.pour x.line).record = .draw (min x.owed 2000) ∧ { x with draw := some (phase, run) } ∈ r.2
  owing : ∀ x ∈ xs, x.owing = true → (x.draw ≠ none ∨ s.drawRefusal x.line ≠ some .loopStopped) → ∃ y ∈ r.2, y.owing = true

theorem State.askDraws_drawn (phase : Phase) (run : Nat) (xs : List GroupLine) (hd : (xs.map GroupLine.line).Nodup) (s : State) :
    Drawn phase run s xs (State.askDraws phase run s xs) := by
  induction xs generalizing s with
  | nil => exact ⟨rfl, fun _ _ => rfl, fun x hx => absurd hx List.not_mem_nil, fun x hx => absurd hx List.not_mem_nil⟩
  | cons x xs ih =>
    obtain ⟨apart, hd⟩ := List.nodup_cons.mp hd
    have far : ∀ y ∈ xs, y.line ≠ x.line := fun y hy e => apart (e ▸ List.mem_map_of_mem hy)
    obtain ⟨first, keeps⟩ := State.askDraw_frame phase run s x
    obtain ⟨frame, others, asked, owing⟩ := ih hd (State.askDraw phase run s x).1
    have same : ∀ y ∈ xs, (State.askDraw phase run s x).1.drawRefusal y.line = s.drawRefusal y.line := fun y hy =>
      State.drawRefusal_congr first (keeps y.line (far y hy))
    rw [State.askDraws_cons]
    refine ⟨first.trans frame, fun l h => ?_, fun y hy owes draw free => ?_, fun y hy owes h => ?_⟩
    · refine (others l fun y hy => h y (List.mem_cons_of_mem _ hy)).trans ?_
      by_cases e : l = x.line
      · rw [State.askDraw_idle (h x (List.mem_cons_self ..) e.symm)]
      · exact keeps l e
    · rcases List.mem_cons.mp hy with rfl | hy
      · have run := State.askDraw_asks (phase := phase) (run := run) owes draw free
        have kept := others y.line fun z hz e => absurd e (far z hz)
        refine ⟨?_, List.mem_cons.mpr (.inl (by rw [run]))⟩
        rw [kept, run, State.setRecord_pour_same]
      · obtain ⟨record, mem⟩ := asked y hy owes draw ((same y hy).trans free)
        exact ⟨record, List.mem_cons_of_mem _ mem⟩
    · rcases List.mem_cons.mp hy with rfl | hy
      · exact ⟨_, List.mem_cons_self .., State.askDraw_owes owes h⟩
      · obtain ⟨z, hz, ho⟩ := owing y hy owes (by rwa [same y hy])
        exact ⟨z, List.mem_cons_of_mem _ hz, ho⟩

/-- A run in which some line still owes goes on (R147). -/
theorem State.settleRun_goes_on (h : ∃ x ∈ g.lines, x.owing = true) : s.settleRun g = s.setGroup (some g) :=
  if_neg fun e => by
    obtain ⟨-, done⟩ := Bool.and_eq_true_iff.mp e
    rw [Bool.not_eq_true', Group.anyOwing, List.any_eq_false] at done
    obtain ⟨x, hx, owing⟩ := h
    exact done x hx owing

/-! ### The step -/

/-- The state in which a group takes its step: TB2 has counted its period and the pump count is latched (R164). -/
def State.atStep (s : State) : State := (s.setChannel 2 (s.channel 2).atPeriod).latchPump

theorem State.atStep_eq (s : State) : s.atStep = { s with timebase := {
    channels := put s.timebase.channels 2 (s.channel 2).atPeriod, pump := 0, latchedPump := s.timebase.pump } } := rfl

theorem exec_step (released : s.resetHeld = false) :
    exec (.timebasePeriodEvent 2) s = .next (s.atStep.cleanStep s.timebase.pump).follow :=
  State.running_of_released (f := takeTimebasePeriodEvent 2) released

/-- No step is counted without a group, in TAKE and in RELEASE (R144; log entry 28). -/
theorem State.cleanStep_idle (n : Nat) (h : ∀ g, s.cleaning.group = some g → g.phase = .take ∨ g.phase = .release) :
    s.cleanStep n = s := by
  unfold State.cleanStep
  split
  · rfl
  · next g hg =>
    obtain hp | hp := h g hg
    · rw [hp]
    · rw [hp]

theorem State.cleanStep_metered (n : Nat) (hg : s.cleaning.group = some g)
    (hp : g.phase = .purge ∨ g.phase = .caustic ∨ g.phase = .rinse) : s.cleanStep n = s.meteredStep g n := by
  unfold State.cleanStep
  rw [hg]
  dsimp only
  obtain hp | hp | hp := hp <;> rw [hp]

theorem State.cleanStep_soak (n : Nat) (hg : s.cleaning.group = some g) (hp : g.phase = .soak) : s.cleanStep n = s.soakStep g n := by
  unfold State.cleanStep
  rw [hg]
  dsimp only
  rw [hp]

theorem State.cleanStep_verify (n : Nat) (hg : s.cleaning.group = some g) (hp : g.phase = .verify) :
    s.cleanStep n = s.verifyStep g n := by
  unfold State.cleanStep
  rw [hg]
  dsimp only
  rw [hp]

/-- A metered run as a step counts it, with the pump check (R149). -/
def Group.counted (g : Group) (pump minimum : Nat) : Group :=
  { g with
    steps := min (g.steps + 1) 65535, lastPump := pump
    lowPump := if min (g.steps + 1) 65535 < 4 then g.lowPump else if pump < minimum then g.lowPump + 1 else 0 }

theorem State.meteredStep_pump {n : Nat} (low : 5 ≤ (g.counted n s.cleaning.pumpMin).lowPump) :
    s.meteredStep g n = (s.setGroup (some (g.counted n s.cleaning.pumpMin))).pumpFailed := if_pos low

theorem State.meteredStep_timeout {n : Nat} (low : (g.counted n s.cleaning.pumpMin).lowPump < 5)
    (due : g.recipe.timeout ≤ (g.counted n s.cleaning.pumpMin).steps) :
    s.meteredStep g n = (s.setGroup (some (g.counted n s.cleaning.pumpMin))).runTimeout :=
  (if_neg (Nat.not_le.mpr low)).trans (if_pos due)

theorem State.meteredStep_draws {n : Nat} (low : (g.counted n s.cleaning.pumpMin).lowPump < 5)
    (early : (g.counted n s.cleaning.pumpMin).steps < g.recipe.timeout) :
    s.meteredStep g n = (s.setGroup (some (g.counted n s.cleaning.pumpMin))).stepDraws (g.counted n s.cleaning.pumpMin) :=
  (if_neg (Nat.not_le.mpr low)).trans (if_neg (Nat.not_le.mpr early))

/-! ### The heater of a soak (R152) -/

/-- What a soak's step leaves of its heater. -/
theorem State.decideHeater_spec (s : State) (hu : u = s.decideHeater g) :
    u.cleaning = { s.cleaning with group := some { g with
      heater := if g.recipe.warm = true then heaterNext g.heater g.recipe.target (s.climate.reading .solutionTemp) else g.heater } } ∧
    (∀ h, u.cleaning.group = some h → ∀ bit : Fin 8, (u.valve 17).next.getLsbD bit.val =
      if bit.val = 3 ∧ g.recipe.warm = true then h.heater else (s.valve 17).next.getLsbD bit.val) ∧
    SameBut s.valves.groups u.valves.groups 17 ∧ u.valve 17 = { s.valve 17 with next := (u.valve 17).next } ∧
    u = { s with cleaning := u.cleaning, valves := { s.valves with groups := u.valves.groups } } := by
  cases hw : g.recipe.warm with
  | false =>
    have run : s.decideHeater g = s.setGroup (some g) := if_neg (by rw [hw]; exact Bool.false_ne_true)
    rw [run] at hu
    subst hu
    refine ⟨rfl, fun h _ bit => ?_, fun _ _ => rfl, rfl, rfl⟩
    rw [if_neg fun ⟨_, e⟩ => by cases e]
    rfl
  | true =>
    have run : s.decideHeater g = (s.ask 17 3 (heaterNext g.heater g.recipe.target (s.climate.reading .solutionTemp))).setGroup
        (some { g with heater := heaterNext g.heater g.recipe.target (s.climate.reading .solutionTemp) }) := if_pos hw
    rw [run] at hu
    subst hu
    refine ⟨rfl, fun h hh bit => ?_, fun _ hj => look_put_ne _ _ _ _ hj, ?_, rfl⟩
    · obtain rfl := Option.some.inj hh
      have alone : partner 17 3 = none := by decide
      refine (State.getLsbD_ask 17 3 bit _).trans ?_
      rw [alone, if_neg fun ⟨_, e⟩ => by cases e]
      simp [Fin.ext_iff]
    · exact (State.ask_skidded s 3 _).next 17

/-! ### VERIFY (R153) -/

theorem GroupLine.markPass_eq : GroupLine.mark (· == .pending) .pass = fun x : GroupLine => { x with
    result := if x.result = .pending then .pass else x.result } := by
  funext x
  obtain ⟨l, held, r, owed, delivered, draw⟩ := x
  cases r <;> rfl

theorem GroupLine.markFailRinse_eq : GroupLine.mark GroupResult.openOrAborted .failRinse = fun x : GroupLine => { x with
    result := if x.result = .pending ∨ x.result = .aborted then .failRinse else x.result } := by
  funext x
  obtain ⟨l, held, r, owed, delivered, draw⟩ := x
  cases r <;> rfl

/-- A phase that leaves the climate writes the group and the valves alone. -/
theorem Phased.cool (h : Phased s t) (hc : t.climate = s.climate) : t = { s with
    cleaning := { s.cleaning with group := t.cleaning.group }, valves := { s.valves with groups := t.valves.groups } } := by
  have e : ({ s.climate with zones := t.climate.zones } : Climate) = s.climate := by rw [hc]
  exact Eq.trans h (congrArg (fun c : Climate => { s.phased t with climate := c }) e)

end

/-- Settles O52: a window by what it leaves, and a step by the phase that it finds. -/
theorem windowsAndStepsFollowTheTimebase : Obligations.WindowsAndStepsFollowTheTimebase := by
  unfold Obligations.WindowsAndStepsFollowTheTimebase
  intro s released
  refine ⟨?_, fun idle => ?_, fun g g' w hg hw => ⟨fun hp hg' => ?_, fun hp hg' => ?_, fun passed hp hg' hpass part => ?_⟩,
    fun g low hg hp hlow pumps early narrow hd owes modes => ?_⟩
  · have run : exec (.timebasePeriodEvent 1) s = .next (s.periodEvent 1).follow :=
      State.running_of_released (f := takeTimebasePeriodEvent 1) released
    obtain ⟨window, zones, chiller, boost, valve, others, frame⟩ :=
      (s.setChannel 1 (s.channel 1).atPeriod).takeWindow_spec (u := s.periodEvent 1) rfl
    refine ⟨_, run, ?_⟩
    generalize s.periodEvent 1 = u at *
    obtain ⟨glycol, first, second⟩ := u.climate.pattern_bits
    have next : (u.valve 16).next = u.climate.pattern := by rw [valve]
    rw [next]
    refine ⟨window, fun t => ?_, first, second, fun second wanted x hx hwant => ?_,
      fun h => ?_, fun h none => ?_, fun b h some => ?_, valve, others, frame⟩
    · obtain ⟨zone, hot⟩ := State.evalGate_congr (u := s.setChannel 1 (s.channel 1).atPeriod) (s := s) (t := t) rfl rfl rfl rfl
      obtain ⟨kept, bit, duty⟩ := zones t
      rw [zone] at kept
      rw [hot] at bit
      refine ⟨kept, bit, duty, ?_⟩
      rw [glycol]
      simp [Climate.glycol, State.zone]
    · subst hx
      cases second with
      | false =>
        obtain rfl : wanted = s.climate.wanted1 := Bool.eq_iff_iff.mpr (hwant.trans State.wanted1_iff.symm)
        rw [chiller]
        rfl
      | true =>
        obtain rfl : wanted = s.climate.wanted2 s.partPouring := Bool.eq_iff_iff.mpr (hwant.trans State.wanted2_iff.symm)
        rw [chiller]
        rfl
    · exact boost.trans (if_neg h)
    · exact (boost.trans (if_pos h)).trans (congrArg (Option.bind · Boost.counted) none)
    · exact (boost.trans (if_pos h)).trans (congrArg (Option.bind · Boost.counted) some)
  · exact (exec_step released).trans (congrArg (fun x : State => Host.Outcome.next x.follow) (s.atStep.cleanStep_idle _ idle))
  · have counted : g' = g.counted s.timebase.pump s.atStep.cleaning.pumpMin := hg'
    have state : w = s.atStep.setGroup (some (g.counted s.timebase.pump s.atStep.cleaning.pumpMin)) := by rw [hw, counted]; rfl
    have held : w.resetHeld = false := by rw [hw]; exact released
    have step := exec_step released
    rw [s.atStep.cleanStep_metered _ hg hp] at step
    rw [counted]
    refine ⟨fun five => ?_, fun below due => ?_⟩
    · rw [step, State.meteredStep_pump five, ← state]
      exact (State.running_of_released (f := takePumpFault) held).symm
    · rw [step, State.meteredStep_timeout below due, ← state]
      exact (State.running_of_released (f := takePhaseTimeout) held).symm
  · have held : w.resetHeld = false := by rw [hw]; exact released
    have step := exec_step released
    rw [s.atStep.cleanStep_soak _ hg hp] at step
    refine ⟨fun due => ?_, fun early => ?_⟩
    · have soaked : s.atStep.soakStep g s.timebase.pump = w.finishSoak := by
        rw [hw, hg']
        rw [hg'] at due
        exact if_pos due
      rw [step, soaked]
      exact (State.running_of_released (f := takeSoakEnd) held).symm
    · have soaked : s.atStep.soakStep g s.timebase.pump = s.atStep.decideHeater g' := by
        rw [hg']
        rw [hg'] at early
        exact if_neg (Nat.not_le.mpr early)
      rw [soaked] at step
      obtain ⟨cleaning, bits, others, pair, frame⟩ := State.decideHeater_spec (u := s.atStep.decideHeater g') s.atStep rfl
      refine ⟨_, step, ?_⟩
      generalize s.atStep.decideHeater g' = u at *
      have recipe : g'.recipe = g.recipe := by rw [hg']
      have heater : g'.heater = g.heater := by rw [hg']
      rw [recipe, heater] at cleaning
      rw [recipe] at bits
      refine ⟨?_, bits, others, pair, frame.trans (by rw [hw]; rfl), by rw [cleaning]; rfl⟩
      rw [cleaning, hg']
      rfl
  · have step := exec_step released
    have decided : s.atStep.verifyStep g s.timebase.pump =
        if cleanEnough (s.atStep.climate.reading .solutionCond) g.recipe.condMax then
          s.atStep.enterRelease (g'.mapLines (GroupLine.mark (· == .pending) .pass))
        else if g.run < g.recipe.passes then s.atStep.startRun g' .rinse (g.run + 1)
        else s.atStep.enterRelease (g'.mapLines (GroupLine.mark GroupResult.openOrAborted .failRinse)) := by rw [hg']; rfl
    rw [s.atStep.cleanStep_verify _ hg hp, decided] at step
    have notSoak : g'.phase ≠ .soak := by rw [hg', hp]; decide
    have clean : cleanEnough (s.atStep.climate.reading .solutionCond) g.recipe.condMax = true ↔ passed := cleanEnough_iff.trans hpass.symm
    have cool (u : State) (phased : Phased s.atStep u) (hc : u.climate = s.atStep.climate) : u = { w with
        cleaning := { s.cleaning with group := u.cleaning.group }
        valves := { s.valves with groups := u.valves.groups } } := (phased.cool hc).trans (by rw [hw]; rfl)
    by_cases h : passed
    · rw [if_pos (clean.mpr h), Group.mapLines, GroupLine.markPass_eq] at step
      obtain ⟨cleaning, skid, -, climate, phased⟩ := s.atStep.enterRelease_spec { g' with lines := g'.lines.map fun x => { x with
        result := if x.result = .pending then .pass else x.result } }
      refine ⟨_, step, fun _ => ⟨skid, ?_⟩, fun no => absurd h no, fun no => absurd h no, cool _ phased (climate notSoak)⟩
      rw [cleaning, hg']
    rw [if_neg fun e => h (clean.mp e)] at step
    by_cases again : g.run < g.recipe.passes
    · rw [if_pos again] at step
      have takes : g'.anyPart = true := Group.anyPart_iff.mpr (by rw [hg']; exact part)
      obtain ⟨cleaning, skid, climate, phased⟩ := s.atStep.startRun_spec takes .rinse (g.run + 1)
      refine ⟨_, step, fun yes => absurd yes h, fun _ _ => ⟨skid, ?_⟩, fun _ last => absurd again (by omega), cool _ phased climate⟩
      rw [cleaning, hg']
      rfl
    · rw [if_neg again, Group.mapLines, GroupLine.markFailRinse_eq] at step
      obtain ⟨cleaning, skid, -, climate, phased⟩ := s.atStep.enterRelease_spec { g' with lines := g'.lines.map fun x => { x with
        result := if x.result = .pending ∨ x.result = .aborted then .failRinse else x.result } }
      refine ⟨_, step, fun yes => absurd yes h, fun _ more => absurd more again, fun _ _ => ⟨skid, ?_⟩, cool _ phased (climate notSoak)⟩
      rw [cleaning, hg']
  · have step := exec_step released
    obtain ⟨k, hk⟩ : ∃ k, k = g.counted s.timebase.pump s.cleaning.pumpMin := ⟨_, rfl⟩
    have steps : k.steps = g.steps + 1 := by rw [hk]; exact Nat.min_eq_left (by omega)
    have counted : k = { g with steps := g.steps + 1, lastPump := s.timebase.pump, lowPump := low } := by
      have h : min (g.steps + 1) 65535 = g.steps + 1 := Nat.min_eq_left (by omega)
      rw [hk, Group.counted, h, hlow]
    have below : k.lowPump < 5 := by rw [counted]; exact pumps
    have soon : k.steps < g.recipe.timeout := by rw [steps]; exact early
    rw [s.atStep.cleanStep_metered _ hg hp, State.meteredStep_draws (hk ▸ below) (hk ▸ soon)] at step
    obtain ⟨frame, others, asked, owing⟩ := State.askDraws_drawn g.phase g.run g.lines hd (s.atStep.setGroup (some k))
    obtain ⟨r, hr⟩ : ∃ r, r = State.askDraws g.phase g.run (s.atStep.setGroup (some k)) g.lines := ⟨_, rfl⟩
    rw [← hr] at frame others asked owing
    obtain ⟨x, hx, xowes, xruns⟩ := owes
    have goes : ∃ y ∈ r.2, y.owing = true := owing x hx xowes (by
      obtain draw | runs := xruns
      · exact .inl draw
      · obtain ⟨-, cfg⟩ := modes x hx
        obtain ⟨c, hc⟩ := Option.ne_none_iff_exists'.mp cfg
        exact .inr (State.drawRefusal_runs (s := s.atStep.setGroup (some k)) hc (runs c hc)))
    have drawn : (s.atStep.setGroup (some k)).stepDraws k = r.1.setGroup (some { k with lines := r.2 }) := by
      have same : State.askDraws k.phase k.run (s.atStep.setGroup (some k)) k.lines = r := by rw [hr, counted]
      rw [State.stepDraws, same]
      exact State.settleRun_goes_on (g := { k with lines := r.2 }) goes
    rw [show g.counted s.timebase.pump s.atStep.cleaning.pumpMin = k from hk.symm, drawn] at step
    refine ⟨_, { k with lines := r.2 }, step, rfl, by rw [counted], fun y hy yowes draw idle free => ?_, fun l h => others l h, ?_⟩
    · obtain ⟨mode, cfg⟩ := modes y hy
      obtain ⟨c, hc⟩ := Option.ne_none_iff_exists'.mp cfg
      obtain ⟨runs, heard, cool⟩ := free c hc
      exact asked y hy yowes draw (State.drawRefusal_none (s := s.atStep.setGroup (some k)) mode idle hc runs heard cool)
    · have e := congrArg (fun x : State => x.setGroup (some { k with lines := r.2 })) frame
      exact e

end Sys2Proof.Machine
end

section
/-! PROOF. What the settlement of one pour leaves of every line (R58, R147): its configuration but for a learned tail, and its mode
and clean result once it is CLEANING, WATER or FOUL. -/

namespace Sys2Proof.Machine
open Sys2Proof.Laws

section
variable {s t u : State} {l m : Line} {g : Group}

/-! ### Configurations through the cleaning group -/

theorem State.releaseLine_cfg (s : State) (l : Line) (r : CleanResult) (m : Line) : ((s.releaseLine l r).line m).cfg = (s.line m).cfg := by
  unfold State.releaseLine
  dsimp only
  split
  · rw [State.changeLine_line]
    split
    · next h => rw [h]
    · rfl
  · rfl

theorem State.releaseGroup_cfg (s : State) (g : Group) (m : Line) : ((s.releaseGroup g).line m).cfg = (s.line m).cfg := by
  have each (xs : List GroupLine) (s : State) :
      ((xs.foldl (fun s x => s.releaseLine x.line x.result.toClean) s).line m).cfg = (s.line m).cfg := by
    induction xs generalizing s with
    | nil => rfl
    | cons x xs ih => exact (ih _).trans (s.releaseLine_cfg ..)
  rw [State.releaseGroup_eq]
  exact each g.lines s

theorem State.considerRelease_cfg (s : State) (m : Line) : (s.considerRelease.line m).cfg = (s.line m).cfg := by
  unfold State.considerRelease
  split
  · split
    · exact s.releaseGroup_cfg ..
    · rfl
  · rfl

theorem State.line_congr (h : t.lineTable = s.lineTable) (m : Line) : t.line m = s.line m := congrArg (fun x : LineTable => look x.lines m) h

theorem State.abandon_cfg (s : State) (g : Group) (m : Line) : ((s.abandon g).line m).cfg = (s.line m).cfg := by
  obtain ⟨-, -, -, -, lines, -⟩ := s.abandon_spec (g := g) (ls := g.lines) rfl
  rw [State.line_congr lines]
  exact s.reportLoss_cfg g m

theorem State.endRun_cfg (s : State) (g : Group) (m : Line) : ((s.endRun g).line m).cfg = (s.line m).cfg := by
  have start (s : State) (g : Group) (phase : Phase) (run : Nat) : ((s.startRun g phase run).line m).cfg = (s.line m).cfg := by
    by_cases part : g.anyPart = true
    · obtain ⟨-, -, -, phased⟩ := s.startRun_spec part phase run
      rw [State.line_congr phased.tables.1]
    · rw [show s.startRun g phase run = s.abandon g from if_neg part]
      exact s.abandon_cfg g m
  by_cases part : g.anyPart = true
  · by_cases hp : g.phase = .purge ∨ g.phase = .caustic ∨ g.phase = .rinse
    · obtain ⟨h, -, ⟨-, -, -, kept, -⟩, -⟩ := s.endRun_spec (g := g) (ls := g.lines) rfl hp (Group.anyPart_iff.mp part)
      by_cases purge : g.phase = .purge
      · have run : s.endRun g = (s.reportLoss g).startRun { g with lossReported := true } .caustic 1 := by
          unfold State.endRun
          rw [if_pos part, purge]
        rw [run, start]
        exact s.reportLoss_cfg g m
      · rw [State.line_congr (kept purge).1]
    · have run : s.endRun g = s.setGroup (some g) := by
        unfold State.endRun
        rw [if_pos part]
        cases h : g.phase <;> simp [h] at hp ⊢
      rw [run]; rfl
  · rw [show s.endRun g = s.abandon g from if_neg part]
    exact s.abandon_cfg g m

theorem State.drawSettled_cfg (s : State) (l : Line) (n : Nat) (m : Line) : ((s.drawSettled l n).line m).cfg = (s.line m).cfg := by
  unfold State.drawSettled
  split
  · rfl
  · rw [State.considerRelease_cfg]
    unfold State.settleRun
    split
    · exact s.endRun_cfg ..
    · rfl

/-! ### Lines at rest -/

/-- A line with no keg on tap that is not being primed. -/
def LineRec.Rests (r : LineRec) : Prop := r.mode = .cleaning ∨ r.mode = .water ∨ r.mode = .foul

/-- The mode and the clean result of a line at rest stay. -/
def SameRest (s t : State) (l : Line) : Prop :=
  (s.line l).Rests → (t.line l).mode = (s.line l).mode ∧ (t.line l).cleanResult = (s.line l).cleanResult

theorem SameRest.of_line (h : t.line l = s.line l) : SameRest s t l := fun _ => by rw [h]; exact ⟨rfl, rfl⟩

theorem SameRest.trans (h : SameRest s t l) (k : SameRest t u l) : SameRest s u l := fun rests => by
  obtain ⟨mode, result⟩ := h rests
  obtain ⟨mode', result'⟩ := k (by rw [LineRec.Rests, mode]; exact rests)
  exact ⟨mode'.trans mode, result'.trans result⟩

theorem State.kegReport_rests (h : (s.line l).Rests) (q : Option Position) : s.kegReport l q = s := by
  have apart : (s.line l).mode ≠ .ready ∧ (s.line l).mode ≠ .priming ∧ (s.line l).mode ≠ .held := by
    obtain h | h | h := h <;> rw [h] <;> decide
  obtain ⟨ready, priming, held⟩ := apart
  cases q with
  | none => simp [State.kegReport, ready, priming, held]
  | some p => simp [State.kegReport, ready, priming, held]

theorem State.settlePrime_rests (h : (s.line l).Rests) (n loss : Nat) : s.settlePrime l n loss = s := by
  unfold State.settlePrime
  dsimp only
  split
  · next priming _ _ =>
    rw [LineRec.Rests, priming] at h
    obtain h | h | h := h <;> cases h
  · rfl

theorem State.spend_rests (h : (s.line l).Rests) (p : Position) : (s.spend l p).line l = s.line l := by
  have spent : (((s.setKegState l p .spent).askSelector l p false).raise .kegSpent l).line l = s.line l := by
    rw [State.setKegState_frame]; rfl
  generalize e : ((s.setKegState l p .spent).askSelector l p false).raise .kegSpent l = t at spent
  rw [State.spend, e, State.changeover]
  split
  · next q _ =>
    have tapped : ((t.setKegState l q .onTap).askSelector l q true).line l = t.line l := by rw [State.setKegState_frame]; rfl
    rw [State.kegReport_rests (by rw [tapped, spent]; exact h), tapped, spent]
  · rw [State.kegReport_rests (by rw [spent]; exact h), spent]

theorem State.settleLowFlow_rests (s : State) (l : Line) (p : Pour) (r : CloseReason) : SameRest s (s.settleLowFlow l p r) l := by
  intro h
  have same : (s.settleLowFlow l p r).line l = s.line l := by
    unfold State.settleLowFlow State.lowFlowReport
    split
    · split
      · rfl
      · split
        · rfl
        · dsimp only
          split
          · exact State.spend_rests (s := State.setKeg s l _ _) h _
          · rfl
    · rfl
  rw [same]
  exact ⟨rfl, rfl⟩

theorem State.settleShares_rests (s : State) (l : Line) (p : Pour) (r : CloseReason) (n : Nat) : SameRest s (s.settleShares l p r n) l := by
  intro h
  have keg (a : Amounts) : (s.kegSettled l a r n).line l = s.line l := by
    obtain ⟨-, -, -, frame⟩ := s.kegSettled_spec l a r n
    exact State.line_congr (congrArg (·.lineTable) frame) l
  unfold State.settleShares
  split
  · exact ⟨rfl, rfl⟩
  · rw [State.settlePrime_rests (by rw [keg]; exact h), keg]
    exact ⟨rfl, rfl⟩
  · rw [State.addPour, State.line_setLine_same, keg]
    exact ⟨rfl, rfl⟩

/-- The settlement of a sale or of a PRIME draw, of a line at rest. -/
theorem State.settledBy_rests {p : Pour} (hk : p.kind ≠ .clean) (s : State) (l : Line) (v : Nat) (r : CloseReason) (e : Ending) :
    SameRest s (s.settledBy l p v r e) l := by
  have teach : SameRest s (s.teach l p r e (p.v - v)) l := fun _ => by rw [State.teach_line]; exact ⟨rfl, rfl⟩
  rw [State.settledBy, State.settleClean_idle hk]
  refine ((teach.trans (.of_line ?_)).trans (State.settleShares_rests _ _ _ _ _)).trans (State.settleLowFlow_rests _ _ _ _)
  exact State.line_congr (State.settleAccount_tables ..).1 l

end

end Sys2Proof.Machine
end

section
/-! PROOF. The end of every pour on a loop (R57, R116, R159): the fold of the ends at once, and what it leaves of each record, of
each wait queue, and of the cleaning group. -/

namespace Sys2Proof.Machine
open Sys2Proof.Laws

section
variable {s t u : State} {l m : Line} {g : Group} {why : CloseReason}

/-! ### One end at once -/

/-- How an end at once comes about: nothing, a withdrawal, or a settlement. -/
theorem State.endAtOnce_cases (s : State) (l : Line) (why : CloseReason) :
    (s.pour l).record = .idle ∧ s.endAtOnce l why = s ∨
    (∃ p n, (s.pour l).record = .waiting p n ∧ s.endAtOnce l why = s.withdraw l) ∨
    (∃ p v r, (s.pour l).record.pour = some p ∧ 2 ≤ (s.pour l).record.code ∧ s.endAtOnce l why = s.settle l p v r .immediate) := by
  cases hp : (s.pour l).record with
  | idle => exact .inl ⟨rfl, by rw [State.endAtOnce, hp]⟩
  | waiting p n => exact .inr (.inl ⟨p, n, rfl, by rw [State.endAtOnce, hp]⟩)
  | pouring p n bf bp => exact .inr (.inr ⟨p, p.v, why, rfl, Nat.le_refl 2, by rw [State.endAtOnce, hp]⟩)
  | tailing p n v r q k => exact .inr (.inr ⟨p, v, r, rfl, Nat.le_succ 2, by rw [State.endAtOnce, hp]⟩)

theorem State.endAtOnce_tapLoops (s : State) (l : Line) (why : CloseReason) : (s.endAtOnce l why).tapLoops = s.tapLoops :=
  congrArg (·.tapLoops) (State.endAtOnce_worked (s := s) (l := l) why)

/-- Ends at once put no line into a queue. -/
theorem State.endAtOnce_queue (tr : Trunk) (h : m ∉ (s.trunk tr).queue) : m ∉ ((s.endAtOnce l why).trunk tr).queue := by
  obtain ⟨-, run⟩ | ⟨p, n, hp, run⟩ | ⟨p, v, r, -, -, run⟩ := s.endAtOnce_cases l why
  · rw [run]; exact h
  · rw [run]
    cases hc : (s.line l).cfg with
    | some c =>
      rw [State.withdraw_of_waiting hp hc]
      by_cases e : tr = c.trunk
      · subst e
        simp only [State.trunk, look_put_same, List.mem_filter, not_and]
        exact fun hm => absurd hm h
      · simpa only [State.trunk, look_put_ne _ _ _ _ e] using h
    | none =>
      have leaves : s.leaveQueue l = s := by unfold State.leaveQueue; rw [hc]
      have trunks : (s.withdraw l).pourControl.trunks = s.pourControl.trunks := by
        unfold State.withdraw
        rw [hp, leaves]
        exact congrArg (·.pourControl.trunks) (s.releasePour_frame p)
      rw [State.trunk, trunks]; exact h
  · obtain ⟨-, -, frame⟩ := s.settle_pour l p v r .immediate
    have trunks : (s.settle l p v r .immediate).pourControl.trunks = s.pourControl.trunks := congrArg (·.pourControl.trunks) frame
    rw [run, State.trunk, trunks]; exact h

/-- An end at once leaves each line's trunk. -/
theorem State.endAtOnce_trunk (s : State) (l : Line) (why : CloseReason) (m : Line) :
    ((s.endAtOnce l why).line m).cfg.map LineCfg.trunk = (s.line m).cfg.map LineCfg.trunk := by
  obtain ⟨-, run⟩ | ⟨p, n, hp, run⟩ | ⟨p, v, r, -, -, run⟩ := s.endAtOnce_cases l why
  · rw [run]
  · rw [run, State.withdraw_frame]; rfl
  · rw [run]
    by_cases hk : p.kind = .clean
    · obtain ⟨lines, -⟩ := State.settle_tables (rfl : s.settle l p v r .immediate = _)
      rw [State.line_congr lines, State.settledBy_clean hk, State.drawSettled_cfg]
    · obtain ⟨settled, cfg⟩ := State.settle_settled hk (rfl : s.settle l p v r .immediate = _)
      by_cases e : m = l
      · rw [e, cfg, Option.map_map]; rfl
      · rw [show (s.settle l p v r .immediate).line m = s.line m from settled.lines m e]

/-- An end at once with no group active leaves the group, every other line, and its own line where that is at rest. -/
theorem State.endAtOnce_ungrouped (hg : s.cleaning.group = none) : (s.endAtOnce l why).cleaning = s.cleaning ∧
    (∀ m, m ≠ l → (s.endAtOnce l why).line m = s.line m ∧ (s.endAtOnce l why).kegSlots m = s.kegSlots m) ∧
    SameRest s (s.endAtOnce l why) l := by
  obtain ⟨-, run⟩ | ⟨p, n, hp, run⟩ | ⟨p, v, r, -, -, run⟩ := s.endAtOnce_cases l why
  · rw [run]; exact ⟨rfl, fun _ _ => ⟨rfl, rfl⟩, .of_line rfl⟩
  · rw [run, State.withdraw_frame]; exact ⟨rfl, fun _ _ => ⟨rfl, rfl⟩, .of_line rfl⟩
  · rw [run]
    obtain ⟨lines, kegs, -, -, cleaning, -⟩ := State.settle_tables (rfl : s.settle l p v r .immediate = _)
    by_cases hk : p.kind = .clean
    · have idle : s.settledBy l p v r .immediate = s := by rw [State.settledBy_clean hk, State.drawSettled, hg]
      rw [idle] at lines kegs cleaning
      exact ⟨cleaning, fun m _ => ⟨State.line_congr lines m, congrArg (fun x : KegRegister => look x.kegs m) kegs⟩,
        .of_line (State.line_congr lines l)⟩
    · obtain ⟨settled, -⟩ := State.settle_settled hk (rfl : s.settle l p v r .immediate = _)
      refine ⟨congrArg (·.cleaning) settled.frame, fun m hm => ⟨settled.lines m hm, settled.kegs m hm⟩, ?_⟩
      exact (State.settledBy_rests hk s l v r .immediate).trans (.of_line (State.line_congr lines l))

/-! ### Every pour of a loop -/

/-- The end of every pour on a list of lines. -/
def State.endAll (s : State) (ls : List Line) (why : CloseReason) : State := ls.foldl (fun s l => s.endAtOnce l why) s

theorem State.endAll_cons (s : State) (l : Line) (ls : List Line) (why : CloseReason) :
    s.endAll (l :: ls) why = (s.endAtOnce l why).endAll ls why := rfl

/-- What a record and its summary are after an end at once (R57). -/
structure PourSlot.Ends (a b : PourSlot) (why : CloseReason) : Prop where
  record : b.record = .idle
  shown : b.shown = a.shown
  idle : a.record = .idle → b.last = a.last
  waiting : ∀ (p : Pour) (n : Nat), a.record = .waiting p n → b.last = a.last
  pouring : ∀ (p : Pour) (n bf bp : Nat), a.record = .pouring p n bf bp → ∃ x : Settlement, b.last = some x ∧
    x.kind = p.kind ∧ x.reason = why ∧ x.ending = .immediate ∧ x.vml = (p.v + 500000) / 1000000 ∧ x.measured = 0
  tailing : ∀ (p : Pour) (n v : Nat) (c : CloseReason) (q k : Nat), a.record = .tailing p n v c q k →
    ∃ x : Settlement, b.last = some x ∧ x.kind = p.kind ∧ x.reason = c ∧ x.ending = .immediate ∧
      x.vml = (p.v + 500000) / 1000000 ∧ x.measured = p.v - v

theorem State.endAtOnce_ends (s : State) (l : Line) (why : CloseReason) : (s.pour l).Ends ((s.endAtOnce l why).pour l) why := by
  obtain ⟨record, shown, unsettled, -, pouring, tailing, -⟩ := s.endAtOnce_ended l why
  exact ⟨record, shown, fun h => (unsettled (.inl h)).1, fun p n h => (unsettled (.inr ⟨p, n, h⟩)).1, pouring, tailing⟩

/-- A record that has ended stays as it is. -/
theorem PourSlot.Ends.again {a b c : PourSlot} (h : a.Ends b why) (k : b.Ends c why) : a.Ends c why := by
  have last : c.last = b.last := k.idle h.record
  obtain ⟨-, shown, idle, waiting, pouring, tailing⟩ := h
  exact ⟨k.record, k.shown.trans shown, fun e => last.trans (idle e), fun p n e => last.trans (waiting p n e),
    fun p n bf bp e => by rw [last]; exact pouring p n bf bp e, fun p n v c q k e => by rw [last]; exact tailing p n v c q k e⟩

theorem State.endAll_pours (ls : List Line) (s : State) (why : CloseReason) :
    (∀ l ∈ ls, (s.pour l).Ends ((s.endAll ls why).pour l) why) ∧ (∀ l, l ∉ ls → (s.endAll ls why).pour l = s.pour l) := by
  induction ls generalizing s with
  | nil => exact ⟨fun l hl => absurd hl List.not_mem_nil, fun _ _ => rfl⟩
  | cons x xs ih =>
    obtain ⟨each, others⟩ := ih (s.endAtOnce x why)
    obtain ⟨-, -, -, -, -, -, pours⟩ := s.endAtOnce_ended x why
    rw [State.endAll_cons]
    refine ⟨fun l hl => ?_, fun l hl => ?_⟩
    · by_cases e : l = x
      · subst e
        have first := s.endAtOnce_ends l why
        by_cases mem : l ∈ xs
        · exact first.again (each l mem)
        · rw [others l mem]; exact first
      · have same : (s.endAtOnce x why).pour l = s.pour l := pours l e
        rw [← same]
        exact each l (List.mem_of_ne_of_mem e hl)
    · obtain ⟨e, mem⟩ := not_or.mp (mt List.mem_cons.mpr hl)
      exact (others l mem).trans (pours l e)

theorem State.endAll_tapLoops (ls : List Line) (s : State) (why : CloseReason) : (s.endAll ls why).tapLoops = s.tapLoops := by
  induction ls generalizing s with
  | nil => rfl
  | cons x xs ih => exact (ih _).trans (s.endAtOnce_tapLoops x why)

theorem State.endAll_queue (ls : List Line) (s : State) (tr : Trunk) (h : m ∉ (s.trunk tr).queue) :
    m ∉ ((s.endAll ls why).trunk tr).queue := by
  induction ls generalizing s with
  | nil => exact h
  | cons x xs ih => exact ih _ (State.endAtOnce_queue tr h)

/-- A WAITING pour leaves the queue of its line's trunk. -/
theorem State.endAll_withdraws (ls : List Line) (s : State) (hl : l ∈ ls) {p : Pour} {n : Nat} (hp : (s.pour l).record = .waiting p n)
    {tr : Trunk} (ht : (s.line l).cfg.map LineCfg.trunk = some tr) : l ∉ ((s.endAll ls why).trunk tr).queue := by
  induction ls generalizing s with
  | nil => exact absurd hl List.not_mem_nil
  | cons x xs ih =>
    obtain ⟨-, -, -, waiting, -, -, pours⟩ := s.endAtOnce_ended x why
    by_cases e : l = x
    · subst e
      obtain ⟨c, hc, rfl⟩ := Option.map_eq_some_iff.mp ht
      exact State.endAll_queue xs _ _ ((waiting p n hp).1 c hc)
    · have same : (s.endAtOnce x why).pour l = s.pour l := pours l e
      exact ih _ (List.mem_of_ne_of_mem e hl) (by rw [same]; exact hp) ((s.endAtOnce_trunk x why l).trans ht)

theorem State.endAll_idle (ls : List Line) (s : State) (h : ∀ l ∈ ls, (s.pour l).record = .idle) : s.endAll ls why = s := by
  induction ls with
  | nil => rfl
  | cons x xs ih =>
    have run : s.endAtOnce x why = s := by rw [State.endAtOnce, h x (List.mem_cons_self ..)]
    rw [State.endAll_cons, run]
    exact ih fun l hl => h l (List.mem_cons_of_mem _ hl)

theorem State.endAll_ungrouped (ls : List Line) (s : State) (hg : s.cleaning.group = none) :
    (s.endAll ls why).cleaning = s.cleaning ∧
    (∀ m, m ∉ ls → (s.endAll ls why).line m = s.line m ∧ (s.endAll ls why).kegSlots m = s.kegSlots m) ∧
    ∀ m, SameRest s (s.endAll ls why) m := by
  induction ls generalizing s with
  | nil => exact ⟨rfl, fun _ _ => ⟨rfl, rfl⟩, fun _ => .of_line rfl⟩
  | cons x xs ih =>
    obtain ⟨cleaning, others, own⟩ := State.endAtOnce_ungrouped (l := x) (why := why) hg
    obtain ⟨cleaning', others', rest⟩ := ih (s.endAtOnce x why) (by rw [cleaning]; exact hg)
    refine ⟨cleaning'.trans cleaning, fun m hm => ?_, fun m => ?_⟩
    · obtain ⟨e, mem⟩ := not_or.mp (mt List.mem_cons.mpr hm)
      obtain ⟨line, kegs⟩ := others m e
      obtain ⟨line', kegs'⟩ := others' m mem
      exact ⟨line'.trans line, kegs'.trans kegs⟩
    · refine SameRest.trans ?_ (rest m)
      by_cases e : m = x
      · rw [e]; exact own
      · exact .of_line (others m e).1

end

end Sys2Proof.Machine
end

section
/-! PROOF. The active group through the end of every pour of a loop (R147, R155, R156, R159). -/

namespace Sys2Proof.Machine
open Sys2Proof.Laws

section
variable {s t u : State} {l m : Line} {g : Group} {why : CloseReason} {ls : List Line}

/-! ### Results through the end of a run (R151, R156) -/

/-- What a result has become when a run has ended: weak caustic marks the open and the aborted ones. -/
def GroupResult.Becomes (a b : GroupResult) : Prop := b = a ∨ (a = .pending ∨ a = .aborted) ∧ b = .failWeak

theorem GroupResult.Becomes.takesPart {a b : GroupResult} (h : a.Becomes b) (ha : a.takesPart = true) : b.takesPart = true := by
  obtain rfl | ⟨-, rfl⟩ := h
  · exact ha
  · rfl

theorem GroupResult.Becomes.failLoop {b : GroupResult} (h : GroupResult.failLoop.Becomes b) : b = .failLoop := by
  obtain h | ⟨h | h, -⟩ := h
  · exact h
  · cases h
  · cases h

/-- Each line of `xs` is in `ys`, with a result that its own has become. -/
def GoOn (xs ys : List GroupLine) : Prop := ∀ x ∈ xs, ∃ y ∈ ys, y.line = x.line ∧ x.result.Becomes y.result

theorem GoOn.refl (xs : List GroupLine) : GoOn xs xs := fun x hx => ⟨x, hx, rfl, .inl rfl⟩

theorem GoOn.map {f : GroupLine → GroupLine} (h : ∀ x, (f x).line = x.line ∧ x.result.Becomes (f x).result) (xs : List GroupLine) :
    GoOn xs (xs.map f) := fun x hx => ⟨f x, List.mem_map_of_mem hx, h x⟩

theorem State.owing_goOn (s : State) (n : Nat) (xs : List GroupLine) : GoOn xs (s.owing n xs) := by
  refine GoOn.map ?_ xs
  exact fun _ => ⟨rfl, .inl rfl⟩

theorem goOn_of_runEnds {h : Group} (hp : g.phase = .purge ∨ g.phase = .caustic ∨ g.phase = .rinse)
    (ends : RunEnds s t g g.lines h) : GoOn g.lines h.lines := by
  obtain ⟨purge, rinse, caustic, -, -⟩ := ends
  obtain hp | hp | hp := hp
  · rw [(purge hp).2]; exact s.owing_goOn _ _
  · obtain ⟨strong, first, second⟩ := caustic _ hp Iff.rfl
    by_cases hs : ∃ f : Int, s.climate.reading .solutionCond = some f ∧ (g.recipe.condMin : Int) ≤ f
    · rw [(strong hs).1]; exact .refl _
    · by_cases h1 : g.run = 1
      · rw [(first hs h1).2.2]; exact s.owing_goOn _ _
      · rw [(second hs h1).2.2, State.owing, List.map_map]
        refine GoOn.map ?_ _
        refine fun x => ⟨rfl, ?_⟩
        by_cases e : x.result = .pending ∨ x.result = .aborted
        · exact .inr ⟨e, if_pos e⟩
        · exact .inl (if_neg e)
  · rw [(rinse hp).2]; exact .refl _

/-- A group with a line that takes part, before RELEASE, is settled into such a group. -/
theorem State.settleRun_goOn (s : State) (hp : g.phase ≠ .release) (part : ∃ x ∈ g.lines, x.result.takesPart = true) :
    ∃ h, (s.settleRun g).cleaning.group = some h ∧ h.phase ≠ .release ∧ GoOn g.lines h.lines := by
  unfold State.settleRun
  split
  · next due =>
    have metered := Phase.metered_iff.mp (Bool.and_eq_true_iff.mp due).1
    obtain ⟨h, group, ends, -⟩ := s.endRun_spec (g := g) (ls := g.lines) rfl metered part
    exact ⟨h, congrArg (·.group) group, phase_of_runEnds metered ends, goOn_of_runEnds metered ends⟩
  · exact ⟨g, rfl, hp, .refl _⟩

/-! ### A line that takes part, before RELEASE -/

/-- A group before RELEASE in which the line takes part. -/
def State.TakesPart (s : State) (l : Line) : Prop :=
  ∃ g, s.cleaning.group = some g ∧ g.phase ≠ .release ∧ ∃ x ∈ g.lines, x.line = l ∧ x.result.takesPart = true

theorem GroupLine.drawSettled_same (g : Group) (l : Line) (n : Nat) (x : GroupLine) :
    (x.drawSettled g l n).line = x.line ∧ (x.drawSettled g l n).result = x.result := by
  unfold GroupLine.drawSettled
  split
  · split <;> exact ⟨rfl, rfl⟩
  · exact ⟨rfl, rfl⟩

theorem State.TakesPart.drawSettled (h : s.TakesPart m) (l : Line) (n : Nat) : (s.drawSettled l n).TakesPart m := by
  obtain ⟨g, hg, hp, x, hx, hl, takes⟩ := h
  obtain ⟨line, result⟩ := x.drawSettled_same g l n
  have mem : x.drawSettled g l n ∈ (g.mapLines (GroupLine.drawSettled g l n)).lines := List.mem_map_of_mem hx
  obtain ⟨k, hk, hkp, goes⟩ := s.settleRun_goOn (g := g.mapLines (GroupLine.drawSettled g l n)) hp
    ⟨_, mem, by rw [result]; exact takes⟩
  have run : s.drawSettled l n = s.settleRun (g.mapLines (GroupLine.drawSettled g l n)) := by
    rw [State.drawSettled, hg]
    refine State.considerRelease_of_phase _ fun j hj => ?_
    rw [hk] at hj
    cases hj
    exact hkp
  obtain ⟨y, hy, yl, becomes⟩ := goes _ mem
  rw [run]
  exact ⟨k, hk, hkp, y, hy, yl.trans (line.trans hl), becomes.takesPart (by rw [result]; exact takes)⟩

theorem State.TakesPart.of_cleaning (h : t.cleaning = s.cleaning) (k : s.TakesPart m) : t.TakesPart m := by
  rw [State.TakesPart, h]; exact k

theorem State.TakesPart.endAtOnce (h : s.TakesPart m) (l : Line) (why : CloseReason) : (s.endAtOnce l why).TakesPart m := by
  obtain ⟨-, run⟩ | ⟨p, n, hp, run⟩ | ⟨p, v, r, -, -, run⟩ := s.endAtOnce_cases l why
  · rw [run]; exact h
  · rw [run, State.withdraw_frame]; exact h
  · rw [run]
    by_cases hk : p.kind = .clean
    · obtain ⟨-, -, -, -, cleaning, -⟩ := State.settle_tables (rfl : s.settle l p v r .immediate = _)
      rw [State.settledBy_clean hk] at cleaning
      exact .of_cleaning cleaning (h.drawSettled l _)
    · obtain ⟨settled, -⟩ := State.settle_settled hk (rfl : s.settle l p v r .immediate = _)
      exact .of_cleaning (congrArg (·.cleaning) settled.frame) h

theorem State.TakesPart.endAll (ls : List Line) (h : s.TakesPart m) : (s.endAll ls why).TakesPart m := by
  induction ls generalizing s with
  | nil => exact h
  | cons x xs ih => exact ih (h.endAtOnce x why)

/-! ### The report of a stopped loop (R159) -/

/-- A line that takes part on a stopped loop fails FAIL_LOOP. -/
theorem State.TakesPart.fails (h : s.TakesPart m) (hm : m ∈ ls) :
    ∃ k, (s.loopStopReport ls).cleaning.group = some k ∧ ∃ y ∈ k.lines, y.line = m ∧ y.result = .failLoop := by
  obtain ⟨g, hg, hp, x, hx, hl, takes⟩ := h
  unfold State.loopStopReport
  rw [hg]
  dsimp only
  generalize hj : (g.mapLines fun x => if ls.contains x.line then x.mark GroupResult.takesPart .failLoop else x) = j
  have phase : j.phase ≠ .release := by rw [← hj]; exact hp
  have failed : ∃ y ∈ j.lines, y.line = m ∧ y.result = .failLoop := by
    rw [← hj]
    refine ⟨_, List.mem_map_of_mem hx, ?_⟩
    rw [if_pos (by rw [hl]; exact List.contains_iff_mem.mpr hm), GroupLine.mark, if_pos takes]
    exact ⟨hl, rfl⟩
  split
  · next due =>
    obtain ⟨k, hk, -, goes⟩ := s.settleRun_goOn phase (Group.anyPart_iff.mp (due.resolve_left phase))
    obtain ⟨y, hy, yl, fail⟩ := failed
    obtain ⟨z, hz, zl, becomes⟩ := goes y hy
    rw [fail] at becomes
    exact ⟨k, hk, z, hz, zl.trans yl, becomes.failLoop⟩
  · obtain ⟨cleaning, -⟩ := s.abandon_spec (g := j) (ls := j.lines) rfl
    refine ⟨_, congrArg (·.group) cleaning, ?_⟩
    exact failed

theorem State.loopStopReport_idle (ls : List Line) (hg : s.cleaning.group = none) : s.loopStopReport ls = s := by
  rw [State.loopStopReport, hg]

theorem State.loopStopReport_sequenced (s : State) (ls : List Line) : Sequenced s (s.loopStopReport ls) := by
  unfold State.loopStopReport
  split
  · exact .refl s
  · dsimp only
    split
    · exact State.settleRun_sequenced _
    · exact State.abandon_sequenced _

/-! ### A group that waits in RELEASE for draws alone (R147, R155) -/

/-- A line and its result. -/
def GroupLine.kept (x : GroupLine) : Line × GroupResult := (x.line, x.result)

/-- The group `g` waits in RELEASE, each of its draws in flight being a metered CLEAN pour of a line of `ls`. -/
structure State.Waits (s : State) (g : Group) (ls : List Line) (k : Group) : Prop where
  group : s.cleaning.group = some k
  phase : k.phase = .release
  lines : k.lines.map GroupLine.kept = g.lines.map GroupLine.kept
  modes : ∀ x ∈ k.lines, (s.line x.line).mode = .cleaning
  waiting : ∃ x ∈ k.lines, x.draw ≠ none
  draws : ∀ x ∈ k.lines, x.draw ≠ none → x.line ∈ ls ∧ 2 ≤ (s.pour x.line).record.code ∧
    ∃ p, (s.pour x.line).record.pour = some p ∧ p.kind = .clean

/-- The group `g` has been released. -/
def State.Freed (s : State) (g : Group) : Prop :=
  s.cleaning.group = none ∧ ∀ x ∈ g.lines, (s.line x.line).cleanResult = x.result.toClean ∧
    (s.line x.line).mode = if x.result = .pass ∨ x.result = .aborted then .water else .foul

theorem State.Freed.endAll (ls : List Line) (h : s.Freed g) : (s.endAll ls why).Freed g := by
  obtain ⟨group, each⟩ := h
  obtain ⟨cleaning, -, rest⟩ := State.endAll_ungrouped (why := why) ls s group
  refine ⟨(congrArg (·.group) cleaning).trans group, fun x hx => ?_⟩
  obtain ⟨result, mode⟩ := each x hx
  have rests : (s.line x.line).Rests := by
    rw [LineRec.Rests, mode]
    split
    · exact .inr (.inl rfl)
    · exact .inr (.inr rfl)
  obtain ⟨mode', result'⟩ := rest x.line rests
  exact ⟨result'.trans result, mode'.trans mode⟩

/-- An end at once that is no settlement of a CLEAN draw leaves the group waiting. -/
theorem State.Waits.keep {k : Group} (h : s.Waits g (l :: ls) k) (cleaning : t.cleaning = s.cleaning)
    (modes : ∀ m, (s.line m).mode = .cleaning → (t.line m).mode = .cleaning) (pours : ∀ m, m ≠ l → t.pour m = s.pour m)
    (other : ∀ p, (s.pour l).record.pour = some p → 2 ≤ (s.pour l).record.code → p.kind ≠ .clean) : t.Waits g ls k := by
  obtain ⟨group, phase, lines, modes', waiting, draws⟩ := h
  refine ⟨by rw [cleaning]; exact group, phase, lines, fun x hx => modes _ (modes' x hx), waiting, fun x hx draw => ?_⟩
  obtain ⟨mem, code, p, hp, clean⟩ := draws x hx draw
  have apart : x.line ≠ l := fun e => by
    rw [e] at hp code
    exact other p hp code clean
  rw [pours _ apart]
  exact ⟨List.mem_of_ne_of_mem apart mem, code, p, hp, clean⟩

/-- The settlement of a CLEAN draw leaves the group waiting for the others, or releases it. -/
theorem State.Waits.settles {k : Group} (h : s.Waits g (l :: ls) k) (hd : (g.lines.map GroupLine.line).Nodup) {n : Nat}
    (cleaning : t.cleaning = (s.drawSettled l n).cleaning) (lines : t.lineTable = (s.drawSettled l n).lineTable)
    (pours : ∀ m, m ≠ l → t.pour m = s.pour m) : (∃ j, t.Waits g ls j) ∨ t.Freed g := by
  obtain ⟨group, phase, kept, modes, -, draws⟩ := h
  obtain ⟨j, hj⟩ : ∃ j, j = k.mapLines (GroupLine.drawSettled k l n) := ⟨_, rfl⟩
  have run : s.drawSettled l n = (s.settleRun j).considerRelease := by rw [State.drawSettled, group, hj]
  have same : j.lines.map GroupLine.kept = g.lines.map GroupLine.kept := by
    rw [← kept, hj, Group.mapLines, List.map_map]
    refine List.map_congr_left fun x _ => ?_
    obtain ⟨line, result⟩ := x.drawSettled_same k l n
    exact Prod.ext line result
  have nodup : (j.lines.map GroupLine.line).Nodup := by
    have e := congrArg (List.map Prod.fst) same
    simp only [List.map_map] at e
    exact (show j.lines.map GroupLine.line = g.lines.map GroupLine.line from e) ▸ hd
  have cleans : ∀ z ∈ j.lines, (s.line z.line).mode = .cleaning := fun z hz => by
    rw [hj] at hz
    obtain ⟨x, hx, rfl⟩ := List.mem_map.mp hz
    rw [(x.drawSettled_same k l n).1]
    exact modes x hx
  have hjp : j.phase = .release := by rw [hj]; exact phase
  rw [run] at cleaning lines
  by_cases left : ∃ z ∈ j.lines, z.draw ≠ none
  · rw [State.settleRun_waits (.inl ⟨hjp, left⟩)] at cleaning lines
    refine .inl ⟨j, by rw [cleaning]; rfl, hjp, same, fun z hz => ?_, left, fun z hz draw => ?_⟩
    · rw [State.line_congr lines]; exact cleans z hz
    · rw [hj] at hz
      obtain ⟨x, hx, rfl⟩ := List.mem_map.mp hz
      have apart : x.line ≠ l := fun e => draw (by
        unfold GroupLine.drawSettled
        rw [if_pos e]
        split <;> rfl)
      have idle : x.drawSettled k l n = x := if_neg apart
      rw [idle] at draw ⊢
      obtain ⟨mem, rest⟩ := draws x hx draw
      rw [pours _ apart]
      exact ⟨List.mem_of_ne_of_mem apart mem, rest⟩
  · have done : ∀ z ∈ j.lines, z.draw = none := fun z hz => by_contra fun h => left ⟨z, hz, h⟩
    obtain ⟨freed, each⟩ := State.settleRun_releases hjp done nodup cleans rfl
    refine .inr ⟨by rw [cleaning, freed], fun x hx => ?_⟩
    have mem : x.kept ∈ j.lines.map GroupLine.kept := by rw [same]; exact List.mem_map_of_mem hx
    obtain ⟨z, hz, e⟩ := List.mem_map.mp mem
    have line : z.line = x.line := congrArg Prod.fst e
    have result : z.result = x.result := congrArg Prod.snd e
    have freed := each z hz
    rw [line, result] at freed
    rw [State.line_congr lines, freed]
    exact ⟨rfl, rfl⟩

theorem State.Waits.endAtOnce {k : Group} (h : s.Waits g (l :: ls) k) (hd : (g.lines.map GroupLine.line).Nodup) (why : CloseReason) :
    (∃ j, (s.endAtOnce l why).Waits g ls j) ∨ (s.endAtOnce l why).Freed g := by
  obtain ⟨-, -, -, -, -, -, pours⟩ := s.endAtOnce_ended l why
  obtain ⟨hp, run⟩ | ⟨p, n, hp, run⟩ | ⟨p, v, r, hp, hcode, run⟩ := s.endAtOnce_cases l why
  · refine .inl ⟨k, h.keep (by rw [run]) (fun m => by rw [run]; exact id) pours fun p _ code => ?_⟩
    rw [hp] at code
    exact absurd code (by decide)
  · refine .inl ⟨k, h.keep (by rw [run, State.withdraw_frame]) (fun m => by rw [run, State.withdraw_frame]; exact id) pours
      fun p _ code => ?_⟩
    rw [hp] at code
    exact absurd code (Nat.not_succ_le_self 1)
  · obtain ⟨lines, -, -, -, cleaning, -⟩ := State.settle_tables (rfl : s.settle l p v r .immediate = _)
    by_cases hk : p.kind = .clean
    · rw [State.settledBy_clean hk] at lines cleaning
      exact h.settles hd (n := deliveredML p.v) (by rw [run]; exact cleaning) (by rw [run]; exact lines) pours
    · obtain ⟨settled, -⟩ := State.settle_settled hk (rfl : s.settle l p v r .immediate = _)
      refine .inl ⟨k, h.keep (by rw [run]; exact congrArg (·.cleaning) settled.frame) (fun m hm => ?_) pours fun q hq _ => ?_⟩
      · rw [run]
        by_cases e : m = l
        · subst e
          rw [State.line_congr lines]
          exact (State.settledBy_rests hk s m v r .immediate (.inl hm)).1.trans hm
        · rw [show (s.settle l p v r .immediate).line m = s.line m from settled.lines m e]; exact hm
      · rw [hp] at hq
        cases hq
        exact hk

/-- The end of every pour of the loop settles the draws that the group waits for, and the last one releases it. -/
theorem State.Waits.endAll {k : Group} (h : s.Waits g ls k) (hd : (g.lines.map GroupLine.line).Nodup) (why : CloseReason) :
    (s.endAll ls why).Freed g := by
  induction ls generalizing s k with
  | nil =>
    obtain ⟨x, hx, draw⟩ := h.waiting
    exact absurd (h.draws x hx draw).1 List.not_mem_nil
  | cons l ls ih =>
    obtain ⟨j, waits⟩ | freed := h.endAtOnce hd why
    · exact ih waits
    · exact freed.endAll ls

end

end Sys2Proof.Machine
end

section
/-! PROOF. LOOP_STOP and LOOP_RESET (R116, R117). -/

namespace Sys2Proof.Machine
open Sys2Proof.Laws

section
variable {s t : State} {l : Line} {i : LoopId}

theorem State.mem_loopLines : l ∈ s.loopLines i ↔ ∃ k, s.bound ⟨i, k⟩ = some l := by
  rw [State.loopLines, List.mem_filterMap]
  exact ⟨fun ⟨k, _, h⟩ => ⟨k, h⟩, fun ⟨k, h⟩ => ⟨k, mem_indices k, h⟩⟩

/-- A cleared loop has a fresh receive state wherever it had one (R117). -/
theorem LoopRec.look_cleared (r : LoopRec) (k : Slot) : look r.cleared.recv k = (look r.recv k).map fun _ => RecvState.fresh := by
  have fold (xs : List Slot) (v : Vector (Option RecvState) 24) :
      look (xs.foldl (fun v k => if (look v k).isSome then put v k (some RecvState.fresh) else v) v) k =
        if k ∈ xs then (look v k).map fun _ => RecvState.fresh else look v k := by
    induction xs generalizing v with
    | nil => rfl
    | cons x xs ih =>
      rw [List.foldl_cons, ih]
      by_cases e : k = x
      · subst e
        rw [if_pos (List.mem_cons_self ..)]
        cases h : look v k <;> simp [h]
      · have same : look (if (look v x).isSome then put v x (some RecvState.fresh) else v) k = look v k := by
          split
          · exact look_put_ne _ _ _ _ e
          · rfl
        rw [same]
        exact if_congr (List.mem_cons.trans (or_iff_right e)).symm rfl rfl
  simp only [LoopRec.cleared]
  rw [fold, if_pos (mem_indices k)]

/-- The loop `i` of a state cleared, when its record is the stopped one of `s`. -/
theorem State.cleared_of (stopped : (t.loop i).state = .stopped) (slots : (t.loop i).slotCount = (s.loop i).slotCount)
    (recv : (t.loop i).recv = (s.loop i).recv) (others : ∀ j, j ≠ i → t.loop j = s.loop j) (a : List Byte) :
    LoopCleared s ((t.setLoop i (t.loop i).cleared).ok a) i := by
  have loop (j : LoopId) : ((t.setLoop i (t.loop i).cleared).ok a).loop j = (t.setLoop i (t.loop i).cleared).loop j := rfl
  rw [LoopCleared, loop, State.loop_setLoop_same]
  refine ⟨stopped, slots, rfl, rfl, rfl, fun k => ⟨?_, ?_⟩, fun j hj => ?_⟩
  · exact look_replicate _ k
  · rw [LoopRec.look_cleared, recv]; rfl
  · rw [loop, State.loop_setLoop_ne _ _ _ _ hj, others j hj]

/-! ### The stop (R116) -/

/-- The loop marked stopped, its slot abandoned. -/
def State.halted (s : State) (i : LoopId) : State := s.setLoop i { s.loop i with state := .stopped, slot := none }

theorem State.halted_frame (s : State) (i : LoopId) : s.halted i = { s with tapLoops := (s.halted i).tapLoops } := State.setLoop_frame ..

theorem State.stopLoop_eq (s : State) (i : LoopId) :
    s.stopLoop i = ((s.halted i).endAll (s.loopLines i) .loopStopped).loopStopReport (s.loopLines i) := rfl

theorem State.halted_pour (l : Line) : (s.halted i).pour l = s.pour l := by rw [s.halted_frame i]; rfl
theorem State.halted_line (l : Line) : (s.halted i).line l = s.line l := by rw [s.halted_frame i]; rfl
theorem State.halted_cleaning : (s.halted i).cleaning = s.cleaning := by rw [s.halted_frame i]

/-- A stop leaves the loop records as the halt does. -/
theorem State.stopLoop_loops (s : State) (i : LoopId) : (s.stopLoop i).loop i = { s.loop i with state := .stopped, slot := none } ∧
    ∀ j, j ≠ i → (s.stopLoop i).loop j = s.loop j := by
  have frame := ((s.halted i).endAll (s.loopLines i) .loopStopped).loopStopReport_sequenced (s.loopLines i)
  rw [← State.stopLoop_eq] at frame
  have loops : (s.stopLoop i).tapLoops = (s.halted i).tapLoops :=
    (congrArg (·.tapLoops) frame).trans (State.endAll_tapLoops ..)
  refine ⟨?_, fun j hj => ?_⟩
  · rw [State.loop_congr loops]; exact State.loop_setLoop_same _ _ _
  · rw [State.loop_congr loops]; exact State.loop_setLoop_ne _ _ _ _ hj

theorem State.stopLoop_pour (s : State) (i : LoopId) :
    (s.stopLoop i).pourControl = ((s.halted i).endAll (s.loopLines i) .loopStopped).pourControl := by
  have frame := ((s.halted i).endAll (s.loopLines i) .loopStopped).loopStopReport_sequenced (s.loopLines i)
  exact congrArg (·.pourControl) frame

theorem State.stopLoop_ungrouped (hg : s.cleaning.group = none) :
    s.stopLoop i = (s.halted i).endAll (s.loopLines i) .loopStopped := by
  obtain ⟨cleaning, -⟩ := State.endAll_ungrouped (why := .loopStopped) (s.loopLines i) (s.halted i)
    (by rw [State.halted_cleaning]; exact hg)
  rw [State.stopLoop_eq]
  exact State.loopStopReport_idle _ (by rw [cleaning, State.halted_cleaning]; exact hg)

/-- The two counts, by the codes of the records. -/
theorem State.stopCounts_eq (s : State) (i : LoopId) : s.stopCounts i =
    bytesBE 4 ((s.loopLines i).countP fun l => (s.pour l).record.code == 1) ++
    bytesBE 4 ((s.loopLines i).countP fun l => 2 ≤ (s.pour l).record.code) := by
  have waiting : s.waitingOn (s.loopLines i) = (s.loopLines i).countP fun l => (s.pour l).record.code == 1 := by
    unfold State.waitingOn
    refine List.countP_congr fun l _ => ?_
    cases (s.pour l).record <;> simp [PourRec.code]
  have metering : s.meteringOn (s.loopLines i) = (s.loopLines i).countP fun l => 2 ≤ (s.pour l).record.code := by
    unfold State.meteringOn
    refine List.countP_congr fun l _ => ?_
    cases (s.pour l).record <;> simp [PourRec.code]
  rw [State.stopCounts, waiting, metering]

end

/-- Settles O36: a stop by the ends at once that it carries out, and a reset by the record that it clears after them. -/
theorem loopStopEndsThePoursOfTheLoop : Obligations.LoopStopEndsThePoursOfTheLoop := by
  unfold Obligations.LoopStopEndsThePoursOfTheLoop
  intro s i released
  have stop : exec (.loopStop (loopCode i)) s = .next (takeLoopStop (loopCode i) s) :=
    State.running_of_released (f := takeLoopStop (loopCode i)) released
  have reset : exec (.loopReset (loopCode i)) s = .next (takeLoopReset (loopCode i) s) :=
    State.running_of_released (f := takeLoopReset (loopCode i)) released
  rw [takeLoopStop, readLoop_code] at stop
  rw [takeLoopReset, readLoop_code] at reset
  dsimp only at stop reset
  refine ⟨fun stopped => ?_, fun running => ?_⟩
  · have off : ¬(s.loop i).isRunning = true := fun h => LoopRec.isRunning_iff.mp h stopped
    rw [if_neg off] at stop reset
    rw [if_neg off] at reset
    refine ⟨stop, _, reset, State.cleared_of stopped rfl rfl (fun _ _ => rfl) _, ?_⟩
    exact congrArg (State.ok · _) (State.setLoop_frame ..)
  · have on : (s.loop i).isRunning = true := LoopRec.isRunning_iff.mpr running
    rw [if_pos on] at stop reset
    rw [if_pos on, State.stopCounts_eq] at reset
    rw [State.stopCounts_eq] at stop
    generalize bytesBE 4 ((s.loopLines i).countP fun l => (s.pour l).record.code == 1) ++
      bytesBE 4 ((s.loopLines i).countP fun l => 2 ≤ (s.pour l).record.code) = counts at stop reset ⊢
    obtain ⟨loop, others⟩ := s.stopLoop_loops i
    obtain ⟨each, rest⟩ := (s.halted i).endAll_pours (s.loopLines i) .loopStopped
    have pours := s.stopLoop_pour i
    have pour (l : Line) : (s.stopLoop i).pour l = ((s.halted i).endAll (s.loopLines i) .loopStopped).pour l :=
      congrArg (fun x : PourControl => look x.pours l) pours
    have trunk (tr : Trunk) : (s.stopLoop i).trunk tr = ((s.halted i).endAll (s.loopLines i) .loopStopped).trunk tr :=
      congrArg (fun x : PourControl => look x.trunks tr) pours
    refine ⟨_, _, stop, reset, State.cleared_of (by rw [loop]) (by rw [loop]) (by rw [loop]) others _, ?_, loop, others,
      fun k l hk => ?_, fun l hl => ⟨?_, fun hg => ?_⟩, fun idle hg => ?_, fun g x k hg hp hx takes hk => ?_,
      fun g hg hp hd modes some draws => ?_, rfl⟩
    · exact congrArg (State.ok · counts) (State.setLoop_frame ..)
    · have mem : l ∈ s.loopLines i := State.mem_loopLines.mpr ⟨k, hk⟩
      have ends := each l mem
      rw [State.halted_pour, ← pour] at ends
      refine ⟨ends.record, ends.shown, ends.idle, fun p n hp => ⟨ends.waiting p n hp, fun c hc => ?_⟩, ends.pouring, ends.tailing⟩
      change l ∉ ((s.stopLoop i).trunk c.trunk).queue
      rw [trunk]
      exact State.endAll_withdraws _ _ mem (by rw [State.halted_pour]; exact hp) (by rw [State.halted_line, hc]; rfl)
    · have apart : l ∉ s.loopLines i := fun h => by
        obtain ⟨k, hk⟩ := State.mem_loopLines.mp h
        exact hl k hk
      exact ((pour l).trans (rest l apart)).trans (State.halted_pour l)
    · have apart : l ∉ s.loopLines i := fun h => by
        obtain ⟨k, hk⟩ := State.mem_loopLines.mp h
        exact hl k hk
      obtain ⟨-, kept, -⟩ := State.endAll_ungrouped (why := .loopStopped) (s.loopLines i) (s.halted i)
        (by rw [State.halted_cleaning]; exact hg)
      obtain ⟨line, kegs⟩ := kept l apart
      rw [State.stopLoop_ungrouped hg]
      exact ⟨line.trans (State.halted_line l), kegs.trans (by rw [s.halted_frame i]; rfl)⟩
    · rw [State.stopLoop_ungrouped hg, State.endAll_idle]
      · exact congrArg (State.ok · counts) (s.halted_frame i)
      · intro l hl
        obtain ⟨k, hk⟩ := State.mem_loopLines.mp hl
        rw [State.halted_pour]
        exact idle k l hk
    · have part : (s.halted i).TakesPart x.line := .of_cleaning State.halted_cleaning ⟨g, hg, hp, x, hx, rfl, takes⟩
      exact (part.endAll (why := .loopStopped) (s.loopLines i)).fails (State.mem_loopLines.mpr ⟨k, hk⟩)
    · have waits : (s.halted i).Waits g (s.loopLines i) g := {
        group := by rw [State.halted_cleaning]; exact hg
        phase := hp
        lines := rfl
        modes := fun x hx => by rw [State.halted_line]; exact modes x hx
        waiting := some
        draws := fun x hx draw => by
          obtain ⟨bound, code⟩ := draws x hx draw
          rw [State.halted_pour]
          exact ⟨State.mem_loopLines.mpr bound, code⟩ }
      obtain ⟨group, freed⟩ := waits.endAll hd .loopStopped
      have run : s.stopLoop i = (s.halted i).endAll (s.loopLines i) .loopStopped := by
        rw [State.stopLoop_eq]
        exact State.loopStopReport_idle _ group
      rw [run]
      exact ⟨group, freed⟩

end Sys2Proof.Machine
end
